-- ==== Sys2Proof/Word.lean ====
section
/-! DEFINITION. The byte, the part's one unit of transfer on both ports (R200). Positions, speeds and times are
integers in the spec's own units ("All arithmetic is on integers", 00_scope.md), so they are `Nat` or `Int`. -/

namespace Sys2Proof

/-- One byte of a frame or telegram. -/
abbrev Byte := BitVec 8

end Sys2Proof
end

