-- ==== Sys2Proof/Config.lean ====
section
/-! DEFINITION. What the part fixes (times, bounds, identity) and the one free value the spec leaves open. -/

namespace Sys2Proof.Config

/-- Greatest position in mm (00_scope.md, "Position and the car"). -/
def posMax : Nat := 67108863

/-- Greatest internal position in µm (R31). -/
def pUmMax : Nat := 67108863999

/-- Section records the Section Table holds at most (R4). -/
def recordMax : Nat := 256

/-- `t_lock` of the door leaves, in ms (section 6.1). -/
def tLock : Nat := 500

/-- `t_reopen` of the door leaves, in ms (section 6.1). -/
def tReopen : Nat := 1500

/-- `t_pause` of the door leaves, in ms (section 6.1). -/
def tPause : Nat := 2000

/-- Slot length in ms (R144). -/
def slotMs : Nat := 10

/-- From a beacon's last byte to the next slot start, in ms (R144). -/
def realignMs : Nat := 6

/-- The line clock's timer in ms (R58). -/
def secondMs : Nat := 1000

/-- The init sequence "completes within 1 ms of its start" (R149). DESIGN CHOICE: it takes 1 ms. Log 28. -/
def initMs : Nat := 1

/-- Cross-check span in µm (R47). -/
def spanUm : Nat := 5000000

/-- Bound of the sum of the braking curve (R93, step 3). -/
def curveSumMax : Nat := 2 ^ 40 - 1

/-- Identity of the part (section 11.5): vendor, part, revision. -/
def vendor : Nat := 0x0157
def partCode : Nat := 0x4028
def revision : Nat := 3

/-- FREE VALUE: the four bytes that carry a quantity outside 0 .. 2^32 - 1, such as a curve point below position 0
or a rollback accumulator past 4,294 m. R200 gives such a field four unsigned bytes and states no encoding for
these values. Log 22. -/
opaque wide32 : Int → BitVec 32

end Sys2Proof.Config
end

