-- ==== Sys2Proof/Syntax.lean ====
section
/-! DEFINITION. The commands of the block: one constructor of `Instr` per row of spec/opcode_table.json.
A host request carries its argument bytes as numbers, read at the widths of R200 and not yet judged; a telegram
carries the slot it came in, the header fields acceptance reads and its payload. -/

namespace Sys2Proof

/-- The two quadrature sensors (R29). -/
inductive Sensor where
  | pinion
  | wheel
  deriving DecidableEq, Repr

/-- The sign of one quadrature count: `up` is +1 (R29). -/
inductive Sense where
  | up
  | down
  deriving DecidableEq, Repr

/-- The six door leaves (chapter 6). -/
inductive LeafId where
  | l1
  | l2
  | l3
  | r4
  | r5
  | r6
  deriving DecidableEq, Repr

/-- Destination kinds of a telegram and of an acceptance filter (R164, R166). -/
inductive DestKind where
  | car
  | group
  | all
  deriving DecidableEq, Repr

/-- The host requests of the catalogue (section 10.6), used where a response echoes the request code. -/
inductive Req where
  | nop | readPage | ident | readEvents | clearEvents | setEventMask | readParameter | setParameter | reset
  | lineLoadBegin | appendSection | lineLoadEnd | readLine | readSection | readSectionNext | setSectionCursor
  | readWindow | stageSection | commitStage | abortStage | readStage
  | setPosition | readOdometry | readMarkReport
  | putRestriction | retireRestriction | setTime | lookupRestriction | readRestriction | nextRestriction
  | setRestrictionCursor | readRestrictionStatus | readRestrictionLog
  | setMode | setDirection | readSupervision
  | brakeDemand | releaseTrip | readBrakes
  | releaseSide | closeSide | closeAll | isolateLeaf | restoreLeaf | readDoors | readDoorFault
  | setSlot | radioReset | setChannel | readRadio | readChannel
  | setFilter | readFilter | readTelegrams | readUplink
  | setSweep | setCalibration | setWindow | readAnalog
  deriving DecidableEq, Repr

/-- A section record as its 31 bytes carry it (R201), before the range checks of R6 and R18. -/
structure SectionWire where
  number : Nat
  start : Nat
  length : Nat
  gradient : Int
  kind : Nat
  side : Nat
  cell : Nat
  tunnel : Bool
  platformPresent : Bool
  markPresent : Bool
  limitUp : Nat
  limitDown : Nat
  platformId : Nat
  platformBegin : Nat
  platformEnd : Nat
  mark : Nat
  deriving DecidableEq, Repr

/-- A staging block: update id, first section number, count, index and one record (R18). -/
structure BlockWire where
  id : Nat
  first : Nat
  count : Nat
  index : Nat
  record : SectionWire
  deriving DecidableEq, Repr

/-- The restriction put fields as their 23 bytes carry them (R201). An absent time is `none`. -/
structure PutWire where
  id : Nat
  kind : Nat
  direction : Nat
  lo : Nat
  hi : Nat
  limit : Nat
  activation : Option Nat
  expiry : Option Nat
  deriving DecidableEq, Repr

/-- The slot a telegram came in: its index, and whether it was routed RECEIVE at its start. A telegram is handed on with
its slot index (R145, R146, R164). -/
structure Came where
  slot : Nat
  receive : Bool
  deriving DecidableEq, Repr

/-- The header fields of a downlink telegram that R164 to R168 read after the kind, and the slot it came in. -/
structure TgHeader where
  dest : DestKind
  address : Nat
  station : Nat
  came : Came
  deriving DecidableEq, Repr

/-- Where a beacon comes from: its source code, and the slot it came in (R151, R164). -/
structure BeaconOrigin where
  code : Nat
  came : Came
  deriving DecidableEq, Repr

/-- The arguments of SET_CALIBRATION (R184). -/
structure CalWire where
  channel : Nat
  rawLo : Nat
  engLo : Nat
  rawHi : Nat
  engHi : Nat
  railCheck : Bool
  deriving DecidableEq, Repr

/-- The test of R190 that a refused frame fails. -/
inductive FrameFault where
  | length
  | check
  | unknown (code : Nat)
  deriving DecidableEq, Repr

/-- Where a completed telegram is discarded: not handed on (R145), or at a step of R164. -/
inductive DiscardStep where
  | notHandedOn
  | check
  | header
  | direction
  | sync
  | address (dest : DestKind) (addr : Nat)
  deriving DecidableEq, Repr

/-- A discarded telegram: the step that discards it, and the slot it came in. -/
structure Discard where
  step : DiscardStep
  came : Came
  deriving DecidableEq, Repr

/-- The commands of the CX40: every row of spec/opcode_table.json. -/
inductive Instr where
  | powerOnReset
  | hostFrameRefused (why : FrameFault)
  | nop
  | readPage (page : Nat)
  | ident
  | readEvents
  | clearEvents (set : BitVec 16)
  | setEventMask (set : BitVec 16)
  | readParameter (number : Nat)
  | setParameter (number value : Nat)
  | reset
  | lineLoadBegin
  | appendSection (r : SectionWire)
  | lineLoadEnd
  | readLine
  | readSection (index : Nat)
  | readSectionNext
  | setSectionCursor (index : Nat)
  | readWindow (offset : Int)
  | stageSection (b : BlockWire)
  | commitStage (id crc : Nat)
  | abortStage (id : Nat)
  | readStage
  | setPosition (p u : Nat)
  | readOdometry
  | readMarkReport
  | putRestriction (w : PutWire)
  | retireRestriction (id : Nat)
  | setTime (value : Nat)
  | lookupRestriction (issuer id : Nat)
  | readRestriction (index : Nat)
  | nextRestriction
  | setRestrictionCursor (index : Nat)
  | readRestrictionStatus
  | readRestrictionLog
  | setMode (code : Nat)
  | setDirection (code : Nat)
  | readSupervision
  | brakeDemand (level : Nat) (emergency : Bool)
  | releaseTrip
  | readBrakes
  | releaseSide (side : Nat) (autoOpen : Bool)
  | closeSide (side : Nat)
  | closeAll
  | isolateLeaf (leaf : Nat)
  | restoreLeaf (leaf : Nat)
  | readDoors
  | readDoorFault (leaf : Nat)
  | setSlot (slot route : Nat)
  | radioReset
  | setChannel (cell channel : Nat)
  | readRadio
  | readChannel (cell : Nat)
  | setFilter (index : Nat) (enable : Bool) (kind value mask : Nat)
  | readFilter (index : Nat)
  | readTelegrams
  | readUplink (position : Nat)
  | setSweep (mode emphasis : Nat)
  | setCalibration (c : CalWire)
  | setWindow (channel low high : Nat)
  | readAnalog (channel : Nat)
  | quadratureCount (sensor : Sensor) (sense : Sense)
  | phaseError (sensor : Sensor)
  | markDetection
  | clsChange (leaf : LeafId) (on : Bool)
  | lksChange (leaf : LeafId) (on : Bool)
  | opsChange (leaf : LeafId) (on : Bool)
  | pbPressed (leaf : LeafId) (on : Bool)
  | conversionComplete (raw : Nat)
  | positionSample
  | lineClockAdvance
  | holdTimerExpiry
  | tRelExpiry
  | tAppExpiry
  | deficitTimerExpiry
  | tLockExpiry (leaf : LeafId)
  | tOpenExpiry (leaf : LeafId)
  | tCloseExpiry (leaf : LeafId)
  | tReopenExpiry (leaf : LeafId)
  | tPauseExpiry (leaf : LeafId)
  | slotStart
  | initSequenceEnd
  | holdoverTimerExpiry
  | radioLossTimerExpiry
  | telegramDiscarded (step : Discard)
  | beacon (frame cell : Nat) (source : BeaconOrigin)
  | time (h : TgHeader) (value : Nat)
  | restrict (h : TgHeader) (w : PutWire)
  | revoke (h : TgHeader) (id : Nat)
  | sectionBlock (h : TgHeader) (b : BlockWire)
  | sectionCommit (h : TgHeader) (id crc : Nat)
  | sectionAbort (h : TgHeader) (id : Nat)
  | slotGrant (h : TgHeader) (slot period phase : Nat)
  | poll (h : TgHeader)
  | emergencyStop (h : TgHeader)
  | stopRelease (h : TgHeader)
  deriving DecidableEq, Repr

end Sys2Proof
end

