-- ==== Sys2Proof/Machine/Bytes.lean ====
section
/-! DEFINITION. The part's one CRC (R3) and the encoding of fields as bytes (R200), and the request codes (section
11.5). -/

namespace Sys2Proof.Machine

/-- One bit of the CRC register: shift left, and add the polynomial x^16 + x^12 + x^5 + 1 when the bit shifted out is
set (R3). -/
def crcBit (c : BitVec 16) : BitVec 16 :=
  if c.msb then (c <<< 1) ^^^ 0x1021#16 else c <<< 1

/-- One byte into the CRC register, most significant bit first (R3). -/
def crcByte (c : BitVec 16) (b : Byte) : BitVec 16 :=
  crcBit (crcBit (crcBit (crcBit (crcBit (crcBit (crcBit (crcBit (c ^^^ (b.zeroExtend 16 <<< 8)))))))))

/-- The part's CRC over a run of bytes: initial value 0xFFFF, no final inversion (R3). -/
def crc16 (bs : List Byte) : BitVec 16 := bs.foldl crcByte 0xFFFF#16

/-- A one-byte field. -/
def u8 (n : Nat) : List Byte := [BitVec.ofNat 8 n]

/-- A two-byte unsigned field, high byte first. -/
def u16 (n : Nat) : List Byte := [BitVec.ofNat 8 (n / 256), BitVec.ofNat 8 n]

/-- A four-byte field from its 32 bits, high byte first. -/
def bits32 (w : BitVec 32) : List Byte :=
  [w.extractLsb' 24 8, w.extractLsb' 16 8, w.extractLsb' 8 8, w.extractLsb' 0 8]

/-- A four-byte unsigned field. A value that does not fit is a free value (log 22). -/
def u32 (n : Int) : List Byte :=
  if 0 ≤ n ∧ n < 4294967296 then bits32 (BitVec.ofInt 32 n) else bits32 (Config.wide32 n)

/-- A four-byte signed field in two's complement. -/
def i32 (n : Int) : List Byte := bits32 (BitVec.ofInt 32 n)

/-- A signed speed in mm/s: two bytes, a speed beyond the width sent at the nearer limit (R200). -/
def speed16 (v : Int) : List Byte :=
  u16 (BitVec.ofInt 16 (if v < -32768 then -32768 else if v > 32767 then 32767 else v)).toNat

/-- A signed two-byte field. -/
def i16 (v : Int) : List Byte := u16 (BitVec.ofInt 16 v).toNat

/-- A flag byte: 0 clear, 1 set (R200). -/
def flag8 (b : Bool) : List Byte := [if b then 1#8 else 0#8]

/-- A field that may be none, sent with every bit set when it is (R200). -/
def none8 (o : Option Nat) : List Byte := o.elim [0xFF#8] u8
def none16 (o : Option Nat) : List Byte := o.elim [0xFF#8, 0xFF#8] u16
def none32 (o : Option Int) : List Byte := o.elim [0xFF#8, 0xFF#8, 0xFF#8, 0xFF#8] u32

/-- A field preceded by a presence flag, 0 while absent (R200). -/
def flagged8 (o : Option Nat) : List Byte := o.elim [0#8, 0#8] (fun n => 1#8 :: u8 n)
def flagged16 (o : Option Nat) : List Byte := o.elim [0#8, 0#8, 0#8] (fun n => 1#8 :: u16 n)
def flagged32 (o : Option Nat) : List Byte := o.elim [0#8, 0#8, 0#8, 0#8, 0#8] (fun n => 1#8 :: u32 n)

/-- The record bytes of an answer that returns no record: 0, at the fixed length of the request's answer (R200,
log 18). -/
def noRecord (n : Nat) : List Byte := List.replicate n 0#8

/-- `bs` cut or padded with 0 to `n` bytes. -/
def padTo (n : Nat) (bs : List Byte) : List Byte := bs.take n ++ List.replicate (n - bs.length) 0#8

/-- A run of bytes with its CRC behind it, high byte first (R3). -/
def withCrc (bs : List Byte) : List Byte := bs ++ u16 (crc16 bs).toNat

/-- Byte `i` of a run, as a number. -/
def byteAt (bs : List Byte) (i : Nat) : Nat := (bs.getD i 0#8).toNat

/-- The two-byte number at `i`, high byte first. -/
def wordAt (bs : List Byte) (i : Nat) : Nat := byteAt bs i * 256 + byteAt bs (i + 1)

/-- The four-byte number at `i`, high byte first. -/
def longAt (bs : List Byte) (i : Nat) : Nat := wordAt bs i * 65536 + wordAt bs (i + 2)

/-- A run of `n + 2` bytes carries the CRC of its first `n` behind them (R190, R164). -/
def crcGood (n : Nat) (bs : List Byte) : Bool := (crc16 (bs.take n)).toNat == wordAt bs n

/-- Request codes (section 11.5). -/
def reqCode : Req → Nat
  | .nop => 0x01 | .readPage => 0x02 | .ident => 0x03 | .readEvents => 0x04 | .clearEvents => 0x05
  | .setEventMask => 0x06 | .readParameter => 0x07 | .setParameter => 0x08 | .reset => 0x09
  | .lineLoadBegin => 0x10 | .appendSection => 0x11 | .lineLoadEnd => 0x12 | .readLine => 0x13
  | .readSection => 0x14 | .readSectionNext => 0x15 | .setSectionCursor => 0x16 | .readWindow => 0x17
  | .stageSection => 0x18 | .commitStage => 0x19 | .abortStage => 0x1A | .readStage => 0x1B
  | .setPosition => 0x20 | .readOdometry => 0x21 | .readMarkReport => 0x22
  | .putRestriction => 0x28 | .retireRestriction => 0x29 | .setTime => 0x2A | .lookupRestriction => 0x2B
  | .readRestriction => 0x2C | .nextRestriction => 0x2D | .setRestrictionCursor => 0x2E
  | .readRestrictionStatus => 0x2F | .readRestrictionLog => 0x30
  | .setMode => 0x38 | .setDirection => 0x39 | .readSupervision => 0x3A
  | .brakeDemand => 0x40 | .releaseTrip => 0x41 | .readBrakes => 0x42
  | .releaseSide => 0x48 | .closeSide => 0x49 | .closeAll => 0x4A | .isolateLeaf => 0x4B | .restoreLeaf => 0x4C
  | .readDoors => 0x4D | .readDoorFault => 0x4E
  | .setSlot => 0x50 | .radioReset => 0x51 | .setChannel => 0x52 | .readRadio => 0x53 | .readChannel => 0x54
  | .setFilter => 0x58 | .readFilter => 0x59 | .readTelegrams => 0x5A | .readUplink => 0x5B
  | .setSweep => 0x60 | .setCalibration => 0x61 | .setWindow => 0x62 | .readAnalog => 0x63

/-- Byte 0 names a request of the catalogue (R190, test 3); code 0 names none. -/
def codeKnown (c : Nat) : Bool :=
  (1 ≤ c && c ≤ 0x09) || (0x10 ≤ c && c ≤ 0x1B) || (0x20 ≤ c && c ≤ 0x22) || (0x28 ≤ c && c ≤ 0x30)
    || (0x38 ≤ c && c ≤ 0x3A) || (0x40 ≤ c && c ≤ 0x42) || (0x48 ≤ c && c ≤ 0x4E) || (0x50 ≤ c && c ≤ 0x54)
    || (0x58 ≤ c && c ≤ 0x5B) || (0x60 ≤ c && c ≤ 0x63)

end Sys2Proof.Machine
end

