-- ==== Sys2Proof/WellFormed.lean ====
section
/-! DEFINITION. Well-formed commands: every operand fits the width of the field that carries it (R200 to R202). What
the owning rule then accepts or refuses is the meaning's matter. -/

namespace Sys2Proof

/-- Fits one byte, two bytes, four bytes, a 20-bit address. -/
def fits8 (n : Nat) : Bool := n < 256
def fits16 (n : Nat) : Bool := n < 65536
def fits32 (n : Nat) : Bool := n < 4294967296
def fits20 (n : Nat) : Bool := n < 1048576

/-- The fields of a 31-byte section record (R201). -/
def SectionWire.wf (r : SectionWire) : Bool :=
  fits16 r.number && fits32 r.start && fits32 r.length && (-32768 ≤ r.gradient && r.gradient < 32768)
    && r.kind < 4 && r.side < 4 && r.cell < 16 && fits16 r.limitUp && fits16 r.limitDown
    && fits8 r.platformId && fits32 r.platformBegin && fits32 r.platformEnd && fits32 r.mark

/-- The fields of a staging block (section 11.2). -/
def BlockWire.wf (b : BlockWire) : Bool :=
  fits16 b.id && fits16 b.first && fits8 b.count && fits8 b.index && b.record.wf

/-- The restriction put fields (R201). -/
def PutWire.wf (w : PutWire) : Bool :=
  fits16 w.id && fits8 w.kind && fits8 w.direction && fits32 w.lo && fits32 w.hi && fits16 w.limit
    && w.activation.all fits32 && w.expiry.all fits32

/-- A slot 0..7; slot 0 is RECEIVE at all times (R146). -/
def Came.wf (c : Came) : Bool := c.slot < 8 && (c.slot != 0 || c.receive)

/-- The header of a telegram (R202): a 20-bit address and a one-byte station; and its slot. -/
def TgHeader.wf (h : TgHeader) : Bool := fits20 h.address && fits8 h.station && h.came.wf

/-- The origin of a beacon (R202): a one-byte source code; and its slot. -/
def BeaconOrigin.wf (o : BeaconOrigin) : Bool := fits8 o.code && o.came.wf

/-- A discarded telegram: the 20-bit address of one discarded by its address; and its slot. -/
def Discard.wf (d : Discard) : Bool :=
  d.came.wf && match d.step with
    | .address _ a => fits20 a
    | .notHandedOn => true
    | .check => true
    | .header => true
    | .direction => true
    | .sync => true

/-- The arguments of SET_CALIBRATION. -/
def CalWire.wf (c : CalWire) : Bool :=
  fits8 c.channel && fits16 c.rawLo && fits16 c.engLo && fits16 c.rawHi && fits16 c.engHi

/-- A command whose operands its frame, telegram or line can carry. -/
def Instr.wf : Instr → Bool
  | .powerOnReset => true
  | .hostFrameRefused (.unknown c) => fits8 c && !Machine.codeKnown c
  | .hostFrameRefused .length => true
  | .hostFrameRefused .check => true
  | .nop => true
  | .readPage p => fits8 p
  | .ident => true
  | .readEvents => true
  | .clearEvents _ => true
  | .setEventMask _ => true
  | .readParameter n => fits8 n
  | .setParameter n v => fits8 n && fits32 v
  | .reset => true
  | .lineLoadBegin => true
  | .appendSection r => r.wf
  | .lineLoadEnd => true
  | .readLine => true
  | .readSection i => fits8 i
  | .readSectionNext => true
  | .setSectionCursor i => fits8 i
  | .readWindow k => -128 ≤ k && k < 128
  | .stageSection b => b.wf
  | .commitStage id crc => fits16 id && fits16 crc
  | .abortStage id => fits16 id
  | .readStage => true
  | .setPosition p u => fits32 p && fits32 u
  | .readOdometry => true
  | .readMarkReport => true
  | .putRestriction w => w.wf
  | .retireRestriction id => fits16 id
  | .setTime v => fits32 v
  | .lookupRestriction i id => fits8 i && fits16 id
  | .readRestriction i => fits8 i
  | .nextRestriction => true
  | .setRestrictionCursor i => fits8 i
  | .readRestrictionStatus => true
  | .readRestrictionLog => true
  | .setMode c => fits8 c
  | .setDirection c => fits8 c
  | .readSupervision => true
  | .brakeDemand l _ => fits8 l
  | .releaseTrip => true
  | .readBrakes => true
  | .releaseSide c _ => fits8 c
  | .closeSide c => fits8 c
  | .closeAll => true
  | .isolateLeaf c => fits8 c
  | .restoreLeaf c => fits8 c
  | .readDoors => true
  | .readDoorFault c => fits8 c
  | .setSlot k r => fits8 k && fits8 r
  | .radioReset => true
  | .setChannel c ch => fits8 c && fits8 ch
  | .readRadio => true
  | .readChannel c => fits8 c
  | .setFilter i _ k v m => fits8 i && fits8 k && fits32 v && fits32 m
  | .readFilter i => fits8 i
  | .readTelegrams => true
  | .readUplink p => fits8 p
  | .setSweep m e => fits8 m && fits8 e
  | .setCalibration c => c.wf
  | .setWindow c lo hi => fits8 c && fits16 lo && fits16 hi
  | .readAnalog c => fits8 c
  | .quadratureCount _ _ => true
  | .phaseError _ => true
  | .markDetection => true
  | .clsChange _ _ => true
  | .lksChange _ _ => true
  | .opsChange _ _ => true
  | .pbPressed _ _ => true
  | .conversionComplete raw => raw < 1024
  | .positionSample => true
  | .lineClockAdvance => true
  | .holdTimerExpiry => true
  | .tRelExpiry => true
  | .tAppExpiry => true
  | .deficitTimerExpiry => true
  | .tLockExpiry _ => true
  | .tOpenExpiry _ => true
  | .tCloseExpiry _ => true
  | .tReopenExpiry _ => true
  | .tPauseExpiry _ => true
  | .slotStart => true
  | .initSequenceEnd => true
  | .holdoverTimerExpiry => true
  | .radioLossTimerExpiry => true
  | .telegramDiscarded d => d.wf
  | .beacon f c o => fits8 f && fits8 c && o.wf
  | .time h v => h.wf && fits32 v
  | .restrict h w => h.wf && w.wf
  | .revoke h id => h.wf && fits16 id
  | .sectionBlock h b => h.wf && b.wf
  | .sectionCommit h id crc => h.wf && fits16 id && fits16 crc
  | .sectionAbort h id => h.wf && fits16 id
  | .slotGrant h k p f => h.wf && fits8 k && fits8 p && fits8 f
  | .poll h => h.wf
  | .emergencyStop h => h.wf
  | .stopRelease h => h.wf

end Sys2Proof
end

