-- ==== Sys2Proof/Decode.lean ====
section
/-! DEFINITION. What a host frame and a telegram spell (R190, R164, R200 to R202), and `decodeTableWord`. The opcode
table gives its rows no bits, so no table word spells a command; the two ports' own layouts are read here. -/

namespace Sys2Proof

open Machine

/-- The command that `nbits` bits numbered as the opcode table numbers them spell. No row of the table gives bits. -/
def decodeTableWord (_nbits _w : Nat) : Option Instr := none

/-- A signed one-byte and two-byte field in two's complement (R200). -/
def signed8 (n : Nat) : Int := (BitVec.ofNat 8 n).toInt
def signed16 (n : Nat) : Int := (BitVec.ofNat 16 n).toInt

/-- A flag byte on input: any value other than 0 is set (R200). -/
def flagAt (bs : List Byte) (i : Nat) : Bool := byteAt bs i != 0

/-- Bit `k` of byte `i`. -/
def bitAt (bs : List Byte) (i k : Nat) : Bool := byteAt bs i / 2 ^ k % 2 == 1

/-- The 31 bytes of a section record from byte `i` (R201). -/
def sectionWireAt (bs : List Byte) (i : Nat) : SectionWire :=
  { number := wordAt bs i, start := longAt bs (i + 2), length := longAt bs (i + 6),
    gradient := signed16 (wordAt bs (i + 10)),
    kind := byteAt bs (i + 12) / 64, side := byteAt bs (i + 12) / 16 % 4, cell := byteAt bs (i + 12) % 16,
    tunnel := bitAt bs (i + 13) 0, platformPresent := bitAt bs (i + 13) 1, markPresent := bitAt bs (i + 13) 2,
    limitUp := wordAt bs (i + 14), limitDown := wordAt bs (i + 16), platformId := byteAt bs (i + 18),
    platformBegin := longAt bs (i + 19), platformEnd := longAt bs (i + 23), mark := longAt bs (i + 27) }

/-- A staging block from byte `i` (section 11.2, R202). -/
def blockWireAt (bs : List Byte) (i : Nat) : BlockWire :=
  { id := wordAt bs i, first := wordAt bs (i + 2), count := byteAt bs (i + 4), index := byteAt bs (i + 5),
    record := sectionWireAt bs (i + 6) }

/-- The 23 restriction put fields from byte `i` (R201). A time whose presence bit is clear is absent. -/
def putWireAt (bs : List Byte) (i : Nat) : PutWire :=
  { id := wordAt bs i, kind := byteAt bs (i + 2), direction := byteAt bs (i + 3), lo := longAt bs (i + 4),
    hi := longAt bs (i + 8), limit := wordAt bs (i + 12),
    activation := if bitAt bs (i + 14) 0 then some (longAt bs (i + 15)) else none,
    expiry := if bitAt bs (i + 14) 1 then some (longAt bs (i + 19)) else none }

/-- The request a frame's code names, with its arguments from byte 1 (sections 11.2 and 11.5); none when the code
names no request. -/
def requestOf (bs : List Byte) : Option Instr :=
  match byteAt bs 0 with
  | 0x01 => some .nop
  | 0x02 => some (.readPage (byteAt bs 1))
  | 0x03 => some .ident
  | 0x04 => some .readEvents
  | 0x05 => some (.clearEvents (BitVec.ofNat 16 (wordAt bs 1)))
  | 0x06 => some (.setEventMask (BitVec.ofNat 16 (wordAt bs 1)))
  | 0x07 => some (.readParameter (byteAt bs 1))
  | 0x08 => some (.setParameter (byteAt bs 1) (longAt bs 2))
  | 0x09 => some .reset
  | 0x10 => some .lineLoadBegin
  | 0x11 => some (.appendSection (sectionWireAt bs 1))
  | 0x12 => some .lineLoadEnd
  | 0x13 => some .readLine
  | 0x14 => some (.readSection (byteAt bs 1))
  | 0x15 => some .readSectionNext
  | 0x16 => some (.setSectionCursor (byteAt bs 1))
  | 0x17 => some (.readWindow (signed8 (byteAt bs 1)))
  | 0x18 => some (.stageSection (blockWireAt bs 1))
  | 0x19 => some (.commitStage (wordAt bs 1) (wordAt bs 3))
  | 0x1A => some (.abortStage (wordAt bs 1))
  | 0x1B => some .readStage
  | 0x20 => some (.setPosition (longAt bs 1) (longAt bs 5))
  | 0x21 => some .readOdometry
  | 0x22 => some .readMarkReport
  | 0x28 => some (.putRestriction (putWireAt bs 1))
  | 0x29 => some (.retireRestriction (wordAt bs 1))
  | 0x2A => some (.setTime (longAt bs 1))
  | 0x2B => some (.lookupRestriction (byteAt bs 1) (wordAt bs 2))
  | 0x2C => some (.readRestriction (byteAt bs 1))
  | 0x2D => some .nextRestriction
  | 0x2E => some (.setRestrictionCursor (byteAt bs 1))
  | 0x2F => some .readRestrictionStatus
  | 0x30 => some .readRestrictionLog
  | 0x38 => some (.setMode (byteAt bs 1))
  | 0x39 => some (.setDirection (byteAt bs 1))
  | 0x3A => some .readSupervision
  | 0x40 => some (.brakeDemand (byteAt bs 1) (flagAt bs 2))
  | 0x41 => some .releaseTrip
  | 0x42 => some .readBrakes
  | 0x48 => some (.releaseSide (byteAt bs 1) (flagAt bs 2))
  | 0x49 => some (.closeSide (byteAt bs 1))
  | 0x4A => some .closeAll
  | 0x4B => some (.isolateLeaf (byteAt bs 1))
  | 0x4C => some (.restoreLeaf (byteAt bs 1))
  | 0x4D => some .readDoors
  | 0x4E => some (.readDoorFault (byteAt bs 1))
  | 0x50 => some (.setSlot (byteAt bs 1) (byteAt bs 2))
  | 0x51 => some .radioReset
  | 0x52 => some (.setChannel (byteAt bs 1) (byteAt bs 2))
  | 0x53 => some .readRadio
  | 0x54 => some (.readChannel (byteAt bs 1))
  | 0x58 => some (.setFilter (byteAt bs 1) (flagAt bs 2) (byteAt bs 3) (longAt bs 4) (longAt bs 8))
  | 0x59 => some (.readFilter (byteAt bs 1))
  | 0x5A => some .readTelegrams
  | 0x5B => some (.readUplink (byteAt bs 1))
  | 0x60 => some (.setSweep (byteAt bs 1) (byteAt bs 2))
  | 0x61 => some (.setCalibration ⟨byteAt bs 1, wordAt bs 2, wordAt bs 4, wordAt bs 6, wordAt bs 8, flagAt bs 10⟩)
  | 0x62 => some (.setWindow (byteAt bs 1) (wordAt bs 2) (wordAt bs 4))
  | 0x63 => some (.readAnalog (byteAt bs 1))
  | _ => none

/-- The command a host frame spells at the CSN rise: the three tests of R190 in order, then the request. `spareBits`
says that a partial byte followed the last whole one. -/
def hostFrameCommand (taken : List Byte) (spareBits : Bool) : Instr :=
  if taken.length ≠ 40 ∨ spareBits = true then .hostFrameRefused .length
  else if crcGood 38 taken = false then .hostFrameRefused .check
  else (requestOf taken).getD (.hostFrameRefused (.unknown (byteAt taken 0)))

/-- The fixed payload length of each of the thirteen kinds (R202); none for a code that names no kind. -/
def payloadLength : Nat → Option Nat
  | 0x01 => some 3 | 0x02 => some 4 | 0x03 => some 23 | 0x04 => some 2 | 0x05 => some 37 | 0x06 => some 4
  | 0x07 => some 2 | 0x08 => some 3 | 0x09 => some 0 | 0x0A => some 0 | 0x0B => some 0 | 0x20 => some 4
  | 0x21 => some 27 | _ => none

/-- The destination kind of a header's byte 0; code 0 fails step 2 (R202). -/
def destAt (bs : List Byte) : Option DestKind :=
  match byteAt bs 0 / 64 with
  | 1 => some .car
  | 2 => some .group
  | 3 => some .all
  | _ => none

/-- The 20 address bits of a header (R202). -/
def addressAt (bs : List Byte) : Nat := byteAt bs 0 % 16 * 65536 + wordAt bs 1

/-- The command a telegram of a downlink kind spells once its header has passed. -/
def downlinkOf (came : Came) (bs : List Byte) (dest : DestKind) : Instr :=
  let h : TgHeader := ⟨dest, addressAt bs, byteAt bs 4, came⟩
  match byteAt bs 3 with
  | 0x01 => .beacon (byteAt bs 6) (byteAt bs 7) ⟨byteAt bs 8, came⟩
  | 0x02 => .time h (longAt bs 6)
  | 0x03 => .restrict h (putWireAt bs 6)
  | 0x04 => .revoke h (wordAt bs 6)
  | 0x05 => .sectionBlock h (blockWireAt bs 6)
  | 0x06 => .sectionCommit h (wordAt bs 6) (wordAt bs 8)
  | 0x07 => .sectionAbort h (wordAt bs 6)
  | 0x08 => .slotGrant h (byteAt bs 6) (byteAt bs 7) (byteAt bs 8)
  | 0x09 => .poll h
  | 0x0A => .emergencyStop h
  | 0x0B => .stopRelease h
  | _ => .telegramDiscarded ⟨.direction, came⟩

/-- The command a complete telegram of 48 bytes that came in a slot spells: steps 1 to 3 of R164, then its kind. Steps 5 and 6 depend on
the state and belong to the meaning. -/
def telegramCommand (came : Came) (bs : List Byte) : Instr :=
  if bs.length ≠ 48 then .telegramDiscarded ⟨.notHandedOn, came⟩
  else if crcGood 46 bs = false then .telegramDiscarded ⟨.check, came⟩
  else
    match destAt bs with
    | none => .telegramDiscarded ⟨.header, came⟩
    | some dest =>
      if payloadLength (byteAt bs 3) = some (byteAt bs 5) then downlinkOf came bs dest
      else .telegramDiscarded ⟨.header, came⟩

/-! ### The frames and telegrams that carry a command -/

/-- A section record as it is sent, whatever its fields (R201). -/
def sectionWireBytes (r : SectionWire) : List Byte :=
  u16 r.number ++ u32 r.start ++ u32 r.length ++ i16 r.gradient ++ u8 (r.kind * 64 + r.side * 16 + r.cell)
    ++ u8 ((if r.tunnel then 1 else 0) + (if r.platformPresent then 2 else 0) + (if r.markPresent then 4 else 0))
    ++ u16 r.limitUp ++ u16 r.limitDown ++ u8 r.platformId ++ u32 r.platformBegin ++ u32 r.platformEnd ++ u32 r.mark

/-- A staging block as it is sent (section 11.2, R202). -/
def blockWireBytes (b : BlockWire) : List Byte :=
  u16 b.id ++ u16 b.first ++ u8 b.count ++ u8 b.index ++ sectionWireBytes b.record

/-- The restriction put fields as they are sent (R201). -/
def putWireBytes (w : PutWire) : List Byte :=
  u16 w.id ++ u8 w.kind ++ u8 w.direction ++ u32 w.lo ++ u32 w.hi ++ u16 w.limit
    ++ u8 ((if w.activation.isSome then 1 else 0) + (if w.expiry.isSome then 2 else 0))
    ++ u32 (w.activation.getD 0) ++ u32 (w.expiry.getD 0)

/-- The request and argument bytes of a host request; none for a command that is no host request (section 11.2). -/
def requestArgs : Instr → Option (Req × List Byte)
  | .nop => some (.nop, [])
  | .readPage p => some (.readPage, u8 p)
  | .ident => some (.ident, [])
  | .readEvents => some (.readEvents, [])
  | .clearEvents x => some (.clearEvents, u16 x.toNat)
  | .setEventMask x => some (.setEventMask, u16 x.toNat)
  | .readParameter n => some (.readParameter, u8 n)
  | .setParameter n v => some (.setParameter, u8 n ++ u32 v)
  | .reset => some (.reset, [])
  | .lineLoadBegin => some (.lineLoadBegin, [])
  | .appendSection r => some (.appendSection, sectionWireBytes r)
  | .lineLoadEnd => some (.lineLoadEnd, [])
  | .readLine => some (.readLine, [])
  | .readSection i => some (.readSection, u8 i)
  | .readSectionNext => some (.readSectionNext, [])
  | .setSectionCursor i => some (.setSectionCursor, u8 i)
  | .readWindow k => some (.readWindow, [BitVec.ofInt 8 k])
  | .stageSection b => some (.stageSection, blockWireBytes b)
  | .commitStage id crc => some (.commitStage, u16 id ++ u16 crc)
  | .abortStage id => some (.abortStage, u16 id)
  | .readStage => some (.readStage, [])
  | .setPosition p u => some (.setPosition, u32 p ++ u32 u)
  | .readOdometry => some (.readOdometry, [])
  | .readMarkReport => some (.readMarkReport, [])
  | .putRestriction w => some (.putRestriction, putWireBytes w)
  | .retireRestriction id => some (.retireRestriction, u16 id)
  | .setTime v => some (.setTime, u32 v)
  | .lookupRestriction i id => some (.lookupRestriction, u8 i ++ u16 id)
  | .readRestriction i => some (.readRestriction, u8 i)
  | .nextRestriction => some (.nextRestriction, [])
  | .setRestrictionCursor i => some (.setRestrictionCursor, u8 i)
  | .readRestrictionStatus => some (.readRestrictionStatus, [])
  | .readRestrictionLog => some (.readRestrictionLog, [])
  | .setMode c => some (.setMode, u8 c)
  | .setDirection c => some (.setDirection, u8 c)
  | .readSupervision => some (.readSupervision, [])
  | .brakeDemand l e => some (.brakeDemand, u8 l ++ flag8 e)
  | .releaseTrip => some (.releaseTrip, [])
  | .readBrakes => some (.readBrakes, [])
  | .releaseSide c a => some (.releaseSide, u8 c ++ flag8 a)
  | .closeSide c => some (.closeSide, u8 c)
  | .closeAll => some (.closeAll, [])
  | .isolateLeaf c => some (.isolateLeaf, u8 c)
  | .restoreLeaf c => some (.restoreLeaf, u8 c)
  | .readDoors => some (.readDoors, [])
  | .readDoorFault c => some (.readDoorFault, u8 c)
  | .setSlot k r => some (.setSlot, u8 k ++ u8 r)
  | .radioReset => some (.radioReset, [])
  | .setChannel c ch => some (.setChannel, u8 c ++ u8 ch)
  | .readRadio => some (.readRadio, [])
  | .readChannel c => some (.readChannel, u8 c)
  | .setFilter i e k v m => some (.setFilter, u8 i ++ flag8 e ++ u8 k ++ u32 v ++ u32 m)
  | .readFilter i => some (.readFilter, u8 i)
  | .readTelegrams => some (.readTelegrams, [])
  | .readUplink p => some (.readUplink, u8 p)
  | .setSweep m e => some (.setSweep, u8 m ++ u8 e)
  | .setCalibration c =>
    some (.setCalibration, u8 c.channel ++ u16 c.rawLo ++ u16 c.engLo ++ u16 c.rawHi ++ u16 c.engHi ++ flag8 c.railCheck)
  | .setWindow c lo hi => some (.setWindow, u8 c ++ u16 lo ++ u16 hi)
  | .readAnalog c => some (.readAnalog, u8 c)
  | .powerOnReset => none
  | .hostFrameRefused _ => none
  | .quadratureCount _ _ => none
  | .phaseError _ => none
  | .markDetection => none
  | .clsChange _ _ => none
  | .lksChange _ _ => none
  | .opsChange _ _ => none
  | .pbPressed _ _ => none
  | .conversionComplete _ => none
  | .positionSample => none
  | .lineClockAdvance => none
  | .holdTimerExpiry => none
  | .tRelExpiry => none
  | .tAppExpiry => none
  | .deficitTimerExpiry => none
  | .tLockExpiry _ => none
  | .tOpenExpiry _ => none
  | .tCloseExpiry _ => none
  | .tReopenExpiry _ => none
  | .tPauseExpiry _ => none
  | .slotStart => none
  | .initSequenceEnd => none
  | .holdoverTimerExpiry => none
  | .radioLossTimerExpiry => none
  | .telegramDiscarded _ => none
  | .beacon _ _ _ => none
  | .time _ _ => none
  | .restrict _ _ => none
  | .revoke _ _ => none
  | .sectionBlock _ _ => none
  | .sectionCommit _ _ _ => none
  | .sectionAbort _ _ => none
  | .slotGrant _ _ _ _ => none
  | .poll _ => none
  | .emergencyStop _ => none
  | .stopRelease _ => none

/-- The 40-byte frame of a host request: code, arguments, unused bytes 0, CRC (section 11.2). -/
def requestFrame (i : Instr) : Option (List Byte) :=
  (requestArgs i).map fun x => withCrc (padTo 38 (u8 (reqCode x.1) ++ x.2))

/-- Destination kind codes of a header (R202). -/
def destBits : DestKind → Nat | .car => 1 | .group => 2 | .all => 3

/-- A downlink telegram: header with spare bits 0, payload padded to 40 bytes, CRC (R202). -/
def downlinkBytes (kind : Nat) (h : TgHeader) (payload : List Byte) : List Byte :=
  withCrc (u8 (destBits h.dest * 64 + h.address / 65536) ++ u16 h.address ++ u8 kind ++ u8 h.station
    ++ u8 payload.length ++ padTo 40 payload)

/-- The slot a downlink telegram comes in and its 48 bytes; none for a command that is none. A BEACON's address and
station are not read (R164, step 4) and are sent as 0 here. -/
def telegramFrame : Instr → Option (Came × List Byte)
  | .beacon f c o => some (o.came, downlinkBytes 0x01 ⟨.all, 0, 0, o.came⟩ (u8 f ++ u8 c ++ u8 o.code))
  | .time h v => some (h.came, downlinkBytes 0x02 h (u32 v))
  | .restrict h w => some (h.came, downlinkBytes 0x03 h (putWireBytes w))
  | .revoke h id => some (h.came, downlinkBytes 0x04 h (u16 id))
  | .sectionBlock h b => some (h.came, downlinkBytes 0x05 h (blockWireBytes b))
  | .sectionCommit h id crc => some (h.came, downlinkBytes 0x06 h (u16 id ++ u16 crc))
  | .sectionAbort h id => some (h.came, downlinkBytes 0x07 h (u16 id))
  | .slotGrant h k p f => some (h.came, downlinkBytes 0x08 h (u8 k ++ u8 p ++ u8 f))
  | .poll h => some (h.came, downlinkBytes 0x09 h [])
  | .emergencyStop h => some (h.came, downlinkBytes 0x0A h [])
  | .stopRelease h => some (h.came, downlinkBytes 0x0B h [])
  | _ => none

end Sys2Proof
end

