-- ==== Sys2Proof/Machine/State.lean ====
section
/-! DEFINITION. The state of the CX40, block by block, as plain data, and its value right after power-on reset. Each
field's docstring names the rule that gives it; INVENTORY.md lists every one with its reset value. -/

namespace Sys2Proof.Machine

/-! ### Values the records hold (codes in section 11.4) -/

/-- Supervisor modes (section 4.1). -/
inductive Mode where | standby | depot | line | tripped deriving DecidableEq, Repr
/-- Selected direction (00_scope.md, "Directions"). -/
inductive Dir where | neutral | up | down deriving DecidableEq, Repr
/-- Intervention levels (R95). -/
inductive Level where | normal | indication | warning | service | emergency deriving DecidableEq, Repr
/-- Line states (R4). -/
inductive LineState where | empty | loading | sealed deriving DecidableEq, Repr
/-- Section kinds (section 1.1). -/
inductive Kind where | adhesion | rackEntry | rack deriving DecidableEq, Repr
/-- Sides of the car, of a platform and of a door prohibition. -/
inductive Side where | left | right | both deriving DecidableEq, Repr
/-- Owners of a staged update (section 1.5). -/
inductive Owner where | valley | car deriving DecidableEq, Repr
/-- Odometry states (section 2.8). -/
inductive OdoState where | unset | valid | degraded | fault deriving DecidableEq, Repr
/-- Odometry fault causes (R48). -/
inductive OdoFault where | mismatch | offLine deriving DecidableEq, Repr
/-- The active source (R30). -/
inductive Source where | wheel | pinion deriving DecidableEq, Repr
/-- Motion direction of a sample (R33). -/
inductive Motion where | none | up | down deriving DecidableEq, Repr
/-- Issuers of restrictions (section 3.1). -/
inductive Issuer where | valley | car | part deriving DecidableEq, Repr
/-- Restriction kinds (section 3.1). -/
inductive RKind where | speed | stop | door deriving DecidableEq, Repr
/-- Restriction directions (section 3.1). -/
inductive RDir where | up | down | both deriving DecidableEq, Repr
/-- Change kinds of the change log (R68). -/
inductive ChangeKind where | inserted | updated | activated | retired | tableCleared deriving DecidableEq, Repr
/-- Retirement causes (R67). -/
inductive RetireCause where | revoked | withdrawn | expired | passed | causeEnded deriving DecidableEq, Repr
/-- Trip causes in the order R86 collects the first three (R81). -/
inductive TripCause where
  | odometryFault | rollback | stopOverrun | emergencySpeed | serviceDeficit deriving DecidableEq, Repr
/-- Target kinds of the braking curve (R89 to R91). -/
inductive TargetKind where
  | sectionEntry | speedBegin | stop | authorityEnd | authorityRetained | noAuthority | lineEnd | windowEdge
  deriving DecidableEq, Repr
/-- Emergency demand of an entry (R102). -/
inductive Emergency where | none | held | latched deriving DecidableEq, Repr
/-- Sources of the brake demand table (R102). -/
inductive BrakeSource where | supervisor | odometry | doors | radio | host | brake deriving DecidableEq, Repr
/-- Rack brake states (section 5.4). -/
inductive RackState where
  | applied | releasing | released | applying | faultNotReleased | faultNotApplied deriving DecidableEq, Repr
/-- Rack brake fault causes (R112, R113). -/
inductive RackFault where | releaseTimeout | releaseLost | applyTimeout deriving DecidableEq, Repr
/-- Window states of a conversion (R185); `none` marks a channel not yet converted. -/
inductive WinState where | none | below | inside | above deriving DecidableEq, Repr
/-- Leaf states (R120). -/
inductive LeafState where
  | locked | unlocking | unlocked | opening | opened | closing | reopening | locking | halted | fault | isolated
  deriving DecidableEq, Repr
/-- The times a leaf's motion timer runs as (R120). -/
inductive LeafTime where | tLock | tOpen | tClose | tReopen | tPause deriving DecidableEq, Repr
/-- Leaf fault causes (R133). -/
inductive LeafCause where
  | lockTimeout | openTimeout | obstructionLimit | switchDisagree deriving DecidableEq, Repr
/-- Withdrawal causes of a side release (R136). -/
inductive Withdrawal where
  | none | closeRequest | notStill | mode | odometry | noPlatform | wrongSide | doorRestricted
  deriving DecidableEq, Repr
/-- Sync states (section 7.4). -/
inductive Sync where | init | search | locked | holdover deriving DecidableEq, Repr
/-- Slot routes (R146). -/
inductive Route where | off | receive | transmit | loop deriving DecidableEq, Repr
/-- Link states (R161). -/
inductive LinkState where | lost | ok deriving DecidableEq, Repr
/-- Recorded beacon source (R148). -/
inductive BeaconSource where | none | valley | repeater deriving DecidableEq, Repr
/-- Downlink kinds that are acknowledged (R169). -/
inductive AckKind where
  | restrict | revoke | sectionBlock | sectionCommit | sectionAbort | slotGrant | emergencyStop | stopRelease
  deriving DecidableEq, Repr
/-- Held sweep modes (R181). -/
inductive SweepMode where | repeated | emphasis deriving DecidableEq, Repr
/-- The sequences the sweep runs (R181). -/
inductive SweepSeq where | repeated | emphasis0 | emphasis1 | single deriving DecidableEq, Repr
/-- The ten event flags in the order of the R193 table. -/
inductive EventFlag where
  | powerOn | resetDone | restrictionChanged | lineUpdate | modeChanged | interventionChanged | odometry | doorEvent
  | brakeFault | radioEvent
  deriving DecidableEq, Repr

/-- Result codes (section 11.6). -/
inductive Result where
  | none | done | accepted | started | endOfWalk | free | updated | unchanged | held | busy | mode | moving
  | badValue | badRange | badPosition | tableFull | notContiguous | noLine | notOwner | expired | incomplete | check
  | unknownSection | geometry | timeout | refusedMode | notStill | odometry | noPlatform | wrongSide | doorRestricted
  | badState | notFound | frameLength | frameCheck | unknownRequest
  deriving DecidableEq, Repr

/-! ### Car parameters (R197, section 11.7) -/

/-- The 39 car parameters, each by its name in the spec, in the order of section 11.7. -/
structure Params where
  L : Nat := 16000
  tOdo : Nat := 20
  nStill : Nat := 5
  vStill : Nat := 30
  wPin : Nat := 2500
  wWhl : Nat := 1200
  ePin : Nat := 100
  eWhl : Nat := 20000
  uMax : Nat := 3000
  markWindow : Nat := 1000
  markTol : Nat := 200
  xPpm : Nat := 50000
  aAdh : Nat := 1000
  aRack : Nat := 1800
  lockDistance : Nat := 200000
  tCommit : Nat := 120000
  vRadioLoss : Nat := 150
  vDegraded : Nat := 100
  vDepot : Nat := 60
  vEdge : Nat := 0
  tR : Nat := 1500
  rollbackLimit : Nat := 300
  dvInd : Nat := 400
  dvSb : Nat := 300
  dvEb : Nat := 700
  sFull : Nat := 80
  tRel : Nat := 1500
  tApp : Nat := 800
  pFull : Nat := 500
  pTol : Nat := 50
  tTrack : Nat := 1000
  tOpen : Nat := 5000
  tClose : Nat := 6000
  obsLimit : Nat := 3
  sHold : Nat := 40
  guard : Nat := 0
  tHold : Nat := 5000
  tLoss : Nat := 10000
  carAddress : Nat := 0
  deriving DecidableEq, Repr

/-! ### Host Request Link (R189) -/

/-- A full answer in the answer store: echoed request code, result, answer bytes (R192). -/
structure Answer where
  code : Nat
  result : Result
  data : List Byte
  deriving DecidableEq, Repr

/-- The records of the Host Request Link (R189). The first six are the frame in progress (R190): CSN is low, the frame
began during an execution, the bytes taken, the bits taken of the next byte, the whole bytes counted, and the bits of the
response shifted out. -/
structure Link where
  selected : Bool
  late : Bool
  rx : List Byte
  rxBits : List Bool
  rxCount : Nat
  shifted : Nat
  response : List Byte
  store : Option Answer
  flags : BitVec 10
  mask : BitVec 10
  secCursor : Nat
  resCursor : Nat
  deriving DecidableEq, Repr

/-! ### Section Table (R4) -/

/-- The platform part of a section record (section 1.1). -/
structure Platform where
  id : Nat
  side : Side
  lo : Nat
  hi : Nat
  deriving DecidableEq, Repr

/-- A section record (section 1.1). -/
structure SectionRec where
  number : Nat
  start : Nat
  length : Nat
  gradient : Int
  kind : Kind
  limitUp : Nat
  limitDown : Nat
  cell : Nat
  tunnel : Bool
  platform : Option Platform
  mark : Option Nat
  deriving DecidableEq, Repr

/-- The line update record with its reference: a section number or an update id (R8). -/
inductive LineUpdate where
  | noMargin (number : Nat)
  | commitDone (id : Nat)
  | commitTimeout (id : Nat)
  deriving DecidableEq, Repr

/-- The Section Table (R4). -/
structure LineTable where
  state : LineState
  records : List SectionRec
  check : BitVec 16
  update : Option LineUpdate
  deriving DecidableEq, Repr

/-- A window entry that is not NONE (R11). -/
structure WinEntry where
  index : Nat
  limit : Nat
  aS : Nat
  noMargin : Bool
  deriving DecidableEq, Repr

/-! ### Staging Buffer (R17) -/

/-- The open update. A record present at an index is that index in the received mask. -/
structure StagedUpdate where
  id : Nat
  first : Nat
  count : Nat
  owner : Owner
  records : List (Option SectionRec)
  deriving DecidableEq, Repr

/-- The state of the Staging Buffer; `held` carries the ms to go on the hold timer (R17). -/
inductive Staging where
  | idle
  | filling (u : StagedUpdate)
  | held (u : StagedUpdate) (timer : Nat)
  deriving DecidableEq, Repr

/-! ### Odometry Unit (R27) -/

/-- The two levels of a quadrature pair (R29). -/
structure Phase where
  a : Bool
  b : Bool
  deriving DecidableEq, Repr

/-- A position sample (R33). -/
structure Sample where
  p : Nat
  u : Nat
  v : Int
  travel : Int
  motion : Motion
  standstill : Bool
  state : OdoState
  cur : Option Nat
  deriving DecidableEq, Repr

/-- A mark report (R42). -/
structure MarkReport where
  number : Option Nat
  captured : Nat
  correction : Int
  applied : Bool
  clock : Option Nat
  deriving DecidableEq, Repr

/-- The calibration reference (R44): mark position in mm, net wheel count, wheel-throughout flag. -/
structure CalRef where
  pos : Nat
  net : Int
  throughout : Bool
  deriving DecidableEq, Repr

/-- The records of the Odometry Unit (R27). -/
structure Odometry where
  state : OdoState
  fault : Option OdoFault
  pUm : Nat
  uUm : Nat
  carry : Nat
  cur : Option Nat
  lower : Option Nat
  upper : Option Nat
  nextLower : Option Nat
  nextUpper : Option Nat
  source : Source
  travel : Int
  sample : Sample
  standstill : Bool
  quiet : Nat
  period : Nat
  sampleTimer : Nat
  pinPhase : Phase
  whlPhase : Phase
  pinRaw : BitVec 32
  whlRaw : BitVec 32
  pinErr : Nat
  whlErr : Nat
  capture : Nat
  report : Option MarkReport
  accPin : Int
  accWhl : Int
  lastDiff : Nat
  cal : Option CalRef
  causes : BitVec 16
  deriving DecidableEq, Repr

/-! ### Restriction Table (R52, R58, R68) -/

/-- A restriction entry (section 3.1); `active` is its state, PENDING when false. -/
structure Restriction where
  issuer : Issuer
  id : Nat
  kind : RKind
  dir : RDir
  lo : Nat
  hi : Nat
  limit : Nat
  activation : Option Nat
  expiry : Option Nat
  active : Bool
  deriving DecidableEq, Repr

/-- A change record (R68). `entry` is the issuer, id, kind and index, absent for TABLE_CLEARED. -/
structure ChangeRec where
  change : ChangeKind
  cause : Option RetireCause
  entry : Option (Issuer × Nat × RKind × Nat)
  clock : Option Nat
  deriving DecidableEq, Repr

/-- The records of the Restriction Table. `clock` is absent while the line clock is UNSET. -/
structure Restrictions where
  table : List (Option Restriction)
  clock : Option Nat
  second : Nat
  log : List ChangeRec
  overflow : Nat
  deriving DecidableEq, Repr

/-! ### Speed Supervisor (R76) -/

/-- A reference: the issuer and id of a restriction, a section number, or none (R98). -/
inductive Ref where
  | none
  | restriction (issuer : Issuer) (id : Nat)
  | section_ (number : Nat)
  deriving DecidableEq, Repr

/-- The binding-target record (R98). -/
structure Binding where
  kind : TargetKind
  position : Int
  speed : Nat
  curve : Nat
  span : Nat
  ref : Ref
  deriving DecidableEq, Repr

/-- The limiting element (R98). -/
inductive Limiting where
  | mode
  | static (number : Nat)
  | restriction (issuer : Issuer) (id : Nat)
  | target
  deriving DecidableEq, Repr

/-- The trip record (R81). -/
structure TripRec where
  cause : TripCause
  before : Mode
  p : Nat
  clock : Option Nat
  deriving DecidableEq, Repr

/-- The records of the Speed Supervisor (R76). `curve` is the last curve point and `d_r`. -/
structure Supervisor where
  mode : Mode
  dir : Dir
  modeBefore : Mode
  rollback : Nat
  retained : Option Nat
  vPerm : Nat
  level : Level
  binding : Option Binding
  limiting : Limiting
  curve : Option (Int × Nat)
  trip : Option TripRec
  sbView : Bool
  deriving DecidableEq, Repr

/-! ### Brake Output Unit (chapter 5) -/

/-- An entry of the brake demand table (R102). -/
structure Demand where
  level : Nat
  emergency : Emergency
  deriving DecidableEq, Repr

/-- The records of the Brake Output Unit (R102, R103, R109, R114, R116, R117). -/
structure Brakes where
  supervisor : Demand
  odometry : Demand
  doors : Demand
  radio : Demand
  host : Demand
  brake : Demand
  effort : Nat
  emergency : Bool
  rack : RackState
  rackTimer : Option Nat
  rackFault : Option RackFault
  ain0 : WinState
  ain1 : Option Nat
  deficitTimer : Option Nat
  sbDeficit : Bool
  tperm : Bool
  causes : BitVec 16
  deriving DecidableEq, Repr

/-! ### Door Controller (R120, R136) -/

/-- A leaf record (R120) with the levels of the leaf's four inputs (section 11.8). -/
structure Leaf where
  state : LeafState
  timer : Option (LeafTime × Nat)
  obstructions : Nat
  overCurrent : Nat
  closePending : Bool
  fault : Option (LeafCause × Option Nat)
  cls : Bool
  lks : Bool
  ops : Bool
  pb : Bool
  deriving DecidableEq, Repr

/-- The six leaves. -/
structure Leaves where
  l1 : Leaf
  l2 : Leaf
  l3 : Leaf
  r4 : Leaf
  r5 : Leaf
  r6 : Leaf
  deriving DecidableEq, Repr

/-- A side-release record (R136); `platform` is the platform id and the section number. -/
structure SideRelease where
  inForce : Bool
  autoOpen : Bool
  platform : Option (Nat × Nat)
  cause : Withdrawal
  deriving DecidableEq, Repr

/-- The records of the Door Controller. -/
structure Doors where
  leaves : Leaves
  left : SideRelease
  right : SideRelease
  closed : Bool
  causes : BitVec 16
  deriving DecidableEq, Repr

/-! ### Radio Frame Controller (R148) -/

/-- A transmit grant (R159). -/
structure Grant where
  slot : Nat
  period : Nat
  phase : Nat
  deriving DecidableEq, Repr

/-- The records of the Radio Frame Controller and its outputs (R144 to R162). -/
structure Radio where
  sync : Sync
  initTimer : Option Nat
  initQuiet : Bool
  collection : Option (List Byte)
  slotTimer : Option Nat
  slotIndex : Nat
  frame : Nat
  routes : List Route
  slotRoute : Route
  grant : Option Grant
  tuned : Option Nat
  chsel : Nat
  source : BeaconSource
  guardOpen : Bool
  guardCount : Nat
  miss : Nat
  beaconSeen : Bool
  holdover : Option Nat
  link : LinkState
  loss : Option Nat
  channels : List Nat
  loopPass : Nat
  loopFail : Nat
  causes : BitVec 16
  rstb : Bool
  rtxen : Bool
  rtxd : List Byte
  deriving DecidableEq, Repr

/-! ### Telegram Handler (R163) -/

/-- An acceptance filter (R166). -/
structure Filter where
  enabled : Bool
  kind : DestKind
  value : Nat
  mask : Nat
  deriving DecidableEq, Repr

/-- An entry of the uplink queue (R171). -/
inductive Uplink where
  | report
  | ack (kind : AckKind) (reference : Nat) (result : Result) (station : Nat)
  deriving DecidableEq, Repr

/-- The counts of R176. -/
structure Counts where
  received : Nat
  checkErrors : Nat
  headerErrors : Nat
  foreign : Nat
  searchDiscards : Nat
  beacons : Nat
  accepted : Nat
  acksSent : Nat
  reportsSent : Nat
  displaced : Nat
  uplinkDiscards : Nat
  deriving DecidableEq, Repr

/-- The records of the Telegram Handler. -/
structure Telegrams where
  filters : List Filter
  queue : List Uplink
  lastStation : Nat
  heldStation : Option Nat
  counts : Counts
  deriving DecidableEq, Repr

/-! ### Analog Sweep Unit (R179, R181, R183, R185) -/

/-- One analog channel: results entry, calibration record, window. -/
structure Channel where
  raw : Nat
  calibrated : Nat
  valid : Bool
  window : WinState
  conversions : Nat
  invalid : Nat
  rawLo : Nat
  engLo : Nat
  rawHi : Nat
  engHi : Nat
  railCheck : Bool
  low : Nat
  high : Nat
  deriving DecidableEq, Repr

/-- The records of the Analog Sweep Unit. `seq` and `pos` name the conversion in progress; `restart` is set when the
next conversion begins the sequence now held (R182). -/
structure Analog where
  mode : SweepMode
  emphasis : Nat
  single : Bool
  passes : Nat
  seq : SweepSeq
  pos : Nat
  restart : Bool
  channels : List Channel
  deriving DecidableEq, Repr

/-! ### The machine -/

/-- The state of the CX40, and the queue of the commands that wait. -/
structure State where
  pending : List Instr
  params : Params
  link : Link
  line : LineTable
  window : List (Option WinEntry)
  staging : Staging
  odo : Odometry
  restr : Restrictions
  sup : Supervisor
  brakes : Brakes
  doors : Doors
  radio : Radio
  tele : Telegrams
  analog : Analog
  deriving DecidableEq, Repr

/-- Reasons the machine stops with a fault. There is none: the spec answers, refuses by a result code, or counts every
command, and its own faults are states of the blocks (INVENTORY.md, "Faults"). Nothing raises this; safe. -/
inductive Fault where
  deriving DecidableEq, Repr

/-- Reasons the model gives no meaning to a command. -/
inductive Refusal where
  /-- Raised by `exec` for a row with no meaning yet; no arm does. Safe. -/
  | notModelled (mnemonic : String)
  deriving DecidableEq, Repr

/-! ### Updates of one block -/

def State.setPending (s : State) (x : List Instr) : State := { s with pending := x }
def State.setParams (s : State) (x : Params) : State := { s with params := x }
def State.setLink (s : State) (x : Link) : State := { s with link := x }
def State.setLine (s : State) (x : LineTable) : State := { s with line := x }
def State.setWindow (s : State) (x : List (Option WinEntry)) : State := { s with window := x }
def State.setStaging (s : State) (x : Staging) : State := { s with staging := x }
def State.setOdo (s : State) (x : Odometry) : State := { s with odo := x }
def State.setRestr (s : State) (x : Restrictions) : State := { s with restr := x }
def State.setSup (s : State) (x : Supervisor) : State := { s with sup := x }
def State.setBrakes (s : State) (x : Brakes) : State := { s with brakes := x }
def State.setDoors (s : State) (x : Doors) : State := { s with doors := x }
def State.setRadio (s : State) (x : Radio) : State := { s with radio := x }
def State.setTele (s : State) (x : Telegrams) : State := { s with tele := x }
def State.setAnalog (s : State) (x : Analog) : State := { s with analog := x }

/-! ### Power-on values -/

/-- The start-up response: summary STANDBY, NORMAL, attention, EMPTY, INIT; code 0, result NONE, data 0 (R189). -/
def startUpResponse : List Byte := withCrc (4#8 :: List.replicate 37 0#8)

/-- Link records after power-on (R189): POWER_ON alone set, every flag enabled. -/
def Link.reset : Link :=
  { selected := false, late := false, rx := [], rxBits := [], rxCount := 0, shifted := 0,
    response := startUpResponse, store := none, flags := 1#10, mask := 0x3FF#10, secCursor := 0,
    resCursor := 0 }

/-- Section Table after power-on (R4). -/
def LineTable.reset : LineTable := { state := .empty, records := [], check := 0#16, update := none }

/-- The latest sample before the first one: "the sample fields read 0, and the odometry state reads UNSET" (R175). -/
def Sample.reset : Sample :=
  { p := 0, u := 0, v := 0, travel := 0, motion := .none, standstill := false, state := .unset, cur := none }

/-- Odometry records after power-on (R27). Input levels low: DESIGN CHOICE, log 8. Capture record 0: DESIGN CHOICE,
log 10. -/
def Odometry.reset : Odometry :=
  { state := .unset, fault := none, pUm := 0, uUm := 0, carry := 0, cur := none, lower := none, upper := none,
    nextLower := none, nextUpper := none, source := .wheel, travel := 0, sample := .reset, standstill := false,
    quiet := 0, period := 20, sampleTimer := 20, pinPhase := ⟨false, false⟩, whlPhase := ⟨false, false⟩,
    pinRaw := 0#32, whlRaw := 0#32, pinErr := 0, whlErr := 0, capture := 0, report := none, accPin := 0, accWhl := 0,
    lastDiff := 0, cal := none, causes := 0#16 }

/-- Restriction Table after power-on (R53, R58, R68). -/
def Restrictions.reset : Restrictions :=
  { table := List.replicate 32 none, clock := none, second := Config.secondMs, log := [], overflow := 0 }

/-- Speed Supervisor after power-on and soft reset (R76). -/
def Supervisor.reset : Supervisor :=
  { mode := .standby, dir := .neutral, modeBefore := .depot, rollback := 0, retained := none, vPerm := 0,
    level := .normal, binding := none, limiting := .mode, curve := none, trip := none, sbView := false }

/-- Brake Output Unit after power-on (R102, R109, R114, R119): the STANDBY demand makes an emergency present. Cause
set empty: DESIGN CHOICE, log 9. -/
def Brakes.reset : Brakes :=
  { supervisor := ⟨100, .held⟩, odometry := ⟨0, .none⟩, doors := ⟨0, .none⟩, radio := ⟨0, .none⟩, host := ⟨0, .none⟩,
    brake := ⟨0, .none⟩, effort := 100, emergency := true, rack := .applying, rackTimer := some 800,
    rackFault := none, ain0 := .none, ain1 := none, deficitTimer := none, sbDeficit := false, tperm := false,
    causes := 0#16 }

/-- A leaf after power-on with its inputs low: HALTED (R120). Inputs low: DESIGN CHOICE, log 8. -/
def Leaf.reset : Leaf :=
  { state := .halted, timer := none, obstructions := 0, overCurrent := 0, closePending := false, fault := none,
    cls := false, lks := false, ops := false, pb := false }

/-- A side release after a reset (R136). -/
def SideRelease.reset : SideRelease := { inForce := false, autoOpen := false, platform := none, cause := .none }

/-- Door Controller after power-on with its inputs low. -/
def Doors.reset : Doors :=
  { leaves := ⟨.reset, .reset, .reset, .reset, .reset, .reset⟩, left := .reset, right := .reset, closed := false,
    causes := 0#16 }

/-- Radio Frame Controller after power-on (R148), its init sequence running (R149). -/
def Radio.reset : Radio :=
  { sync := .init, initTimer := some Config.initMs, initQuiet := true, collection := none, slotTimer := none,
    slotIndex := 0, frame := 0, routes := .receive :: List.replicate 7 .off, slotRoute := .receive, grant := none,
    tuned := none, chsel := 0, source := .none, guardOpen := false, guardCount := 0, miss := 0, beaconSeen := false,
    holdover := none, link := .lost, loss := none, channels := List.replicate 16 0, loopPass := 0, loopFail := 0,
    causes := 0#16, rstb := false, rtxen := false, rtxd := [] }

/-- All counts of R176 at 0. -/
def Counts.reset : Counts :=
  { received := 0, checkErrors := 0, headerErrors := 0, foreign := 0, searchDiscards := 0, beacons := 0,
    accepted := 0, acksSent := 0, reportsSent := 0, displaced := 0, uplinkDiscards := 0 }

/-- Telegram Handler after power-on (R163). -/
def Telegrams.reset : Telegrams :=
  { filters := ⟨true, .all, 0xFFFFF, 0xFFFFF⟩ :: List.replicate 5 ⟨false, .car, 0, 0⟩, queue := [], lastStation := 0,
    heldStation := none, counts := .reset }

/-- An analog channel after power-on: identity calibration, window 0..1,023 (R179, R183, R185). -/
def Channel.reset : Channel :=
  { raw := 0, calibrated := 0, valid := false, window := .none, conversions := 0, invalid := 0, rawLo := 0, engLo := 0,
    rawHi := 1023, engHi := 1023, railCheck := false, low := 0, high := 1023 }

/-- Analog Sweep Unit after power-on (R188): EMPHASIS_SWEEP on AIN0, at its first position. -/
def Analog.reset : Analog :=
  { mode := .emphasis, emphasis := 0, single := false, passes := 0, seq := .emphasis0, pos := 0, restart := false,
    channels := List.replicate 8 .reset }

/-- The machine right after power-on reset, with an empty command queue. -/
def State.reset : State :=
  { pending := [], params := {}, link := .reset, line := .reset, window := List.replicate 32 none, staging := .idle,
    odo := .reset, restr := .reset, sup := .reset, brakes := .reset, doors := .reset, radio := .reset, tele := .reset,
    analog := .reset }

end Sys2Proof.Machine
end

