-- ==== Sys2Proof/Machine/Flags.lean ====
section
/-! DEFINITION. Event flags, their mask and ATTN (R193 to R195), and the four cause sets (R51, R117, R142, R162). -/

namespace Sys2Proof.Machine

/-- The place of a flag in the R193 table; its bit in a flag set (R200). -/
def flagIndex : EventFlag → Nat
  | .powerOn => 0 | .resetDone => 1 | .restrictionChanged => 2 | .lineUpdate => 3 | .modeChanged => 4
  | .interventionChanged => 5 | .odometry => 6 | .doorEvent => 7 | .brakeFault => 8 | .radioEvent => 9

/-- A flag as a one-element set. -/
def flagBit (f : EventFlag) : BitVec 10 := 1#10 <<< flagIndex f

/-- An owner sets its flag; setting a set flag leaves it set (R193). -/
def setFlag (f : EventFlag) (s : State) : State :=
  s.setLink { s.link with flags := s.link.flags ||| flagBit f }

/-- ATTN is driven low: at least one flag is set whose enable is set (R195). -/
def attention (l : Link) : Bool := l.flags &&& l.mask != 0#10

/-- Odometry causes in the order R51 lists them. -/
inductive OdoCause where
  | phaseError | markReport | markUnmatched | markRestored | wheelCalAdopted | wheelCalOutlier | degraded | mismatch
  | offLine
  deriving DecidableEq, Repr

/-- Brake causes in the order R117 lists them. -/
inductive BrakeCause where
  | releaseTimeout | releaseLost | applyTimeout | brakeRecovered | sbDeficit | sbRecovered
  deriving DecidableEq, Repr

/-- Door causes in the order R142 lists them. -/
inductive DoorCause where
  | leafFault | obstruction | releaseWithdrawn | doorMotion | closedChanged
  deriving DecidableEq, Repr

/-- Radio causes in the order R162 lists them. -/
inductive RadioCause where
  | locked | resync | holdover | searchEntered | handover | linkLost | linkOk | loopOk | loopFail | reportDisplaced
  | uplinkFull
  deriving DecidableEq, Repr

/-- Places of the causes in their sets (R200). -/
def odoCauseIndex : OdoCause → Nat
  | .phaseError => 0 | .markReport => 1 | .markUnmatched => 2 | .markRestored => 3 | .wheelCalAdopted => 4
  | .wheelCalOutlier => 5 | .degraded => 6 | .mismatch => 7 | .offLine => 8

def brakeCauseIndex : BrakeCause → Nat
  | .releaseTimeout => 0 | .releaseLost => 1 | .applyTimeout => 2 | .brakeRecovered => 3 | .sbDeficit => 4
  | .sbRecovered => 5

def doorCauseIndex : DoorCause → Nat
  | .leafFault => 0 | .obstruction => 1 | .releaseWithdrawn => 2 | .doorMotion => 3 | .closedChanged => 4

def radioCauseIndex : RadioCause → Nat
  | .locked => 0 | .resync => 1 | .holdover => 2 | .searchEntered => 3 | .handover => 4 | .linkLost => 5
  | .linkOk => 6 | .loopOk => 7 | .loopFail => 8 | .reportDisplaced => 9 | .uplinkFull => 10

/-- A cause as a one-element set. -/
def odoCauseBit (c : OdoCause) : BitVec 16 := 1#16 <<< odoCauseIndex c
def brakeCauseBit (c : BrakeCause) : BitVec 16 := 1#16 <<< brakeCauseIndex c
def doorCauseBit (c : DoorCause) : BitVec 16 := 1#16 <<< doorCauseIndex c
def radioCauseBit (c : RadioCause) : BitVec 16 := 1#16 <<< radioCauseIndex c

/-- Adds an odometry cause and sets ODOMETRY (R51). -/
def addOdoCause (c : OdoCause) (s : State) : State :=
  setFlag .odometry (s.setOdo { s.odo with causes := s.odo.causes ||| odoCauseBit c })

/-- Adds a brake cause and sets BRAKE_FAULT (R117). -/
def addBrakeCause (c : BrakeCause) (s : State) : State :=
  setFlag .brakeFault (s.setBrakes { s.brakes with causes := s.brakes.causes ||| brakeCauseBit c })

/-- Adds a door cause and sets DOOR_EVENT (R142). -/
def addDoorCause (c : DoorCause) (s : State) : State :=
  setFlag .doorEvent (s.setDoors { s.doors with causes := s.doors.causes ||| doorCauseBit c })

/-- Adds a radio cause and sets RADIO_EVENT (R162). -/
def addRadioCause (c : RadioCause) (s : State) : State :=
  setFlag .radioEvent (s.setRadio { s.radio with causes := s.radio.causes ||| radioCauseBit c })

end Sys2Proof.Machine
end

