-- ==== Sys2Proof/Machine/Operands.lean ====
section
/-! DEFINITION. The enumerated codes of sections 11.4 and 11.6 in both directions, the section record and the
restriction fields in link form (R201), the record checks of R6 and R18, and the car parameters by number. -/

namespace Sys2Proof.Machine

/-! ### Codes the part sends -/

def modeCode : Mode → Nat | .standby => 0 | .depot => 1 | .line => 2 | .tripped => 3
def dirCode : Dir → Nat | .neutral => 0 | .up => 1 | .down => 2
def rdirCode : RDir → Nat | .up => 1 | .down => 2 | .both => 3
def levelCode : Level → Nat | .normal => 0 | .indication => 1 | .warning => 2 | .service => 3 | .emergency => 4
def lineStateCode : LineState → Nat | .empty => 0 | .loading => 1 | .sealed => 2
def syncCode : Sync → Nat | .init => 0 | .search => 1 | .locked => 2 | .holdover => 3
def kindCode : Kind → Nat | .adhesion => 0 | .rackEntry => 1 | .rack => 2
def sideCode : Side → Nat | .left => 1 | .right => 2 | .both => 3
def issuerCode : Issuer → Nat | .valley => 1 | .car => 2 | .part => 3
def ownerCode : Owner → Nat | .valley => 1 | .car => 2
def rkindCode : RKind → Nat | .speed => 1 | .stop => 2 | .door => 3
def odoStateCode : OdoState → Nat | .unset => 0 | .valid => 1 | .degraded => 2 | .fault => 3
def rackCode : RackState → Nat
  | .applied => 0 | .releasing => 1 | .released => 2 | .applying => 3 | .faultNotReleased => 4 | .faultNotApplied => 5
def destCode : DestKind → Nat | .car => 1 | .group => 2 | .all => 3
def routeCode : Route → Nat | .off => 0 | .receive => 1 | .transmit => 2 | .loop => 3
def leafStateCode : LeafState → Nat
  | .locked => 0 | .unlocking => 1 | .unlocked => 2 | .opening => 3 | .opened => 4 | .closing => 5 | .reopening => 6
  | .locking => 7 | .halted => 8 | .fault => 9 | .isolated => 10
def leafTimeCode : LeafTime → Nat | .tLock => 1 | .tOpen => 2 | .tClose => 3 | .tReopen => 4 | .tPause => 5
def leafCauseCode : LeafCause → Nat
  | .lockTimeout => 1 | .openTimeout => 2 | .obstructionLimit => 3 | .switchDisagree => 4
def withdrawalCode : Withdrawal → Nat
  | .none => 0 | .closeRequest => 1 | .notStill => 2 | .mode => 3 | .odometry => 4 | .noPlatform => 5
  | .wrongSide => 6 | .doorRestricted => 7
def winStateCode : WinState → Nat | .none => 0 | .below => 1 | .inside => 2 | .above => 3
def changeCode : ChangeKind → Nat
  | .inserted => 1 | .updated => 2 | .activated => 3 | .retired => 4 | .tableCleared => 5
def retireCode : RetireCause → Nat
  | .revoked => 1 | .withdrawn => 2 | .expired => 3 | .passed => 4 | .causeEnded => 5
def targetCode : TargetKind → Nat
  | .sectionEntry => 1 | .speedBegin => 2 | .stop => 3 | .authorityEnd => 4 | .authorityRetained => 5
  | .noAuthority => 6 | .lineEnd => 7 | .windowEdge => 8
def tripCode : TripCause → Nat
  | .odometryFault => 1 | .rollback => 2 | .stopOverrun => 3 | .emergencySpeed => 4 | .serviceDeficit => 5
def emergencyCode : Emergency → Nat | .none => 0 | .held => 1 | .latched => 2
def stagingCode : Staging → Nat | .idle => 0 | .filling _ => 1 | .held _ _ => 2
def odoFaultCode : Option OdoFault → Nat | none => 0 | some .mismatch => 1 | some .offLine => 2
def sourceCode : Source → Nat | .wheel => 0 | .pinion => 1
def motionCode : Motion → Nat | .none => 0 | .up => 1 | .down => 2
def rackFaultCode : Option RackFault → Nat
  | none => 0 | some .releaseTimeout => 1 | some .releaseLost => 2 | some .applyTimeout => 3
def linkCode : LinkState → Nat | .lost => 0 | .ok => 1
def beaconSourceCode : BeaconSource → Nat | .none => 0 | .valley => 1 | .repeater => 2
def sweepModeCode : SweepMode → Nat | .repeated => 0 | .emphasis => 1

/-- Kind codes of the acknowledged downlink kinds (R202). -/
def ackKindCode : AckKind → Nat
  | .restrict => 0x03 | .revoke => 0x04 | .sectionBlock => 0x05 | .sectionCommit => 0x06 | .sectionAbort => 0x07
  | .slotGrant => 0x08 | .emergencyStop => 0x0A | .stopRelease => 0x0B

/-- Result codes (section 11.6). -/
def resultCode : Result → Nat
  | .none => 0x00 | .done => 0x01 | .accepted => 0x02 | .started => 0x03 | .endOfWalk => 0x04 | .free => 0x05
  | .updated => 0x06 | .unchanged => 0x07 | .held => 0x08 | .busy => 0x09 | .mode => 0x0A | .moving => 0x0B
  | .badValue => 0x0C | .badRange => 0x0D | .badPosition => 0x0E | .tableFull => 0x0F | .notContiguous => 0x10
  | .noLine => 0x11 | .notOwner => 0x12 | .expired => 0x13 | .incomplete => 0x14 | .check => 0x15
  | .unknownSection => 0x16 | .geometry => 0x17 | .timeout => 0x18 | .refusedMode => 0x19 | .notStill => 0x1A
  | .odometry => 0x1B | .noPlatform => 0x1C | .wrongSide => 0x1D | .doorRestricted => 0x1E | .badState => 0x1F
  | .notFound => 0x20 | .frameLength => 0x30 | .frameCheck => 0x31 | .unknownRequest => 0x32

/-- A reference of a limiting element or binding target: kind, then id or number, 0 when none (R200). -/
def refBytes : Ref → List Byte
  | .none => u8 0 ++ u16 0
  | .restriction i id => u8 (issuerCode i) ++ u16 id
  | .section_ n => u8 4 ++ u16 n

/-! ### Codes the part reads -/

/-- The modes SET_MODE may carry (R77, check 1). -/
def modeOfCode : Nat → Option Mode | 0 => some .standby | 1 => some .depot | 2 => some .line | _ => none
/-- The directions SET_DIRECTION may carry (R79, check 1). -/
def dirOfCode : Nat → Option Dir | 0 => some .neutral | 1 => some .up | 2 => some .down | _ => none
/-- The sides RELEASE_SIDE and CLOSE_SIDE may carry: LEFT and RIGHT (R135, R136). -/
def sideOfCode : Nat → Option Side | 1 => some .left | 2 => some .right | _ => none
/-- A platform side or a door prohibition's side. -/
def anySideOfCode : Nat → Option Side | 1 => some .left | 2 => some .right | 3 => some .both | _ => none
def kindOfCode : Nat → Option Kind | 0 => some .adhesion | 1 => some .rackEntry | 2 => some .rack | _ => none
def rkindOfCode : Nat → Option RKind | 1 => some .speed | 2 => some .stop | 3 => some .door | _ => none
def rdirOfCode : Nat → Option RDir | 1 => some .up | 2 => some .down | 3 => some .both | _ => none
def issuerOfCode : Nat → Option Issuer | 1 => some .valley | 2 => some .car | 3 => some .part | _ => none
def destOfCode : Nat → Option DestKind | 1 => some .car | 2 => some .group | 3 => some .all | _ => none
/-- The routes SET_SLOT may carry: OFF, RECEIVE, LOOP (R146, check 2). -/
def hostRouteOfCode : Nat → Option Route | 0 => some .off | 1 => some .receive | 3 => some .loop | _ => none
def leafOfCode : Nat → Option LeafId
  | 0 => some .l1 | 1 => some .l2 | 2 => some .l3 | 3 => some .r4 | 4 => some .r5 | 5 => some .r6 | _ => none

/-! ### Section records in link form -/

/-- The fields of a carried record lie within the values of the section record table, a platform has begin less than
end and a mark lies inside the section (R6, R18, R201): the record in normalised form, or none. -/
def sectionOfWire (w : SectionWire) : Option SectionRec :=
  match kindOfCode w.kind with
  | none => none
  | some kind =>
    let platform : Option (Option Platform) :=
      if w.platformPresent then
        match anySideOfCode w.side with
        | none => none
        | some side =>
          if 1 ≤ w.platformId ∧ w.platformId ≤ 255 ∧ w.platformEnd ≤ Config.posMax
              ∧ w.platformBegin < w.platformEnd then
            some (some ⟨w.platformId, side, w.platformBegin, w.platformEnd⟩)
          else none
      else some none
    match platform with
    | none => none
    | some platform =>
      if w.number ≤ 65535 ∧ w.start ≤ Config.posMax ∧ 10000 ≤ w.length ∧ w.length ≤ 2000000
          ∧ -480 ≤ w.gradient ∧ w.gradient ≤ 480 ∧ w.limitUp ≤ 600 ∧ w.limitDown ≤ 600 ∧ w.cell ≤ 15
          ∧ (w.markPresent = true →
              w.start ≤ w.mark ∧ w.mark < w.start + w.length ∧ w.mark ≤ Config.posMax) then
        some { number := w.number, start := w.start, length := w.length, gradient := w.gradient, kind := kind,
               limitUp := w.limitUp, limitDown := w.limitDown, cell := w.cell, tunnel := w.tunnel,
               platform := platform, mark := if w.markPresent then some w.mark else none }
      else none

/-- A record in link form, 31 bytes, with spare bits and the bytes of absent parts as 0 (R201). -/
def sectionBytes (r : SectionRec) : List Byte :=
  let side := r.platform.elim 0 (fun p => sideCode p.side)
  let flags := (if r.tunnel then 1 else 0) + (if r.platform.isSome then 2 else 0) + (if r.mark.isSome then 4 else 0)
  u16 r.number ++ u32 r.start ++ u32 r.length ++ i16 r.gradient
    ++ u8 (kindCode r.kind * 64 + side * 16 + r.cell) ++ u8 flags ++ u16 r.limitUp ++ u16 r.limitDown
    ++ u8 (r.platform.elim 0 (·.id)) ++ u32 (r.platform.elim 0 (·.lo)) ++ u32 (r.platform.elim 0 (·.hi))
    ++ u32 (r.mark.getD 0)

/-- The line check: the CRC over all records in link form, record 0 first, as one run (R7, R201). -/
def lineCheckOf (rs : List SectionRec) : BitVec 16 := crc16 (rs.flatMap sectionBytes)

/-! ### Restriction fields in link form -/

/-- Check 2 of R54: the id in 1..65519 and every code listed. The restriction carried, its state not yet judged; the
limit of a STOP is stored as 0. -/
def restrictionOfWire (issuer : Issuer) (w : PutWire) : Option Restriction :=
  match rkindOfCode w.kind, rdirOfCode w.direction with
  | some kind, some dir =>
    if 1 ≤ w.id ∧ w.id ≤ 65519 ∧ (kind = .door → (anySideOfCode w.limit).isSome = true) then
      some { issuer := issuer, id := w.id, kind := kind, dir := dir, lo := w.lo, hi := w.hi,
             limit := if kind = .stop then 0 else w.limit, activation := w.activation, expiry := w.expiry,
             active := false }
    else none
  | _, _ => none

/-- A restriction entry in an answer: index, issuer, state, then the 23 put fields (R201). -/
def restrictionBytes (i : Nat) (e : Restriction) : List Byte :=
  u8 i ++ u8 (issuerCode e.issuer) ++ u8 (if e.active then 2 else 1)
    ++ u16 e.id ++ u8 (rkindCode e.kind) ++ u8 (rdirCode e.dir) ++ u32 e.lo ++ u32 e.hi ++ u16 e.limit
    ++ u8 ((if e.activation.isSome then 1 else 0) + (if e.expiry.isSome then 2 else 0))
    ++ u32 (e.activation.getD 0) ++ u32 (e.expiry.getD 0)

/-! ### Car parameters by number -/

/-- A car parameter's number, lowest and highest value and default (section 11.7 and the owners' tables). -/
structure ParamRow where
  number : Nat
  low : Nat
  high : Nat
  default : Nat
  deriving DecidableEq, Repr

/-- The parameter tables of chapters 1 to 8, gathered by number. -/
def paramTable : List ParamRow :=
  [⟨1, 5000, 40000, 16000⟩, ⟨2, 10, 100, 20⟩, ⟨3, 2, 20, 5⟩, ⟨4, 10, 200, 30⟩, ⟨5, 1, 65535, 2500⟩,
   ⟨6, 1, 65535, 1200⟩, ⟨7, 0, 1000, 100⟩, ⟨8, 0, 50000, 20000⟩, ⟨9, 500, 5000, 3000⟩, ⟨10, 100, 2000, 1000⟩,
   ⟨11, 50, 1000, 200⟩, ⟨12, 0, 200000, 50000⟩, ⟨13, 300, 2000, 1000⟩] ++
  [⟨14, 500, 5000, 1800⟩, ⟨15, 0, 500000, 200000⟩, ⟨16, 1000, 600000, 120000⟩, ⟨17, 0, 300, 150⟩,
   ⟨18, 0, 300, 100⟩, ⟨19, 0, 150, 60⟩, ⟨20, 0, 600, 0⟩, ⟨21, 500, 3000, 1500⟩, ⟨22, 100, 1000, 300⟩,
   ⟨23, 0, 1000, 400⟩, ⟨24, 0, 1000, 300⟩, ⟨25, 1, 2000, 700⟩, ⟨26, 0, 100, 80⟩] ++
  [⟨27, 200, 3000, 1500⟩, ⟨28, 200, 2000, 800⟩, ⟨29, 100, 1000, 500⟩, ⟨30, 10, 200, 50⟩, ⟨31, 300, 3000, 1000⟩,
   ⟨32, 1000, 10000, 5000⟩, ⟨33, 1000, 10000, 6000⟩, ⟨34, 1, 3, 3⟩, ⟨35, 0, 100, 40⟩, ⟨36, 0, 1, 0⟩,
   ⟨37, 0, 20000, 5000⟩, ⟨38, 2000, 60000, 10000⟩, ⟨39, 0, 1048575, 0⟩]

/-- The row of a parameter number, none when the number names no car parameter (R196). -/
def paramRow (n : Nat) : Option ParamRow := paramTable.find? (fun r => r.number == n)

/-- The value in force of a parameter number. -/
def paramGet (n : Nat) (p : Params) : Nat :=
  match n with
  | 1 => p.L | 2 => p.tOdo | 3 => p.nStill | 4 => p.vStill | 5 => p.wPin | 6 => p.wWhl | 7 => p.ePin | 8 => p.eWhl
  | 9 => p.uMax | 10 => p.markWindow | 11 => p.markTol | 12 => p.xPpm | 13 => p.aAdh | 14 => p.aRack
  | 15 => p.lockDistance | 16 => p.tCommit | 17 => p.vRadioLoss | 18 => p.vDegraded | 19 => p.vDepot | 20 => p.vEdge
  | 21 => p.tR | 22 => p.rollbackLimit | 23 => p.dvInd | 24 => p.dvSb | 25 => p.dvEb | 26 => p.sFull | 27 => p.tRel
  | 28 => p.tApp | 29 => p.pFull | 30 => p.pTol | 31 => p.tTrack | 32 => p.tOpen | 33 => p.tClose | 34 => p.obsLimit
  | 35 => p.sHold | 36 => p.guard | 37 => p.tHold | 38 => p.tLoss | 39 => p.carAddress | _ => 0

/-- The parameters with one value written. -/
def paramPut (n v : Nat) (p : Params) : Params :=
  match n with
  | 1 => { p with L := v } | 2 => { p with tOdo := v } | 3 => { p with nStill := v } | 4 => { p with vStill := v }
  | 5 => { p with wPin := v } | 6 => { p with wWhl := v } | 7 => { p with ePin := v } | 8 => { p with eWhl := v }
  | 9 => { p with uMax := v } | 10 => { p with markWindow := v } | 11 => { p with markTol := v }
  | 12 => { p with xPpm := v } | 13 => { p with aAdh := v } | 14 => { p with aRack := v }
  | 15 => { p with lockDistance := v } | 16 => { p with tCommit := v } | 17 => { p with vRadioLoss := v }
  | 18 => { p with vDegraded := v } | 19 => { p with vDepot := v } | 20 => { p with vEdge := v }
  | 21 => { p with tR := v } | 22 => { p with rollbackLimit := v } | 23 => { p with dvInd := v }
  | 24 => { p with dvSb := v } | 25 => { p with dvEb := v } | 26 => { p with sFull := v } | 27 => { p with tRel := v }
  | 28 => { p with tApp := v } | 29 => { p with pFull := v } | 30 => { p with pTol := v } | 31 => { p with tTrack := v }
  | 32 => { p with tOpen := v } | 33 => { p with tClose := v } | 34 => { p with obsLimit := v }
  | 35 => { p with sHold := v } | 36 => { p with guard := v } | 37 => { p with tHold := v } | 38 => { p with tLoss := v }
  | 39 => { p with carAddress := v } | _ => p

/-- The conditions an owner's chapter sets between parameters, judged when one of the pair is written: `mark_tol`
against `u_max` (R28) and `dv_sb` against `dv_eb` (R100). `p` holds the new value. -/
def paramConditions (n : Nat) (p : Params) : Bool :=
  (!(n == 9 || n == 11) || p.markTol ≤ p.uMax) && (!(n == 24 || n == 25) || p.dvSb < p.dvEb)

end Sys2Proof.Machine
end

