-- ==== Sys2Proof/Machine/Ops.lean ====
section
/-! DEFINITION. Operations that several blocks share: the response and the answer store (R191, R192), lookups in the
Section Table, the position of the car (R1), the unit conversions of 00_scope.md. -/

namespace Sys2Proof.Machine

/-! ### Arithmetic of 00_scope.md -/

/-- `conv(x)`: record units of 0.1 km/h to mm/s (R2). -/
def conv (x : Nat) : Nat := x * 250 / 9

/-- A count that saturates at 65,535 (R29, R147, R176). -/
def bump (n : Nat) : Nat := min (n + 1) 65535

/-- The greatest `r` below `start + 2 ^ bits` with `r * r ≤ n`, one bit at a time. -/
def sqrtFrom (n : Nat) : Nat → Nat → Nat
  | 0, r => r
  | k + 1, r => if (r + 2 ^ k) * (r + 2 ^ k) ≤ n then sqrtFrom n k (r + 2 ^ k) else sqrtFrom n k r

/-- `floor(sqrt(n))` for `n < 2^40` (R93, step 4). -/
def floorSqrt (n : Nat) : Nat := sqrtFrom n 20 0

/-! ### The response -/

/-- The status summary: mode, intervention level, attention, line state; sync state (R191, section 11.2). -/
def summary (s : State) : List Byte :=
  u8 (modeCode s.sup.mode * 64 + levelCode s.sup.level * 8 + (if attention s.link then 4 else 0)
    + lineStateCode s.line.state) ++ u8 (syncCode s.radio.sync * 64)

/-- A response of 40 bytes: summary, echoed code, result code, 34 data bytes, CRC (R191, section 11.2). -/
def composeResponse (code : Nat) (res : Result) (data : List Byte) (s : State) : List Byte :=
  withCrc (summary s ++ u8 code ++ u8 (resultCode res) ++ padTo 34 data)

/-- The pages an answer is cut into: one up to 34 bytes, else pages of 32 bytes (R192). -/
def pageCount (a : Answer) : Nat := if a.data.length ≤ 34 then 1 else (a.data.length + 31) / 32

/-- The data bytes of page `k`: page index and page count before 32 answer bytes when the answer is paged (R192). -/
def pageData (a : Answer) (k : Nat) : List Byte :=
  if a.data.length ≤ 34 then a.data else u8 k ++ u8 (pageCount a) ++ (a.data.drop (32 * k)).take 32

/-- A response that leaves the answer store as it is: for NOP, READ_PAGE, refused frames and RESET (R190, R192). -/
def respond (code : Nat) (res : Result) (data : List Byte) (s : State) : State :=
  s.setLink { s.link with response := composeResponse code res data s }

/-- An executed request: its whole answer goes into the answer store and page 0 into the pending response (R191,
R192). The response is composed after the owner has taken the request. -/
def answer (r : Req) (res : Result) (data : List Byte) (s : State) : State :=
  let a : Answer := ⟨reqCode r, res, data⟩
  respond a.code res (pageData a 0) (s.setLink { s.link with store := some a })

/-- The answer to a request that returns a result code and no data. -/
def answerResult (r : Req) (x : Result × State) : State := answer r x.1 [] x.2

/-! ### Section Table lookups -/

/-- The line is SEALED; other blocks treat a line that is not as no line (R4). -/
def isSealed (s : State) : Bool := s.line.state == .sealed

/-- The record at a table index. -/
def recordAt (s : State) (i : Nat) : Option SectionRec := s.line.records[i]?

/-- Start and end of the line, 0 while there is no record (section 1.1, R8). -/
def lineStart (s : State) : Nat := s.line.records.head?.elim 0 (·.start)
def lineEnd (s : State) : Nat := s.line.records.getLast?.elim 0 (fun r => r.start + r.length)

/-- A position inside the line: from its start up to but not including its end (section 1.1). -/
def insideLine (x : Nat) (s : State) : Bool := lineStart s ≤ x && x < lineEnd s

/-- The section whose half-open interval contains a position (R50). -/
def findSection (p : Nat) (rs : List SectionRec) : Option Nat :=
  rs.findIdx? (fun r => r.start ≤ p && p < r.start + r.length)

/-- The current section's record. -/
def currentRecord (s : State) : Option SectionRec := s.odo.cur.bind (recordAt s)

/-- A section, half open, overlaps the closed interval `lo..hi` (00_scope.md, "Position and the car"). -/
def sectionOverlaps (r : SectionRec) (lo hi : Int) : Bool := (r.start : Int) ≤ hi && lo < (r.start + r.length : Nat)

/-- The closed range `a..b` overlaps the closed interval `lo..hi`. -/
def rangeOverlaps (a b : Nat) (lo hi : Int) : Bool := (a : Int) ≤ hi && lo ≤ (b : Int)

/-! ### Position of the car -/

/-- `p` in mm (R33); `p_um` stays 0 in UNSET (R31). -/
def pMm (o : Odometry) : Nat := o.pUm / 1000

/-- `u` in mm: `u_um` divided by 1,000 and rounded up (R32). -/
def uMm (o : Odometry) : Nat := (o.uUm + 999) / 1000

/-- The safe extent of a position and uncertainty: `p − L − u` to `p + u` (R1). -/
def extentLo (len p u : Nat) : Int := (p : Int) - len - u
def extentHi (p u : Nat) : Int := (p : Int) + u

/-- Motion is at rest, as a request finds it (R34). -/
def atStandstill (s : State) : Bool := s.odo.standstill

/-- The supervisor is in STANDBY, or in STANDBY or DEPOT. -/
def inStandby (s : State) : Bool := s.sup.mode == .standby
def inYard (s : State) : Bool := s.sup.mode == .standby || s.sup.mode == .depot

end Sys2Proof.Machine
end

