-- ==== Sys2Proof/Machine/BrakeOps.lean ====
section
/-! DEFINITION. The brake demand table and its combination (R102 to R104), the rack brake's answer to it (R110), service
tracking's answer to it (R115) and the traction permit (R116). -/

namespace Sys2Proof.Machine

/-! ### The table -/

/-- The entry of a source. -/
def getDemand (b : Brakes) : BrakeSource → Demand
  | .supervisor => b.supervisor | .odometry => b.odometry | .doors => b.doors | .radio => b.radio | .host => b.host
  | .brake => b.brake

/-- The table with one entry replaced. -/
def putDemand (src : BrakeSource) (d : Demand) (b : Brakes) : Brakes :=
  match src with
  | .supervisor => { b with supervisor := d }
  | .odometry => { b with odometry := d }
  | .doors => { b with doors := d }
  | .radio => { b with radio := d }
  | .host => { b with host := d }
  | .brake => { b with brake := d }

/-- The six entries. -/
def allDemands (b : Brakes) : List Demand := [b.supervisor, b.odometry, b.doors, b.radio, b.host, b.brake]

/-- Emergency present: at least one entry holds a held or latched emergency demand (R103). -/
def emergencyOf (b : Brakes) : Bool := (allDemands b).any (fun d => d.emergency != .none)

/-- The highest service level among the six entries. -/
def highestLevel (b : Brakes) : Nat := (allDemands b).foldl (fun m d => max m d.level) 0

/-- The effort level: 100 while an emergency demand is present, otherwise the highest service level (R103). -/
def effortOf (b : Brakes) : Nat := if emergencyOf b then 100 else highestLevel b

/-! ### What follows a combination -/

/-- The rack brake is told of a change of the emergency-present value (R110). -/
def rackTold (p : Params) (b : Brakes) : Brakes :=
  match b.emergency, b.rack with
  | false, .applied => { b with rack := .releasing, rackTimer := some p.tRel }
  | true, .releasing => { b with rack := .applying, rackTimer := some p.tApp }
  | true, .released => { b with rack := .applying, rackTimer := some p.tApp }
  | _, _ => b

/-- Service tracking is told of a change of the effort level: a running deficit timer restarts (R115). -/
def trackTold (p : Params) (b : Brakes) : Brakes := { b with deficitTimer := b.deficitTimer.map (fun _ => p.tTrack) }

/-- The conditions of the traction permit (R116). -/
def permitHolds (sup : Supervisor) (closed : Bool) (b : Brakes) : Bool :=
  (sup.mode == .depot || sup.mode == .line) && (sup.dir == .up || sup.dir == .down)
    && (sup.level == .normal || sup.level == .indication || sup.level == .warning)
    && !emergencyOf b && b.rack == .released && closed

/-- The traction permit is judged anew (R116). -/
def judgePermit (s : State) : State :=
  s.setBrakes { s.brakes with tperm := permitHolds s.sup s.doors.closed s.brakes }

/-- The Brake Output Unit combines the entries: emergency present and effort level, the rack brake and service tracking
told of a change, and the traction permit judged anew (R103). -/
def combined (p : Params) (b : Brakes) : Brakes :=
  let b1 : Brakes := { b with emergency := emergencyOf b, effort := effortOf b }
  let b2 := if b1.emergency = b.emergency then b1 else rackTold p b1
  if b1.effort = b.effort then b2 else trackTold p b2

/-- The combination taken on the state (R103). -/
def combine (s : State) : State := judgePermit (s.setBrakes (combined s.params s.brakes))

/-- A source writes its entry (R104). -/
def writeDemand (src : BrakeSource) (d : Demand) (s : State) : State := combine (s.setBrakes (putDemand src d s.brakes))

/-- A source places a latch and leaves its entry's service level as it was (R104). -/
def latchDemand (src : BrakeSource) (s : State) : State :=
  writeDemand src { getDemand s.brakes src with emergency := .latched } s

/-! ### The SUPERVISOR entry (R80) -/

/-- A removed held demand leaves the latch the entry may hold (R104). -/
def withoutHeld (e : Emergency) : Emergency := if e = .held then .none else e

/-- The SUPERVISOR entry for a mode and level (R80). -/
def supervisorDemand (p : Params) (sup : Supervisor) (old : Demand) : Demand :=
  match sup.mode with
  | .standby => ⟨100, .held⟩
  | .tripped => ⟨100, .latched⟩
  | .depot => ⟨if sup.level = .service then p.sFull else 0, withoutHeld old.emergency⟩
  | .line => ⟨if sup.level = .service then p.sFull else 0, withoutHeld old.emergency⟩

/-- The supervisor rewrites its entry from mode and level (R80). -/
def writeSupervisor (s : State) : State :=
  writeDemand .supervisor (supervisorDemand s.params s.sup s.brakes.supervisor) s

/-! ### Service pressure (R114) -/

/-- The pressure the effort level calls for (R114). -/
def expectedPressure (s : State) : Nat := s.brakes.effort * s.params.pFull / 100

/-- The floor: expected pressure less `p_tol` (R114). -/
def pressureFloor (s : State) : Int := (expectedPressure s : Int) - s.params.pTol

/-- RBCOIL is energised in RELEASING and RELEASED (R109). -/
def rbcoil (b : Brakes) : Bool := b.rack == .releasing || b.rack == .released

end Sys2Proof.Machine
end

