-- ==== Sys2Proof/Machine/RestrictionOps.lean ====
section
/-! DEFINITION. Operations of the Restriction Table (chapter 3): the change log, put, revoke and retire, the line clock's
evaluation, retirement by passage, and the part-issued entries. -/

namespace Sys2Proof.Machine

/-! ### The change log (R68) -/

/-- A record is added at the tail; with 8 held the oldest is removed and the overflow count grows, to 255 at most. -/
def logPush (c : ChangeRec) (r : Restrictions) : Restrictions :=
  if r.log.length < 8 then { r with log := r.log ++ [c] }
  else { r with log := r.log.drop 1 ++ [c], overflow := min (r.overflow + 1) 255 }

/-- The change record of an entry at an index, taken at the clock as it stands. -/
def logEntry (ch : ChangeKind) (cause : Option RetireCause) (i : Nat) (e : Restriction) (r : Restrictions) :
    Restrictions :=
  logPush ⟨ch, cause, some (e.issuer, e.id, e.kind, i), r.clock⟩ r

/-- Retirement: the index becomes FREE and a RETIRED record with its cause is written (R52, R67). -/
def retireAt (cause : RetireCause) (i : Nat) (e : Restriction) (r : Restrictions) : Restrictions :=
  logEntry .retired (some cause) i e { r with table := r.table.set i none }

/-- An entry is stored at an index and a change record is written. -/
def storeAt (ch : ChangeKind) (i : Nat) (e : Restriction) (r : Restrictions) : Restrictions :=
  logEntry ch none i e { r with table := r.table.set i (some e) }

/-- A change outside a reset: the new table and log, with RESTRICTION_CHANGED set (R67). -/
def restrChanged (r : Restrictions) (s : State) : State := setFlag .restrictionChanged (s.setRestr r)

/-! ### Changes taken together (R61, R63) -/

/-- What an evaluation does to one entry. -/
inductive EntryChange where
  | retire (cause : RetireCause)
  | activate
  deriving DecidableEq, Repr

/-- The change judged for the entry at one index, if it is occupied. -/
def changeAt (f : Restriction → Option EntryChange) (r : Restrictions) (i : Nat) : Restrictions :=
  match r.table.getD i none with
  | none => r
  | some e =>
    match f e with
    | none => r
    | some (.retire cause) => retireAt cause i e r
    | some .activate => storeAt .activated i { e with active := true } r

/-- All changes found in one evaluation, in index order, with RESTRICTION_CHANGED set once if there is one. -/
def changeAll (f : Restriction → Option EntryChange) (s : State) : State :=
  if s.restr.table.any (fun o => (o.bind f).isSome) then
    restrChanged ((List.range 32).foldl (changeAt f) s.restr) s
  else s

/-- The evaluation of an entry against a line-clock value (R61): expiry first, then activation. -/
def clockChange (v : Nat) (e : Restriction) : Option EntryChange :=
  if e.expiry.any (· ≤ v) then some (.retire .expired)
  else if !e.active && e.activation.any (· ≤ v) then some .activate
  else none

/-- The line clock takes a value and every entry is evaluated against it (R58, R59, R61); the one-second timer
restarts. -/
def setClock (v : Nat) (s : State) : State :=
  changeAll (clockChange v) (s.setRestr { s.restr with clock := some v, second := Config.secondMs })

/-- The passage test of R63 for one entry: VALLEY or CAR, SPEED or DOOR, of the selected direction or BOTH, its range
wholly behind the safe rear. -/
def passageChange (dir : Dir) (len p u : Nat) (e : Restriction) : Option EntryChange :=
  if e.issuer != .part && e.kind != .stop &&
      ((dir == .up && (e.dir == .up || e.dir == .both) && (e.hi : Int) < extentLo len p u) ||
       (dir == .down && (e.dir == .down || e.dir == .both) && extentHi p u < (e.lo : Int)))
  then some (.retire .passed) else none

/-- Retirement by passage at a position sample whose state is VALID or DEGRADED (R63). -/
def retirePassed (s : State) : State :=
  if s.odo.sample.state == .valid || s.odo.sample.state == .degraded then
    changeAll (passageChange s.sup.dir s.params.L s.odo.sample.p s.odo.sample.u) s
  else s

/-! ### Put, revoke, retire -/

/-- The index of the entry of an issuer and id. -/
def findEntry (issuer : Issuer) (id : Nat) (r : Restrictions) : Option Nat :=
  r.table.findIdx? (fun o => o.any (fun e => e.issuer == issuer && e.id == id))

/-- The lowest FREE index in 0..29 (R53). -/
def lowestFree (r : Restrictions) : Option Nat := (r.table.take 30).findIdx? (·.isNone)

/-- The state a put gives an entry: PENDING when it has an activation time and the clock is UNSET or before it (R54). -/
def activeAt (clock : Option Nat) (e : Restriction) : Bool :=
  match e.activation with
  | none => true
  | some a => clock.any (a ≤ ·)

/-- Check 3 of R54: the range inside the line and in order, a STOP one position with one direction, a SPEED limit at
most 600, and expiry after activation. -/
def rangeGood (e : Restriction) (s : State) : Bool :=
  insideLine e.lo s && insideLine e.hi s && e.lo ≤ e.hi
    && !(e.kind == .stop && (e.lo != e.hi || e.dir == .both))
    && !(e.kind == .speed && 600 < e.limit)
    && !(e.activation.any (fun a => e.expiry.any (· ≤ a)))

/-- Check 4 of R54: an expiry time not after a RUNNING clock. -/
def alreadyExpired (e : Restriction) (s : State) : Bool := e.expiry.any (fun x => s.restr.clock.any (x ≤ ·))

/-- A put that has passed the checks: insert, update or leave unchanged (R54). -/
def putChecked (e : Restriction) (s : State) : Result × State :=
  match findEntry e.issuer e.id s.restr with
  | none =>
    match lowestFree s.restr with
    | none => (.tableFull, s)
    | some i => (.accepted, restrChanged (storeAt .inserted i { e with active := activeAt s.restr.clock e } s.restr) s)
  | some i =>
    if ((s.restr.table.getD i none).map (fun o => { o with active := false })) = some { e with active := false } then
      (.unchanged, s)
    else (.updated, restrChanged (storeAt .updated i { e with active := activeAt s.restr.clock e } s.restr) s)

/-- A put by an issuer (R54, R55). -/
def putRestriction (issuer : Issuer) (w : PutWire) (s : State) : Result × State :=
  if !isSealed s then (.noLine, s)
  else
    match restrictionOfWire issuer w with
    | none => (.badValue, s)
    | some e =>
      if !rangeGood e s then (.badRange, s)
      else if alreadyExpired e s then
        match findEntry issuer e.id s.restr with
        | none => (.expired, s)
        | some i =>
          match s.restr.table.getD i none with
          | none => (.expired, s)
          | some held => (.expired, restrChanged (retireAt .expired i held s.restr) s)
      else putChecked e s

/-- Withdrawal of an issuer's own entry by id: DONE, NOT_OWNER when only another issuer holds the id, NOT_FOUND
otherwise (R56, R57). -/
def withdrawEntry (issuer : Issuer) (cause : RetireCause) (id : Nat) (s : State) : Result × State :=
  match findEntry issuer id s.restr with
  | some i =>
    match s.restr.table.getD i none with
    | some e => (.done, restrChanged (retireAt cause i e s.restr) s)
    | none => (.notFound, s)
  | none => if s.restr.table.any (·.any (·.id == id)) then (.notOwner, s) else (.notFound, s)

/-! ### Part-issued entries (R65, R66) -/

/-- The two part-issued entries. -/
inductive PartEntry where
  | radioLoss
  | odoDegraded
  deriving DecidableEq, Repr

def partIndex : PartEntry → Nat | .radioLoss => 30 | .odoDegraded => 31
def partId : PartEntry → Nat | .radioLoss => 0xFFF0 | .odoDegraded => 0xFFF1

/-- The cause of a part-issued entry holds: the link is LOST, the odometry is DEGRADED (R66). -/
def partCause (w : PartEntry) (s : State) : Bool :=
  match w with
  | .radioLoss => s.radio.link == .lost
  | .odoDegraded => s.odo.state == .degraded

/-- A part-issued entry with the fields of R65, over the whole line. -/
def partRestriction (w : PartEntry) (s : State) : Restriction :=
  { issuer := .part, id := partId w, kind := .speed, dir := .both, lo := lineStart s, hi := lineEnd s - 1,
    limit := match w with | .radioLoss => s.params.vRadioLoss | .odoDegraded => s.params.vDegraded,
    activation := none, expiry := none, active := true }

/-- A part-issued entry is made present or absent according to its cause, while the line is SEALED (R66). A cause that
already agrees with the table changes nothing. -/
def judgePart (w : PartEntry) (s : State) : State :=
  if isSealed s then
    match s.restr.table.getD (partIndex w) none, partCause w s with
    | none, true => restrChanged (storeAt .inserted (partIndex w) (partRestriction w s) s.restr) s
    | some e, false => restrChanged (retireAt .causeEnded (partIndex w) e s.restr) s
    | _, _ => s
  else s

/-- SET_PARAMETER changed the limit of a part-issued entry: replaced at once in an entry that is present (R65). -/
def relimitPart (w : PartEntry) (s : State) : State :=
  match s.restr.table.getD (partIndex w) none with
  | none => s
  | some e => restrChanged (storeAt .updated (partIndex w) { e with limit := (partRestriction w s).limit } s.restr) s

/-- The table a soft reset leaves: every entry FREE but the part-issued entries whose cause holds (R53, R66). -/
def resetTable (s : State) : List (Option Restriction) :=
  let entry (w : PartEntry) : Option Restriction :=
    if isSealed s && partCause w s then some (partRestriction w s) else none
  List.replicate 30 none ++ [entry .radioLoss, entry .odoDegraded]

/-- An accepted LINE_LOAD_BEGIN empties the table; a table that held an entry leaves one TABLE_CLEARED record (R5,
R68). -/
def clearTable (s : State) : State :=
  if s.restr.table.any (·.isSome) then
    restrChanged { s.restr with table := List.replicate 32 none, overflow := 0,
                                log := [⟨.tableCleared, none, none, s.restr.clock⟩] } s
  else s

end Sys2Proof.Machine
end

