-- ==== Sys2Proof/Machine/RadioOps.lean ====
section
/-! DEFINITION. Operations of the Radio Frame Controller and of the uplink queue: handover, link state, beacons, slot
routes, the init sequence (chapter 7), and adding to the queue (R169 to R172). -/

namespace Sys2Proof.Machine

/-! ### The uplink queue (R171) -/

/-- An ACK entry is added at the tail; a full queue gives up its REPORT entry or discards the ACK (R171). -/
def queueAck (k : AckKind) (reference : Nat) (res : Result) (station : Nat) (s : State) : State :=
  let e : Uplink := .ack k reference res station
  let q := s.tele.queue
  if q.length < 8 then s.setTele { s.tele with queue := q ++ [e] }
  else if q.contains .report then
    addRadioCause .reportDisplaced (s.setTele { s.tele with
      queue := q.erase .report ++ [e],
      counts := { s.tele.counts with displaced := bump s.tele.counts.displaced } })
  else
    addRadioCause .uplinkFull (s.setTele { s.tele with
      counts := { s.tele.counts with uplinkDiscards := bump s.tele.counts.uplinkDiscards } })

/-- A POLL adds a REPORT entry when none is queued; a full queue discards it (R171, R172). -/
def queueReport (s : State) : State :=
  let q := s.tele.queue
  if q.contains .report then s
  else if q.length < 8 then s.setTele { s.tele with queue := q ++ [.report] }
  else
    addRadioCause .uplinkFull (s.setTele { s.tele with
      counts := { s.tele.counts with uplinkDiscards := bump s.tele.counts.uplinkDiscards } })

/-! ### Channel, grant and handover -/

/-- The channel table entry of a cell (R158). -/
def channelOf (r : Radio) (cell : Nat) : Nat := r.channels.getD cell 0

/-- The grant is cleared and its slot becomes OFF (R159). -/
def clearGrant (r : Radio) : Radio :=
  match r.grant with
  | none => r
  | some g => { r with grant := none, routes := r.routes.set g.slot .off }

/-- What a handover does to the controller once the tuned cell and channel are set: the grant is cleared, the holdover
timer stopped, the miss count 0, the state SEARCH (R157, R158). RTXEN and RTXD stay as the slot in progress began:
DESIGN CHOICE, log 43. -/
def enterSearchAnew (r : Radio) : Radio :=
  { clearGrant r with holdover := none, miss := 0, sync := .search }

/-- A crossing into a section served by `cell`: a handover when it differs from the tuned cell, outside INIT (R157). -/
def radioCrossing (cell : Nat) (s : State) : State :=
  if s.radio.sync = .init ∨ s.radio.tuned = some cell then s
  else
    addRadioCause .handover
      (s.setRadio (enterSearchAnew { s.radio with tuned := some cell, chsel := channelOf s.radio cell }))

/-- The crossing event for the current section of the odometry, if it holds one. -/
def radioCrossingCurrent (s : State) : State :=
  match currentRecord s with
  | none => s
  | some r => radioCrossing r.cell s

/-! ### Link state (R161) -/

/-- An accepted telegram: the radio-loss timer restarts and the link becomes OK, which the Restriction Table answers
(R161, R168). -/
def linkHeard (s : State) : State :=
  let s1 := s.setRadio { s.radio with loss := some s.params.tLoss }
  if s.radio.link = .ok then s1
  else judgePart .radioLoss (addRadioCause .linkOk (s1.setRadio { s1.radio with link := .ok }))

/-- The radio-loss timer has expired (R161). -/
def linkExpired (s : State) : State :=
  let s1 := s.setRadio { s.radio with loss := none }
  if s.radio.link = .lost then s1
  else judgePart .radioLoss (addRadioCause .linkLost (s1.setRadio { s1.radio with link := .lost }))

/-! ### Beacons (R151 to R156) -/

/-- The current section's tunnel flag is set, as the Section Table holds it now (R151). -/
def inTunnel (s : State) : Bool := (currentRecord s).any (·.tunnel)

/-- The source a beacon's source code names, if valid (R151, R202). -/
def beaconSourceOf (code : Nat) (s : State) : Option BeaconSource :=
  if code = 1 then some .valley
  else if code = 2 ∧ inTunnel s = true then some .repeater
  else none

/-- A returned beacon is valid: in SEARCH, or in slot 0 in LOCKED or HOLDOVER; frame 0..24; the tuned cell; a valid
source (R151). -/
def beaconValid (frame cell : Nat) (source : BeaconOrigin) (s : State) : Bool :=
  (s.radio.sync == .search || ((s.radio.sync == .locked || s.radio.sync == .holdover) && source.came.slot == 0))
    && frame ≤ 24 && cell ≤ 15 && s.radio.tuned == some cell && (beaconSourceOf source.code s).isSome

/-- Realignment: the frame counter, slot index 0, and the slot timer set to expire 6 ms later; no RSTB pulse (R144).
RTXEN and RTXD stay as the slot in progress began: log 43. -/
def realign (frame : Nat) (r : Radio) : Radio :=
  { r with frame := frame, slotIndex := 0, slotRoute := .receive, slotTimer := some Config.realignMs, rstb := false }

/-- Every valid beacon in LOCKED, and an acquisition: the miss count 0, the slot 0 in progress has had its beacon, and
the radio-loss timer restarted (R152, R153, R161). -/
def beaconHeard (tLoss : Nat) (r : Radio) : Radio := { r with miss := 0, beaconSeen := true, loss := some tLoss }

/-- Acquisition in SEARCH or HOLDOVER (R152, R156). -/
def acquire (frame : Nat) (src : BeaconSource) (s : State) : State :=
  addRadioCause .locked (s.setRadio
    { beaconHeard s.params.tLoss (realign frame s.radio) with
      source := src, guardOpen := false, guardCount := 0, holdover := none, sync := .locked })

/-- A valid beacon in LOCKED (R153). -/
def confirmOrResync (frame : Nat) (src : BeaconSource) (s : State) : State :=
  let r := beaconHeard s.params.tLoss s.radio
  if frame = r.frame then
    if r.guardOpen then s.setRadio { r with guardOpen := false, guardCount := 0 } else s.setRadio r
  else if r.guardOpen then
    addRadioCause .resync (s.setRadio { realign frame r with source := src, guardOpen := false, guardCount := 0 })
  else s.setRadio r

/-- A beacon returned to the controller (R151 to R153, R156). -/
def takeBeacon (frame cell : Nat) (source : BeaconOrigin) (s : State) : State :=
  if beaconValid frame cell source s then
    match beaconSourceOf source.code s with
    | none => s
    | some src => if s.radio.sync = .locked then confirmOrResync frame src s else acquire frame src s
  else s

/-! ### Slot starts (R144, R154, R155) -/

/-- The guard value: 24 with FULL, 12 with HALF (R154). -/
def guardValue (p : Params) : Nat := if p.guard = 0 then 24 else 12

/-- A frame start with the guard window closed: the count grows, held at the guard value, and the window opens at it
(R154). -/
def guardFrame (p : Params) (r : Radio) : Radio :=
  if r.guardOpen then r
  else
    { r with guardCount := min (r.guardCount + 1) (guardValue p),
             guardOpen := guardValue p ≤ r.guardCount + 1 }

/-- The holdover timer expires (R156). RTXEN and RTXD stay as the slot in progress began: log 43. -/
def holdoverExpired (s : State) : State :=
  if s.radio.sync = .holdover then
    addRadioCause .searchEntered (s.setRadio { s.radio with sync := .search, holdover := none })
  else s

/-- HOLDOVER is entered at the third miss and its timer started; with `t_hold` at 0 the timer expires at its start
(R155, R156). -/
def enterHoldover (s : State) : State :=
  let t := addRadioCause .holdover
    (s.setRadio { s.radio with miss := 0, sync := .holdover, holdover := some s.params.tHold })
  if s.params.tHold = 0 then holdoverExpired t else t

/-- The end of a slot 0 in LOCKED without a valid beacon: a miss, and HOLDOVER at the third (R155). -/
def endOfSlot0 (s : State) : State :=
  if s.radio.sync = .locked ∧ s.radio.slotIndex = 0 ∧ s.radio.beaconSeen = false then
    if s.radio.miss + 1 < 3 then s.setRadio { s.radio with miss := s.radio.miss + 1 }
    else enterHoldover s
  else s

/-- The slot clock advances: slot timer, slot index, frame counter and guard window at a frame start, the slot's route,
and the RSTB pulse (R144, R146, R154). -/
def advanceSlot (p : Params) (r : Radio) : Radio :=
  let i := (r.slotIndex + 1) % 8
  let r1 : Radio := { r with slotTimer := some Config.slotMs, slotIndex := i, slotRoute := r.routes.getD i .off,
                             rstb := true, rtxen := false, rtxd := [] }
  if i = 0 then guardFrame p { r1 with frame := (r.frame + 1) % 25, beaconSeen := false } else r1

/-- The slot start is a transmit opportunity (R160). `(frame − phase) mod period` is taken on integers. -/
def transmitOpportunity (r : Radio) : Bool :=
  (r.sync == .locked || r.sync == .holdover)
    && r.grant.any (fun g => r.slotIndex == g.slot && ((r.frame : Int) - g.phase) % g.period == 0)

/-! ### The init sequence (R148, R149) -/

/-- The radio columns of R148 for a soft or radio reset: everything but the channel table, and CHSEL keeps the channel it
last presented (R144). `quiet` marks a sequence started by power-on or soft reset (R149). -/
def radioInit (quiet : Bool) (r : Radio) : Radio :=
  { Radio.reset with channels := r.channels, chsel := r.chsel, initQuiet := quiet }

/-- The cell the end of the sequence tunes to: the current section's on a SEALED line, else cell 0 (R149). -/
def initCell (s : State) : Nat := if isSealed s then (currentRecord s).elim 0 (·.cell) else 0

/-- The end of the init sequence (R149). -/
def finishInit (s : State) : State :=
  let cell := initCell s
  let s1 := s.setRadio { s.radio with
    sync := .search, initTimer := none, tuned := some cell, chsel := channelOf s.radio cell,
    slotTimer := some Config.slotMs, slotIndex := 0, frame := 0, slotRoute := .receive, rstb := false }
  if s.radio.initQuiet then s1 else addRadioCause .searchEntered s1

end Sys2Proof.Machine
end

