-- ==== Sys2Proof/Machine/WindowOps.lean ====
section
/-! DEFINITION. The Lookahead Window (section 1.4): the derivation of its 32 entries and the NO_MARGIN notice. -/

namespace Sys2Proof.Machine

/-- The table index an offset names: `c + k` for UP and NEUTRAL, `c − k` for DOWN (R11). -/
def offsetIndex (dir : Dir) (c : Nat) (k : Int) : Option Nat :=
  let i : Int := if dir = .down then (c : Int) - k else (c : Int) + k
  if 0 ≤ i then some i.toNat else none

/-- The static limit of a section for a direction (R12). -/
def staticLimit (dir : Dir) (r : SectionRec) : Nat := conv (if dir = .down then r.limitDown else r.limitUp)

/-- The braking capability of a section's kind (R13, step 1). -/
def capability (p : Params) (k : Kind) : Nat := if k = .rack then p.aRack else p.aAdh

/-- The descent of a section for a direction (R13, step 2). -/
def descent (dir : Dir) (r : SectionRec) : Int := if dir = .down then r.gradient else -r.gradient

/-- The gravity term `ceil(9,807 × descent / 1,000)`, 0 without a descent (R13, step 2). -/
def gravityTerm (d : Int) : Nat := if 0 < d then (9807 * d.toNat + 999) / 1000 else 0

/-- The window entry of a section (R12, R13). -/
def deriveEntry (p : Params) (dir : Dir) (i : Nat) (r : SectionRec) : WinEntry :=
  let g := gravityTerm (descent dir r)
  { index := i, limit := staticLimit dir r, aS := capability p r.kind - g, noMargin := capability p r.kind < g }

/-- The offset of window place `j`: −8..+23 (R11). -/
def offsetOf (j : Nat) : Int := (j : Int) - 8

/-- The 32 entries derived anew; all NONE while the odometry holds no current section (R11, R14). -/
def derivedWindow (s : State) : List (Option WinEntry) :=
  (List.range 32).map fun j =>
    s.odo.cur.bind fun c =>
      (offsetIndex s.sup.dir c (offsetOf j)).bind fun i =>
        (recordAt s i).map (deriveEntry s.params s.sup.dir i)

/-- The first new NO_MARGIN entry in offset order whose section was not named with NO_MARGIN before (R15). -/
def newNoMargin (old new : List (Option WinEntry)) : Option WinEntry :=
  (new.find? (fun o => o.any (fun e =>
    e.noMargin && !old.any (fun p => p.any (fun f => f.index == e.index && f.noMargin))))).join

/-- The derivation of R14 with the comparison of R15: a NO_MARGIN section newly in view writes the line update record
and sets LINE_UPDATE. -/
def deriveWindow (s : State) : State :=
  let new := derivedWindow s
  let s1 := s.setWindow new
  match (newNoMargin s.window new).bind (fun e => recordAt s e.index) with
  | none => s1
  | some r => setFlag .lineUpdate (s1.setLine { s1.line with update := some (.noMargin r.number) })

/-- The derivation at soft reset, which writes no record and sets no flag (R15). -/
def deriveWindowQuietly (s : State) : State := s.setWindow (derivedWindow s)

/-- The window entry at an offset (R16). -/
def windowAt (s : State) (k : Int) : Option WinEntry := s.window.getD (k + 8).toNat none

end Sys2Proof.Machine
end

