-- ==== Sys2Proof/Machine/DoorOps.lean ====
section
/-! DEFINITION. The Door Controller (chapter 6): the leaf state machine, the leaves' events, side releases, car closed
and the DOORS entry. -/

namespace Sys2Proof.Machine

/-! ### The leaf state machine (sections 6.1 to 6.4) -/

/-- What a leaf's transitions read besides its own record: its side's release, the parameters and the line clock. -/
structure LeafEnv where
  released : Bool
  autoOpen : Bool
  tOpen : Nat
  tClose : Nat
  obsLimit : Nat
  clock : Option Nat

/-- Enters OPEN: `t_pause` while close pending, else no timer (R121, R131). -/
def enterOpened (l : Leaf) : Leaf :=
  { l with state := .opened, timer := if l.closePending then some (.tPause, Config.tPause) else none }

/-- Enters OPENING; OPS already on moves on to OPEN at once (R122, R126). -/
def enterOpening (e : LeafEnv) (l : Leaf) : Leaf :=
  if l.ops then enterOpened l else { l with state := .opening, timer := some (.tOpen, e.tOpen) }

/-- Enters REOPENING; OPS already on moves on to OPEN at once (R122, R131). -/
def enterReopening (l : Leaf) : Leaf :=
  if l.ops then enterOpened l else { l with state := .reopening, timer := some (.tReopen, Config.tReopen) }

/-- The bolt has retracted: OPENING when the release carries auto-open, else UNLOCKED (R124). -/
def boltRetracted (e : LeafEnv) (l : Leaf) : Leaf :=
  if e.autoOpen then enterOpening e l else { l with state := .unlocked, timer := none }

/-- Enters UNLOCKING; LKS already off moves on at once (R122, R124). -/
def enterUnlocking (e : LeafEnv) (l : Leaf) : Leaf :=
  if l.lks then { l with state := .unlocking, timer := some (.tLock, Config.tLock) } else boltRetracted e l

/-- Enters LOCKED: counts and close pending cleared (R132). A release in force moves it on in `moveLeaf` (R122). -/
def enterLocked (l : Leaf) : Leaf :=
  { l with state := .locked, timer := none, obstructions := 0, overCurrent := 0, closePending := false }

/-- Enters LOCKING; LKS already on moves on to LOCKED at once (R122, R132). -/
def enterLocking (l : Leaf) : Leaf :=
  if l.lks then enterLocked l else { l with state := .locking, timer := some (.tLock, Config.tLock) }

/-- Enters CLOSING: over-current count 0, close pending cleared; CLS already on moves on to LOCKING (R122, R127). -/
def enterClosing (e : LeafEnv) (l : Leaf) : Leaf :=
  let l1 := { l with overCurrent := 0, closePending := false }
  if l1.cls then enterLocking l1 else { l1 with state := .closing, timer := some (.tClose, e.tClose) }

/-- Enters FAULT: outputs off, timer stopped, close pending and over-current cleared, the held fault record written when
empty (R133). The second part is the causes added to the door cause set. -/
def enterFault (e : LeafEnv) (c : LeafCause) (l : Leaf) : Leaf × List DoorCause :=
  ({ l with state := .fault, timer := none, closePending := false, overCurrent := 0,
            fault := if l.fault.isSome then l.fault else some (c, e.clock) }, [.leafFault])

/-- An obstruction or the expiry of `t_close` on a CLOSING leaf (R130). -/
def obstructed (e : LeafEnv) (l : Leaf) : Leaf × List DoorCause :=
  if l.obstructions < e.obsLimit then
    (enterReopening { l with obstructions := l.obstructions + 1, closePending := !e.released }, [.obstruction])
  else enterFault e .obstructionLimit l

/-- A close request or a withdrawal of the side's release (R135, R138). -/
def leafClose (e : LeafEnv) (l : Leaf) : Leaf :=
  match l.state with
  | .unlocking => enterLocking l
  | .unlocked => enterLocking l
  | .opening => enterClosing e l
  | .opened => enterClosing e l
  | .reopening => { l with closePending := true }
  | .halted => enterClosing e { l with obstructions := 0 }
  | .fault => enterClosing e { l with obstructions := 0 }
  | .locked => l
  | .locking => l
  | .closing => l
  | .isolated => l

/-- The grant of the side's release (R137). -/
def leafGrant (e : LeafEnv) (l : Leaf) : Leaf :=
  match l.state with
  | .locked => enterUnlocking e l
  | .unlocked => if e.autoOpen then enterOpening e l else l
  | .opened => { l with closePending := false, timer := none }
  | .reopening => { l with closePending := false }
  | .closing => l
  | .locking => l
  | .unlocking => l
  | .opening => l
  | .halted => l
  | .fault => l
  | .isolated => l

/-- CLS changes; `l` holds the new level (R123, R128, R132, R139). -/
def leafCls (e : LeafEnv) (l : Leaf) : Leaf × List DoorCause :=
  if l.cls then
    match l.state with
    | .closing => (enterLocking l, [])
    | _ => (l, [])
  else
    match l.state with
    | .locked => enterFault e .switchDisagree l
    | .locking => enterFault e .switchDisagree l
    | .isolated => enterFault e .switchDisagree l
    | _ => (l, [])

/-- LKS changes; `l` holds the new level (R123, R124, R132, R139). -/
def leafLks (e : LeafEnv) (l : Leaf) : Leaf × List DoorCause :=
  if l.lks then
    match l.state with
    | .locking => (enterLocked l, [])
    | _ => (l, [])
  else
    match l.state with
    | .unlocking => (boltRetracted e l, [])
    | .locked => enterFault e .switchDisagree l
    | .isolated => enterFault e .switchDisagree l
    | _ => (l, [])

/-- OPS changes; `l` holds the new level (R126, R131). -/
def leafOps (l : Leaf) : Leaf :=
  if l.ops then
    match l.state with
    | .opening => enterOpened l
    | .reopening => enterOpened l
    | _ => l
  else l

/-- PB changes; `l` holds the new level (R125). -/
def leafPb (e : LeafEnv) (l : Leaf) : Leaf :=
  if l.pb then
    match l.state with
    | .unlocked => enterOpening e l
    | _ => l
  else l

/-- A valid conversion of the leaf's motor current (R129). -/
def leafConversion (e : LeafEnv) (w : WinState) (l : Leaf) : Leaf × List DoorCause :=
  match l.state with
  | .closing =>
    if w = .above then
      if l.overCurrent + 1 < 2 then ({ l with overCurrent := l.overCurrent + 1 }, [])
      else obstructed e { l with overCurrent := 0 }
    else ({ l with overCurrent := 0 }, [])
  | _ => (l, [])

/-- The motion timer runs as this time. -/
def runsAs (t : LeafTime) (l : Leaf) : Bool := l.timer.any (fun x => x.1 == t)

/-- The leaf's motion timer expires, running as `t`; a time that does not run does not expire (R124, R126, R127, R130 to
R132). -/
def leafExpiry (e : LeafEnv) (t : LeafTime) (l : Leaf) : Leaf × List DoorCause :=
  if runsAs t l then
    match t, l.state with
    | .tLock, .unlocking => enterFault e .lockTimeout l
    | .tLock, .locking => enterFault e .lockTimeout l
    | .tOpen, .opening => enterFault e .openTimeout l
    | .tClose, .closing => obstructed e l
    | .tReopen, .reopening => (enterOpened l, [])
    | .tPause, .opened => if l.closePending then (enterClosing e l, []) else (l, [])
    | _, _ => (l, [])
  else (l, [])

/-- ISOLATED entered: outputs off, timer stopped, close pending and counts cleared (R139). -/
def enterIsolated (l : Leaf) : Leaf :=
  { l with state := .isolated, timer := none, obstructions := 0, overCurrent := 0, closePending := false }

/-- The leaf after a power-on or soft reset: LOCKED when CLS and LKS are on, HALTED otherwise (R120). The input levels
are kept. -/
def leafReset (l : Leaf) : Leaf :=
  { state := if l.cls && l.lks then .locked else .halted, timer := none, obstructions := 0, overCurrent := 0,
    closePending := false, fault := none, cls := l.cls, lks := l.lks, ops := l.ops, pb := l.pb }

/-- Motor open, motor close and lock coil of a state (R121). -/
def leafOutputs : LeafState → Bool × Bool × Bool
  | .locked => (false, false, false)
  | .unlocking => (false, false, true)
  | .unlocked => (false, false, true)
  | .opening => (true, false, true)
  | .opened => (false, false, true)
  | .closing => (false, true, true)
  | .reopening => (true, false, true)
  | .locking => (false, false, false)
  | .halted => (false, false, false)
  | .fault => (false, false, false)
  | .isolated => (false, false, false)

/-! ### The six leaves -/

def getLeaf (ls : Leaves) : LeafId → Leaf
  | .l1 => ls.l1 | .l2 => ls.l2 | .l3 => ls.l3 | .r4 => ls.r4 | .r5 => ls.r5 | .r6 => ls.r6

def putLeaf (id : LeafId) (l : Leaf) (ls : Leaves) : Leaves :=
  match id with
  | .l1 => { ls with l1 := l }
  | .l2 => { ls with l2 := l }
  | .l3 => { ls with l3 := l }
  | .r4 => { ls with r4 := l }
  | .r5 => { ls with r5 := l }
  | .r6 => { ls with r6 := l }

def allLeaves (ls : Leaves) : List Leaf := [ls.l1, ls.l2, ls.l3, ls.r4, ls.r5, ls.r6]

/-- Every leaf taken through a function, or the three of a side. -/
def mapLeaves (f : Leaf → Leaf) (ls : Leaves) : Leaves :=
  ⟨f ls.l1, f ls.l2, f ls.l3, f ls.r4, f ls.r5, f ls.r6⟩

def mapSide (side : Side) (f : Leaf → Leaf) (ls : Leaves) : Leaves :=
  match side with
  | .left => { ls with l1 := f ls.l1, l2 := f ls.l2, l3 := f ls.l3 }
  | .right => { ls with r4 := f ls.r4, r5 := f ls.r5, r6 := f ls.r6 }
  | .both => mapLeaves f ls

/-- The side of a leaf (chapter 6). -/
def leafSide : LeafId → Side
  | .l1 => .left | .l2 => .left | .l3 => .left | .r4 => .right | .r5 => .right | .r6 => .right

/-- A leaf counts as closed: LOCKED or ISOLATED (R140). -/
def leafClosed (l : Leaf) : Bool := l.state == .locked || l.state == .isolated

/-- The car is closed while every leaf is LOCKED or ISOLATED (R140). -/
def carClosed (ls : Leaves) : Bool := (allLeaves ls).all leafClosed

/-! ### Releases -/

/-- The release record of a side. -/
def getRelease (d : Doors) (side : Side) : SideRelease := if side = .right then d.right else d.left

def putRelease (side : Side) (r : SideRelease) (d : Doors) : Doors :=
  if side = .right then { d with right := r } else { d with left := r }

/-- The environment of the leaves of a side. -/
def leafEnv (s : State) (side : Side) : LeafEnv :=
  { released := (getRelease s.doors side).inForce, autoOpen := (getRelease s.doors side).autoOpen,
    tOpen := s.params.tOpen, tClose := s.params.tClose, obsLimit := s.params.obsLimit, clock := s.restr.clock }

/-! ### Car closed and the DOORS entry (R140) -/

/-- The service level of the DOORS entry: `s_hold` at standstill while the car is not closed, else 0 (R140). -/
def doorsLevel (s : State) : Nat := if s.odo.standstill && !s.doors.closed then s.params.sHold else 0

/-- The DOORS entry's service level is rewritten; its emergency demand is never changed by it (R140). -/
def writeDoorsLevel (s : State) : State :=
  writeDemand .doors { s.brakes.doors with level := doorsLevel s } s

/-- Car closed is derived anew: a change adds CLOSED_CHANGED, rewrites the DOORS level and has the traction permit
judged (R140). -/
def closedAnew (s : State) : State :=
  if carClosed s.doors.leaves = s.doors.closed then s
  else
    writeDoorsLevel (addDoorCause .closedChanged (s.setDoors { s.doors with closed := carClosed s.doors.leaves }))

/-- Door causes added one after another. -/
def addDoorCauses (cs : List DoorCause) (s : State) : State := cs.foldl (fun s c => addDoorCause c s) s

/-- One leaf's record replaced and car closed derived anew (R140). -/
def settleLeaf (id : LeafId) (l : Leaf) (cs : List DoorCause) (s : State) : State :=
  closedAnew (addDoorCauses cs (s.setDoors { s.doors with leaves := putLeaf id l s.doors.leaves }))

/-- A leaf that has just entered LOCKED with its side's release in force, which moves it on at once (R122). -/
def movesOn (e : LeafEnv) (before after : Leaf) : Bool :=
  after.state == .locked && before.state != .locked && e.released

/-- One leaf takes an event. Car closed is derived anew after every change of state that can alter it (R140): when the
leaf has come to rest, and, for a leaf that passes through LOCKED under a release, in LOCKED and again in UNLOCKING. The
other states passed through at once (R122) are neither LOCKED nor ISOLATED, so they leave car closed as it is (log
32). -/
def moveLeaf (id : LeafId) (f : LeafEnv → Leaf → Leaf × List DoorCause) (s : State) : State :=
  let e := leafEnv s (leafSide id)
  let l := getLeaf s.doors.leaves id
  let x := f e l
  let s1 := settleLeaf id x.1 x.2 s
  if movesOn e l x.1 then settleLeaf id (enterUnlocking e x.1) [] s1 else s1

/-- The leaves of a side take an event that adds no cause. A grant takes leaves out of LOCKED alone and a close request
brings them in alone, under a release already withdrawn, so car closed changes at most once and one derivation finds
it. -/
def moveSide (side : Side) (f : LeafEnv → Leaf → Leaf) (s : State) : State :=
  closedAnew (s.setDoors { s.doors with leaves := mapSide side (f (leafEnv s side)) s.doors.leaves })

/-! ### Side release (R136 to R138) -/

/-- The platforms whose range contains the whole safe extent of the last sample, with the number of the section that
carries each, in offset order (R136, check 4). -/
def containingPlatforms (s : State) : List (Platform × Nat) :=
  s.window.filterMap fun o =>
    (o.bind (fun e => recordAt s e.index)).bind fun r =>
      r.platform.bind fun p =>
        if (p.lo : Int) ≤ extentLo s.params.L s.odo.sample.p s.odo.sample.u
            ∧ extentHi s.odo.sample.p s.odo.sample.u ≤ (p.hi : Int) then some (p, r.number) else none

/-- A side, or BOTH, includes a side. -/
def sideIncludes (have_ want : Side) : Bool := have_ == .both || have_ == want

/-- The first qualifying platform in offset order: its id and its section's number (R136). -/
def qualifyingPlatform (side : Side) (s : State) : Option (Nat × Nat) :=
  ((containingPlatforms s).find? (fun x => sideIncludes x.1.side side)).map (fun x => (x.1.id, x.2))

/-- A side code of a DOOR restriction forbids a side; 3, BOTH, forbids both (R136, check 6). -/
def doorForbids (limit : Nat) (side : Side) : Bool := (anySideOfCode limit).any (fun x => sideIncludes x side)

/-- An ACTIVE DOOR entry overlaps the safe extent and forbids the side (R136, check 6). -/
def doorRestricted (side : Side) (s : State) : Bool :=
  s.restr.table.any fun o => o.any fun e =>
    e.active && e.kind == .door
      && rangeOverlaps e.lo e.hi (extentLo s.params.L s.odo.sample.p s.odo.sample.u)
          (extentHi s.odo.sample.p s.odo.sample.u)
      && doorForbids e.limit side

/-- The first check of R136 that fails, `none` when all pass. `st` is the odometry state judged: as it stands for a
request, the sample's for a re-test. -/
def releaseCheck (side : Side) (st : OdoState) (s : State) : Withdrawal :=
  let known := st == .valid || st == .degraded
  let inLine := s.sup.mode == .line
  if !(s.sup.mode == .depot || inLine) then .mode
  else if !s.odo.standstill then .notStill
  else if inLine && !known then .odometry
  else if inLine && (containingPlatforms s).isEmpty then .noPlatform
  else if inLine && (qualifyingPlatform side s).isNone then .wrongSide
  else if known && doorRestricted side s then .doorRestricted
  else .none

/-- A side release put in force, and the leaves' grant (R136, R137). -/
def grantRelease (side : Side) (autoOpen : Bool) (s : State) : State :=
  let platform := if s.sup.mode = .line then qualifyingPlatform side s else none
  let r := { getRelease s.doors side with inForce := true, autoOpen := autoOpen, platform := platform }
  moveSide side leafGrant (s.setDoors (putRelease side r s.doors))

/-- A release record withdrawn with a cause (R135, R138). -/
def withdrawnRelease (cause : Withdrawal) : SideRelease :=
  { inForce := false, autoOpen := false, platform := none, cause := cause }

/-- CLOSE_SIDE on a side: its release withdrawn with CLOSE_REQUEST when in force, and the close request (R135). -/
def closeSide (side : Side) (s : State) : State :=
  let s1 := if (getRelease s.doors side).inForce then
    s.setDoors (putRelease side (withdrawnRelease .closeRequest) s.doors) else s
  moveSide side leafClose s1

/-- The re-test of one side's release; a failing check withdraws it (R138). -/
def retestRelease (side : Side) (s : State) : State :=
  if (getRelease s.doors side).inForce then
    match releaseCheck side s.odo.sample.state s with
    | .none => s
    | cause =>
      moveSide side leafClose
        (addDoorCause .releaseWithdrawn (s.setDoors (putRelease side (withdrawnRelease cause) s.doors)))
  else s

/-- Both releases re-tested: at a position sample and at a change of mode (R138). -/
def retestReleases (s : State) : State := retestRelease .right (retestRelease .left s)

/-- The interlock at a sample: the DOORS level rewritten; a car not closed and not at standstill latches DOOR_MOTION
(R140, R141). -/
def judgeInterlock (s : State) : State :=
  let s1 := writeDoorsLevel s
  if !s.odo.standstill && !s.doors.closed then
    if s.brakes.doors.emergency = .latched then s1 else addDoorCause .doorMotion (latchDemand .doors s1)
  else s1

end Sys2Proof.Machine
end

