-- ==== Sys2Proof/Machine/StagingOps.lean ====
section
/-! DEFINITION. The Staging Buffer (section 1.5): blocks, commits, the locked span, application, abort. -/

namespace Sys2Proof.Machine

/-- The Staging Buffer returns to IDLE; the station kept for a held commit goes with the update (R17, R170). -/
def dropStaging (s : State) : State :=
  (s.setStaging .idle).setTele { s.tele with heldStation := none }

/-! ### Blocks (R18, R19) -/

/-- Check 3 of R18: the record a block carries, or none for BAD_VALUE. -/
def blockRecord (b : BlockWire) : Option SectionRec :=
  if 1 ≤ b.id ∧ b.id ≤ 65535 ∧ 1 ≤ b.count ∧ b.count ≤ 16 ∧ b.first + b.count - 1 ≤ 65535 ∧ b.index < b.count
      ∧ b.record.number = b.first + b.index then
    sectionOfWire b.record
  else none

/-- FILLING opened by a block (R19). -/
def openUpdate (owner : Owner) (b : BlockWire) (r : SectionRec) : StagedUpdate :=
  { id := b.id, first := b.first, count := b.count, owner := owner,
    records := (List.replicate b.count none).set b.index (some r) }

/-- A block taken by the Staging Buffer (R18, R19). -/
def stageBlock (owner : Owner) (b : BlockWire) (s : State) : Result × State :=
  if !isSealed s then (.noLine, s)
  else if owner = .car ∧ inYard s = false then (.mode, s)
  else
    match blockRecord b with
    | none => (.badValue, s)
    | some r =>
      match s.staging with
      | .idle => (.accepted, s.setStaging (.filling (openUpdate owner b r)))
      | .held _ _ => (.busy, s)
      | .filling u =>
        if u.owner ≠ owner then (.busy, s)
        else if u.id ≠ b.id then (.accepted, s.setStaging (.filling (openUpdate owner b r)))
        else if u.first ≠ b.first ∨ u.count ≠ b.count then (.badValue, s)
        else (.accepted, s.setStaging (.filling { u with records := u.records.set b.index (some r) }))

/-! ### The locked span (R21) -/

/-- The closed interval of the locked span; none in STANDBY and DEPOT. -/
def lockedInterval (s : State) : Option (Int × Int) :=
  if inYard s then none
  else
    let lo := extentLo s.params.L (pMm s.odo) (uMm s.odo)
    let hi := extentHi (pMm s.odo) (uMm s.odo)
    let d : Int := s.params.lockDistance
    match s.sup.dir with
    | .up => some (lo, hi + d)
    | .down => some (lo - d, hi)
    | .neutral => some (lo - d, hi + d)

/-- A staged record lies in the locked span when the section of the same number does (R21). -/
def inLockedSpan (s : State) (number : Nat) : Bool :=
  (lockedInterval s).any fun (lo, hi) =>
    s.line.records.any (fun r => r.number == number && sectionOverlaps r lo hi)

/-- At least one staged record lies in the locked span. -/
def spanBlocks (u : StagedUpdate) (s : State) : Bool :=
  u.records.any (·.any (fun r => inLockedSpan s r.number))

/-! ### Application (R22) -/

/-- The staged record of a section number. -/
def stagedFor (u : StagedUpdate) (number : Nat) : Option SectionRec :=
  (u.records.find? (·.any (·.number == number))).join

/-- A stored record with the staged attributes: limits, cell, tunnel, platform, mark (R22). -/
def withAttributes (old new : SectionRec) : SectionRec :=
  { old with limitUp := new.limitUp, limitDown := new.limitDown, cell := new.cell, tunnel := new.tunnel,
             platform := new.platform, mark := new.mark }

/-- The Section Table's records after an application. -/
def appliedRecords (u : StagedUpdate) (rs : List SectionRec) : List SectionRec :=
  rs.map (fun r => (stagedFor u r.number).elim r (withAttributes r))

/-- A staged update is applied: attributes, line check, window, COMMIT_DONE record, IDLE; the Radio Frame Controller is
told when the current section's cell changes (R22). -/
def applyUpdate (u : StagedUpdate) (s : State) : State :=
  let before := (currentRecord s).map (·.cell)
  let rs := appliedRecords u s.line.records
  let s1 := deriveWindow (s.setLine { s.line with records := rs, check := lineCheckOf rs })
  let s2 := dropStaging (setFlag .lineUpdate (s1.setLine { s1.line with update := some (.commitDone u.id) }))
  if (currentRecord s2).map (·.cell) = before then s2 else radioCrossingCurrent s2

/-- The final result of a held SECTION_COMMIT, acknowledged to the station kept (R170). -/
def ackHeld (u : StagedUpdate) (station : Option Nat) (res : Result) (s : State) : State :=
  match u.owner, station with
  | .valley, some st => queueAck .sectionCommit u.id res st s
  | _, _ => s

/-- A held commit is tested again against the locked span and applied when it is clear (R23). -/
def retestHeld (s : State) : State :=
  match s.staging with
  | .held u _ => if spanBlocks u s then s else ackHeld u s.tele.heldStation .done (applyUpdate u s)
  | _ => s

/-! ### Commit and abort (R20, R25) -/

/-- The checks of R20 on an open update, in order; none when all pass. -/
def commitCheck (id crc : Nat) (u : StagedUpdate) (s : State) : Option Result :=
  let rs := u.records.filterMap (fun o => o)
  if id ≠ u.id then some .notFound
  else if u.records.any (·.isNone) then some .incomplete
  else if (lineCheckOf rs).toNat ≠ crc then some .check
  else if rs.any (fun r => !s.line.records.any (·.number == r.number)) then some .unknownSection
  else if rs.any (fun r => s.line.records.any (fun t => t.number == r.number &&
      !(t.start == r.start && t.length == r.length && t.gradient == r.gradient && t.kind == r.kind))) then
    some .geometry
  else none

/-- A commit (R20, R22, R23). -/
def commitUpdate (owner : Owner) (id crc : Nat) (s : State) : Result × State :=
  match s.staging with
  | .idle => (.notFound, s)
  | .held _ _ => (.busy, s)
  | .filling u =>
    if owner = .car ∧ inYard s = false then (.mode, s)
    else if u.owner ≠ owner then (.busy, s)
    else
      match commitCheck id crc u s with
      | some code => (code, dropStaging s)
      | none =>
        if spanBlocks u s then (.held, s.setStaging (.held u s.params.tCommit))
        else (.done, applyUpdate u s)

/-- The open update, in FILLING or COMMIT_HELD. -/
def openStaged (s : State) : Option StagedUpdate :=
  match s.staging with
  | .idle => none
  | .filling u => some u
  | .held u _ => some u

/-- An abort (R25). -/
def abortUpdate (owner : Owner) (id : Nat) (s : State) : Result × State :=
  match openStaged s with
  | none => (.notFound, s)
  | some u =>
    if u.owner ≠ owner then (.notOwner, s)
    else if u.id ≠ id then (.notFound, s)
    else (.done, dropStaging s)

/-- The hold timer expires (R24). -/
def holdExpired (s : State) : State :=
  match s.staging with
  | .held u _ =>
    let s1 := dropStaging (s.setLine { s.line with update := some (.commitTimeout u.id) })
    ackHeld u s.tele.heldStation .timeout (setFlag .lineUpdate s1)
  | _ => s

end Sys2Proof.Machine
end

