-- ==== Sys2Proof/Machine/SupervisorOps.lean ====
section
/-! DEFINITION. Operations of the Speed Supervisor (chapter 4): changes of direction and mode, trips and release, the
SB_DEFICIT notice, and the evaluation of a position sample in the seven stages of R86. -/

namespace Sys2Proof.Machine

/-! ### Direction, mode, trips (sections 4.1 and 4.2) -/

/-- A change of direction: the rollback accumulator and the retained authority end cleared; the window, the Staging
Buffer and the traction permit told; MODE_CHANGED (R79). -/
def selectDir (d : Dir) (s : State) : State :=
  let s1 := s.setSup { s.sup with dir := d, rollback := 0, retained := none }
  setFlag .modeChanged (judgePermit (retestHeld (deriveWindow s1)))

/-- The supervisor's own records at a change of mode: the SUPERVISOR entry, and the records a change into STANDBY
clears (R78). -/
def enterMode (m : Mode) (s : State) : State :=
  writeSupervisor (s.setSup { s.sup with
    mode := m,
    rollback := if m == .standby then 0 else s.sup.rollback,
    retained := if m == .standby then none else s.sup.retained })

/-- The direction a change into STANDBY sets to NEUTRAL (R78). -/
def neutralInStandby (m : Mode) (s : State) : State :=
  if m == .standby && s.sup.dir != .neutral then selectDir .neutral s else s

/-- A change of mode outside a reset (R78): the supervisor's own records, the direction, then the Staging Buffer, the
Door Controller and the traction permit; MODE_CHANGED. -/
def changeMode (m : Mode) (s : State) : State :=
  setFlag .modeChanged (judgePermit (retestReleases (retestHeld (neutralInStandby m (enterMode m s)))))

/-- The modes in which a cause trips the supervisor (R81). -/
def canTrip (s : State) : Bool := s.sup.mode == .depot || s.sup.mode == .line

/-- Entry to TRIPPED from DEPOT or LINE: the trip record, the mode before trip, and a change of mode (R81). -/
def trip (c : TripCause) (s : State) : State :=
  changeMode .tripped (s.setSup { s.sup with
    trip := some ⟨c, s.sup.mode, pMm s.odo, s.restr.clock⟩, modeBefore := s.sup.mode })

/-- A trip cause found while the mode allows a trip (R81, R82). -/
def tripIf (found : Bool) (c : TripCause) (s : State) : State := if found && canTrip s then trip c s else s

/-- The supervisor's part of a RELEASE_TRIP: from TRIPPED, with the odometry not FAULT, back to the mode before trip
(R83). -/
def releaseSupervisor (s : State) : State :=
  if s.sup.mode = .tripped ∧ s.odo.state ≠ .fault then
    changeMode s.sup.modeBefore (s.setSup { s.sup with rollback := 0 })
  else s

/-- A notice of the Brake Output Unit that SB_DEFICIT was set or cleared (R97). -/
def sbNotice (b : Bool) (s : State) : State :=
  tripIf (b && s.sup.level == .service) .serviceDeficit (s.setSup { s.sup with sbView := b })

/-! ### Positions in the travel direction -/

/-- A position as a coordinate that grows in the travel direction, and back: its own inverse. -/
def along (d : Dir) (x : Int) : Int := if d = .down then -x else x

/-- The safe front of a sample in travel coordinates (R1). -/
def safeFront (d : Dir) (len p u : Nat) : Int :=
  if d = .down then along d (extentLo len p u) else along d (extentHi p u)

/-- The least front in travel coordinates: `p` for UP, `p − L` for DOWN (R85). -/
def leastFront (d : Dir) (len p : Nat) : Int := if d = .down then along d ((p : Int) - len) else along d p

/-- The entry and exit boundaries of a section in travel coordinates (R89). -/
def sectionEntry (d : Dir) (r : SectionRec) : Int :=
  if d = .down then along d (r.start + r.length : Nat) else along d r.start
def sectionExit (d : Dir) (r : SectionRec) : Int :=
  if d = .down then along d r.start else along d (r.start + r.length : Nat)

/-- The near boundary of a restriction's range in travel coordinates (R89). -/
def nearBoundary (d : Dir) (e : Restriction) : Int := if d = .down then along d e.hi else along d e.lo

/-- A restriction direction is the selected direction. -/
def isDir (d : Dir) (r : RDir) : Bool := (d == .up && r == .up) || (d == .down && r == .down)

/-- A restriction direction is the selected direction or BOTH. -/
def appliesTo (d : Dir) (r : RDir) : Bool := isDir d r || ((d == .up || d == .down) && r == .both)

/-! ### Rollback and overrun (R84, R85) -/

/-- The rollback accumulator after a sample's travel (R84). -/
def rollbackAfter (d : Dir) (acc : Nat) (travel : Int) : Nat :=
  match d with
  | .up => (acc - travel).toNat
  | .down => (acc + travel).toNat
  | .neutral => acc + travel.natAbs

/-- The least front has passed an ACTIVE STOP of the selected direction (R85). -/
def passedStop (d : Dir) (least : Int) (e : Restriction) : Bool :=
  e.active && e.kind == .stop && isDir d e.dir && along d e.lo < least

/-- The overrun test: in LINE with UP or DOWN selected, moving, odometry VALID or DEGRADED (R85). -/
def overrun (s : State) : Bool :=
  let x := s.odo.sample
  s.sup.mode == .line && s.sup.dir != .neutral && !x.standstill && (x.state == .valid || x.state == .degraded)
    && s.restr.table.any (·.any (passedStop s.sup.dir (leastFront s.sup.dir s.params.L x.p)))

/-! ### Targets (R89 to R91) -/

/-- A target: position in travel coordinates, speed and reference. -/
structure Target where
  kind : TargetKind
  at_ : Int
  speed : Nat
  ref : Ref
  deriving DecidableEq, Repr

/-- What an evaluation in LINE with UP or DOWN selected reads (R87): the non-NONE window entries with their sections and
places, the ACTIVE entries, and the sample's positions in travel coordinates. -/
structure Eval where
  dir : Dir
  entries : List (Nat × WinEntry × SectionRec)
  active : List Restriction
  lo : Int
  hi : Int
  front : Int
  least : Int
  curvePoint : Int
  dR : Nat
  lineEndIn : Bool
  lineEndAt : Int
  vEdge : Nat
  deriving DecidableEq, Repr

/-- The window's entries with their places 0..31 and their sections, NONE left out. -/
def windowSections (s : State) : List (Nat × WinEntry × SectionRec) :=
  s.window.zipIdx.filterMap fun (o, j) => o.bind fun e => (recordAt s e.index).map fun r => (j, e, r)

/-- The reaction distance `d_r` in mm (R92). -/
def reactionDistance (v : Int) (tR : Nat) : Nat := v.natAbs * tR / 1000

/-- The evaluation's readings from the sample, the window, the Restriction Table and the parameters (R87, R92). -/
def evalOf (s : State) : Eval :=
  let x := s.odo.sample
  let d := s.sup.dir
  let front := safeFront d s.params.L x.p x.u
  let endIndex := if d = .down then 0 else s.line.records.length - 1
  { dir := d, entries := windowSections s,
    active := s.restr.table.filterMap (fun o => o.filter (·.active)),
    lo := extentLo s.params.L x.p x.u, hi := extentHi x.p x.u, front := front,
    least := leastFront d s.params.L x.p,
    curvePoint := front + reactionDistance x.v s.params.tR, dR := reactionDistance x.v s.params.tR,
    lineEndIn := (windowSections s).any (fun y => y.2.1.index == endIndex),
    lineEndAt := along d (if d = .down then (lineStart s : Int) else (lineEnd s : Int)),
    vEdge := s.params.vEdge }

/-- The entry and section at offset +23. -/
def farEntry (e : Eval) : Option (WinEntry × SectionRec) := (e.entries.find? (·.1 == 31)).map (·.2)

/-- The window reach in travel coordinates: the line end when its section is in the window, else the far edge (section
4.3, "Targets"). None when the window names neither, which no run reaches (log 24). -/
def windowReach (e : Eval) : Option Int :=
  if e.lineEndIn then some e.lineEndAt else (farEntry e).map (fun y => sectionExit e.dir y.2)

/-- A target position is within the window. -/
def withinReach (e : Eval) (x : Int) : Bool := (windowReach e).any (x ≤ ·)

/-- SECTION_ENTRY targets (R89). -/
def sectionTargets (e : Eval) : List Target :=
  e.entries.filterMap fun (j, w, r) =>
    if 9 ≤ j && !sectionOverlaps r e.lo e.hi then
      some ⟨.sectionEntry, sectionEntry e.dir r, w.limit, .section_ r.number⟩ else none

/-- SPEED_BEGIN targets (R89). -/
def speedTargets (e : Eval) : List Target :=
  e.active.filterMap fun x =>
    if x.kind == .speed && appliesTo e.dir x.dir && e.front < nearBoundary e.dir x
        && withinReach e (nearBoundary e.dir x) then
      some ⟨.speedBegin, nearBoundary e.dir x, conv x.limit, .restriction x.issuer x.id⟩ else none

/-- An ACTIVE STOP of the selected direction that the least front has not passed. -/
def stopAhead (e : Eval) (x : Restriction) : Bool :=
  x.kind == .stop && isDir e.dir x.dir && e.least ≤ along e.dir x.lo

/-- STOP targets (R90). -/
def stopTargets (e : Eval) : List Target :=
  e.active.filterMap fun x =>
    if stopAhead e x && (x.issuer == .valley || x.issuer == .car) && withinReach e (along e.dir x.lo) then
      some ⟨.stop, along e.dir x.lo, 0, .restriction x.issuer x.id⟩ else none

/-- The LINE_END or WINDOW_EDGE target (R90). -/
def edgeTargets (e : Eval) : List Target :=
  if e.lineEndIn then [⟨.lineEnd, e.lineEndAt, 0, .none⟩]
  else
    match farEntry e with
    | none => []
    | some (w, r) => [⟨.windowEdge, sectionExit e.dir r, min (conv e.vEdge) w.limit, .none⟩]

/-- The nearer of two entries in the travel direction; of two at one position the one of lower table index (log 23). -/
def nearer (d : Dir) (best : Option Restriction) (x : Restriction) : Option Restriction :=
  match best with
  | none => some x
  | some b => if along d x.lo < along d b.lo then some x else some b

/-- The nearest VALLEY STOP in force ahead (R91). -/
def authorityStop (e : Eval) : Option Restriction :=
  (e.active.filter (fun x => stopAhead e x && x.issuer == .valley)).foldl (nearer e.dir) none

/-- The authority targets and the retained authority end that results (R91). -/
def authority (e : Eval) (retained : Option Nat) : List Target × Option Nat :=
  match authorityStop e with
  | some x =>
    (if withinReach e (along e.dir x.lo) then
      [⟨.authorityEnd, along e.dir x.lo, 0, .restriction x.issuer x.id⟩] else [], some x.lo)
  | none =>
    match retained with
    | some y =>
      (if withinReach e (along e.dir y) then [⟨.authorityRetained, along e.dir y, 0, .none⟩] else [], some y)
    | none => ([⟨.noAuthority, e.front, 0, .none⟩], none)

/-- Every target, in the order R98 uses for ties. -/
def targets (e : Eval) (retained : Option Nat) : List Target :=
  (authority e retained).1 ++ stopTargets e ++ speedTargets e ++ sectionTargets e ++ edgeTargets e

/-! ### The braking curve (R93) -/

/-- The length of the span from the curve point to a target, 0 when empty. -/
def spanLength (e : Eval) (t : Target) : Nat := (t.at_ - e.curvePoint).toNat

/-- The piece of the span that lies in a section (R93, step 2). -/
def pieceLength (e : Eval) (t : Target) (r : SectionRec) : Nat :=
  (min t.at_ (sectionExit e.dir r) - max e.curvePoint (sectionEntry e.dir r)).toNat

/-- `Σ(a_s,i × d_i)` over the pieces. -/
def brakingSum (e : Eval) (t : Target) : Nat :=
  (e.entries.map (fun y => y.2.1.aS * pieceLength e t y.2.2)).sum

/-- The curve speed of a target (R93). -/
def curveSpeed (e : Eval) (t : Target) : Nat :=
  if t.at_ ≤ e.curvePoint then t.speed
  else floorSqrt (min (t.speed * t.speed + 2 * brakingSum e t) Config.curveSumMax)

/-- One target is chosen before another: a lower curve speed, then nearer the safe front (R98, log 23). -/
def bindsBefore (e : Eval) (a b : Target) : Bool :=
  curveSpeed e a < curveSpeed e b ||
    (curveSpeed e a == curveSpeed e b && (a.at_ - e.front).natAbs < (b.at_ - e.front).natAbs)

/-- The binding target; of two that tie in curve speed, position and kind the one collected earlier, which is the one of
lower table index or offset (R98, DESIGN CHOICE, log 23). -/
def bindingOf (e : Eval) (ts : List Target) : Option Target :=
  ts.foldl (fun best t => match best with
    | none => some t
    | some b => if bindsBefore e t b then some t else some b) none

/-- The binding-target record of a target (R98). -/
def bindingRecord (e : Eval) (t : Target) : Binding :=
  { kind := t.kind, position := along e.dir t.at_, speed := t.speed, curve := curveSpeed e t,
    span := spanLength e t, ref := t.ref }

/-! ### Limits over the safe extent (R88) -/

/-- The lower of two limits; the one of lower index on a tie. -/
def lowerLimit (best : Option (Nat × Nat × Limiting)) (x : Nat × Nat × Limiting) : Option (Nat × Nat × Limiting) :=
  match best with
  | none => some x
  | some b => if x.1 < b.1 ∨ (x.1 = b.1 ∧ x.2.1 < b.2.1) then some x else some b

/-- The lowest static limit over the safe extent, with its table index (R88). -/
def staticBound (e : Eval) : Option (Nat × Nat × Limiting) :=
  ((e.entries.filter (fun y => sectionOverlaps y.2.2 e.lo e.hi)).map
    (fun y => (y.2.1.limit, y.2.1.index, Limiting.static y.2.2.number))).foldl lowerLimit none

/-- The lowest limit of the SPEED entries over the safe extent; the entry of lowest index on a tie (R88). -/
def restrictionBound (e : Eval) : Option (Nat × Nat × Limiting) :=
  ((e.active.filter (fun x => x.kind == .speed && appliesTo e.dir x.dir && rangeOverlaps x.lo x.hi e.lo e.hi)).map
    (fun x => (conv x.limit, 0, Limiting.restriction x.issuer x.id))).foldl lowerLimit none

/-- The lowest of the three kinds of bound and what set it: STATIC before RESTRICTION before TARGET on a tie (R87, R98).
With no bound at all, which no run reaches, 0 by TARGET (log 24). -/
def permitted (e : Eval) (b : Option Target) : Nat × Limiting :=
  let target := b.map (fun t => (curveSpeed e t, 2, Limiting.target))
  let all := [(staticBound e).map (fun x => (x.1, 0, x.2.2)), (restrictionBound e).map (fun x => (x.1, 1, x.2.2)), target]
  ((all.filterMap id).foldl lowerLimit none).elim (0, .target) (fun x => (x.1, x.2.2))

/-- Stage 4 of R86 in LINE with UP or DOWN selected. -/
def evaluateLine (s : State) : State :=
  let e := evalOf s
  let b := bindingOf e (targets e s.sup.retained)
  let v := permitted e b
  s.setSup { s.sup with
    vPerm := v.1, limiting := v.2, binding := b.map (bindingRecord e),
    retained := (authority e s.sup.retained).2, curve := some (along e.dir e.curvePoint, e.dR) }

/-- Stage 4 of R86 outside LINE with UP or DOWN selected (R87, R98). -/
def evaluateElse (s : State) : State :=
  s.setSup { s.sup with
    vPerm := if s.sup.mode = .depot then conv s.params.vDepot else 0, limiting := .mode, binding := none }

/-- Stage 4 of R86. -/
def evaluate (s : State) : State :=
  if s.sup.mode = .line ∧ s.sup.dir ≠ .neutral then evaluateLine s else evaluateElse s

/-! ### The intervention level (R95) -/

/-- The level for a speed, a permitted speed and the level before. -/
def levelFor (p : Params) (before : Level) (speed vPerm : Nat) : Level :=
  if vPerm + p.dvEb < speed then .emergency
  else if vPerm + p.dvSb < speed ∨ (before = .service ∧ vPerm < speed) then .service
  else if vPerm < speed then .warning
  else if 0 < speed ∧ vPerm - p.dvInd ≤ speed then .indication
  else .normal

/-! ### The seven stages (R86) -/

/-- Stage 1: the rollback accumulator takes the sample's travel, at 0 in STANDBY (R84). -/
def stageRollback (s : State) : State :=
  if s.sup.mode = .standby then s
  else s.setSup { s.sup with rollback := rollbackAfter s.sup.dir s.sup.rollback s.odo.sample.travel }

/-- The rollback accumulator exceeds its limit (R84). -/
def rolledBack (s : State) : Bool := s.params.rollbackLimit * 1000 < s.sup.rollback

/-- The first cause of stages 1 and 2, in the order of R86. -/
def stageCause (s : State) : Option TripCause :=
  if s.odo.sample.state = .fault then some .odometryFault
  else if rolledBack s then some .rollback
  else if overrun s then some .stopOverrun
  else none

/-- Stage 2: the causes of stages 1 and 2 trip the supervisor once. -/
def stageTrip (s : State) : State :=
  match stageCause s with
  | none => s
  | some c => tripIf true c s

/-- Stage 3: standstill clears the retained authority end. -/
def stageStandstill (s : State) : State :=
  if s.odo.sample.standstill then s.setSup { s.sup with retained := none } else s

/-- Stage 5: the level, with INTERVENTION_CHANGED when it differs (R95, R96). -/
def stageLevel (s : State) : State :=
  let l := levelFor s.params s.sup.level s.odo.sample.v.natAbs s.sup.vPerm
  if l = s.sup.level then s else setFlag .interventionChanged (s.setSup { s.sup with level := l })

/-- Stage 6: EMERGENCY trips, and SERVICE with SB_DEFICIT set (R96). -/
def stageIntervene (s : State) : State :=
  tripIf (s.sup.level == .service && s.sup.sbView) .serviceDeficit
    (tripIf (s.sup.level == .emergency) .emergencySpeed s)

/-- Stages 5 to 7. -/
def stageAct (s : State) : State :=
  let s1 := stageIntervene (stageLevel s)
  if s1.sup.level = s.sup.level then s1 else writeSupervisor s1

/-- A position sample taken by the Speed Supervisor (R86). -/
def superviseSample (s : State) : State := stageAct (evaluate (stageStandstill (stageTrip (stageRollback s))))

end Sys2Proof.Machine
end

