-- ==== Sys2Proof/Machine/RackOps.lean ====
section
/-! DEFINITION. The Brake Output Unit's own events (chapter 5): the rack brake's conversions and timers (R110 to R113),
service tracking (R114, R115), the RADIO and HOST entries (R105, R106), and RELEASE_TRIP (R107, R49, R83). -/

namespace Sys2Proof.Machine

/-! ### The rack brake (section 5.4) -/

/-- The rack brake state and its running timer are set, and the permit is judged (R109, R111). -/
def setRack (x : RackState) (timer : Option Nat) (s : State) : State :=
  judgePermit (s.setBrakes { s.brakes with rack := x, rackTimer := timer })

/-- Enters APPLIED; with no emergency present the release starts at once (R110). -/
def enterApplied (s : State) : State :=
  if s.brakes.emergency then setRack .applied none s else setRack .releasing (some s.params.tRel) s

/-- Enters FAULT_NOT_RELEASED (R112). -/
def enterNotReleased (fault : RackFault) (cause : BrakeCause) (s : State) : State :=
  let s1 := s.setBrakes { s.brakes with
    rack := .faultNotReleased, rackTimer := some s.params.tApp, rackFault := some fault }
  addBrakeCause cause (latchDemand .brake s1)

/-- Enters FAULT_NOT_APPLIED (R113). -/
def enterNotApplied (s : State) : State :=
  let s1 := s.setBrakes { s.brakes with
    rack := .faultNotApplied, rackTimer := none, rackFault := some .applyTimeout }
  addBrakeCause .applyTimeout (writeDemand .brake ⟨100, .latched⟩ s1)

/-- What a conversion of a window state does to the rack brake (R110, R112, R113). -/
def rackConversion (w : WinState) (s : State) : State :=
  match s.brakes.rack, w with
  | .releasing, .above => setRack .released none s
  | .released, .below => enterNotReleased .releaseLost .releaseLost s
  | .applying, .below => enterApplied s
  | .faultNotReleased, .below => addBrakeCause .brakeRecovered (enterApplied s)
  | .faultNotApplied, .below =>
    addBrakeCause .brakeRecovered (enterApplied (writeDemand .brake { s.brakes.brake with level := 0 } s))
  | _, _ => s

/-- An AIN0 conversion announced with its valid flag true (R110, R114). -/
def takeAin0 (w : WinState) (s : State) : State := rackConversion w (s.setBrakes { s.brakes with ain0 := w })

/-- `t_rel` expires (R110). -/
def relExpired (s : State) : State :=
  if s.brakes.rack = .releasing then enterNotReleased .releaseTimeout .releaseTimeout s else s

/-- `t_app` expires (R110, R112). -/
def appExpired (s : State) : State :=
  if s.brakes.rack = .applying ∨ s.brakes.rack = .faultNotReleased then enterNotApplied s else s

/-! ### Service tracking (section 5.5) -/

/-- SB_DEFICIT is set or cleared, with its cause, and the Speed Supervisor told (R114, R115). -/
def setDeficit (b : Bool) (s : State) : State :=
  let s1 := s.setBrakes { s.brakes with sbDeficit := b, deficitTimer := none }
  sbNotice b (addBrakeCause (if b then .sbDeficit else .sbRecovered) s1)

/-- A valid AIN1 conversion judged against the floor (R114). -/
def trackPressure (x : Nat) (s : State) : State :=
  if (x : Int) < pressureFloor s then
    if s.brakes.deficitTimer.isNone && !s.brakes.sbDeficit then
      s.setBrakes { s.brakes with deficitTimer := some s.params.tTrack }
    else s
  else if s.brakes.deficitTimer.isSome then s.setBrakes { s.brakes with deficitTimer := none }
  else if s.brakes.sbDeficit then setDeficit false s
  else s

/-- An AIN1 conversion announced with its valid flag true (R114). -/
def takeAin1 (x : Nat) (s : State) : State := trackPressure x (s.setBrakes { s.brakes with ain1 := some x })

/-- The deficit timer expires (R115). -/
def deficitExpired (s : State) : State := if s.brakes.deficitTimer.isSome then setDeficit true s else s

/-! ### Demands of the host and the valley (section 5.2) -/

/-- The level a BRAKE_DEMAND is taken at (R105). -/
def levelTaken (level : Nat) : Nat := min level 100

/-- The HOST entry after a BRAKE_DEMAND (R105). -/
def hostDemand (level : Nat) (emergency : Bool) (old : Demand) : Demand :=
  ⟨levelTaken level, if emergency then .latched else old.emergency⟩

/-- EMERGENCY_STOP on the RADIO entry (R106). -/
def radioStop (s : State) : Result × State :=
  if s.brakes.radio.emergency = .latched then (.unchanged, s) else (.done, latchDemand .radio s)

/-- STOP_RELEASE on the RADIO entry (R106). -/
def radioRelease (s : State) : Result × State :=
  if s.brakes.radio.emergency = .latched then
    (.done, writeDemand .radio { s.brakes.radio with emergency := .none } s)
  else (.notFound, s)

/-! ### RELEASE_TRIP (R107) -/

/-- The Odometry Unit's part of a RELEASE_TRIP: FAULT with `p` inside the line becomes DEGRADED (R49). R49 does not
name the recorded fault cause, which is kept. DEDUCED, log 38. -/
def releaseOdometry (s : State) : State :=
  if s.odo.state = .fault ∧ insideLine (pMm s.odo) s = true then
    judgePart .odoDegraded (addOdoCause .degraded (s.setOdo { s.odo with
      state := .degraded, uUm := s.params.uMax * 1000, carry := 0, accPin := 0, accWhl := 0,
      cal := none }))
  else s

/-- A latch cleared when its condition holds; a held demand is not touched (R107). -/
def clearLatch (cond : Bool) (d : Demand) : Demand :=
  if cond ∧ d.emergency = .latched then { d with emergency := .none } else d

/-- The table after the latches of a RELEASE_TRIP are judged (R107). -/
def clearLatches (s : State) : Brakes :=
  let b := s.brakes
  { b with
    supervisor := clearLatch (s.sup.mode != .tripped) b.supervisor,
    odometry := clearLatch (s.odo.state != .fault) b.odometry,
    doors := clearLatch s.doors.closed b.doors,
    host := clearLatch true b.host,
    brake := clearLatch (b.rack != .faultNotApplied) b.brake }

/-- A RELEASE_TRIP taken at standstill (R107). -/
def releaseTrip (s : State) : State :=
  let s1 := releaseSupervisor (releaseOdometry s)
  combine (s1.setBrakes (clearLatches s1))

end Sys2Proof.Machine
end

