-- ==== Sys2Proof/Machine/OdometryOps.lean ====
section
/-! DEFINITION. Operations of the Odometry Unit (chapter 2): counts, crossings, the uncertainty, the fault, the position
sample, SET_POSITION, marks, wheel calibration, the cross-check. -/

namespace Sys2Proof.Machine

/-- The sign of a count (R29). -/
def sign : Sense → Int | .up => 1 | .down => -1

/-- The state in which the position is known: VALID or DEGRADED. -/
def known (st : OdoState) : Bool := st == .valid || st == .degraded

/-! ### Quadrature decoders (R29) -/

/-- The levels one legal step away from a reference phase. -/
def stepPhase (x : Sense) (ph : Phase) : Phase :=
  match x with
  | .up => ⟨!ph.b, ph.a⟩
  | .down => ⟨ph.b, !ph.a⟩

/-- Levels that both differ from the reference phase. -/
def oppositePhase (ph : Phase) : Phase := ⟨!ph.a, !ph.b⟩

/-- A raw count moved by one, wrapping at its 32-bit limits. -/
def stepRaw (x : Sense) (n : BitVec 32) : BitVec 32 := match x with | .up => n + 1#32 | .down => n - 1#32

/-- The decoder's part of a count: raw count and reference phase. -/
def decodeCount (sensor : Sensor) (x : Sense) (o : Odometry) : Odometry :=
  match sensor with
  | .pinion => { o with pinPhase := stepPhase x o.pinPhase, pinRaw := stepRaw x o.pinRaw }
  | .wheel => { o with whlPhase := stepPhase x o.whlPhase, whlRaw := stepRaw x o.whlRaw }

/-- A phase error: the new levels become the reference phase and the decoder's error count grows. -/
def decodeError (sensor : Sensor) (o : Odometry) : Odometry :=
  match sensor with
  | .pinion => { o with pinPhase := oppositePhase o.pinPhase, pinErr := bump o.pinErr }
  | .wheel => { o with whlPhase := oppositePhase o.whlPhase, whlErr := bump o.whlErr }

/-! ### Fault (R48) -/

/-- The cause a fault adds to the odometry cause set. -/
def faultCause : OdoFault → OdoCause | .mismatch => .mismatch | .offLine => .offLine

/-- FAULT is entered from VALID or DEGRADED; a failure in FAULT changes nothing (R48). -/
def enterOdoFault (f : OdoFault) (s : State) : State :=
  if known s.odo.state then
    judgePart .odoDegraded (latchDemand .odometry (addOdoCause (faultCause f)
      (s.setOdo { s.odo with state := .fault, fault := some f })))
  else s

/-! ### Sections and compares (R30, R35, R36) -/

/-- The active source of a section (R30). -/
def sourceOf (r : Option SectionRec) : Source := if r.any (·.kind == .rack) then .pinion else .wheel

/-- The current section's kind is RACK. -/
def onRack (s : State) : Bool := (currentRecord s).any (·.kind == .rack)

/-- A change of the active source to PINION clears the wheel-throughout flag (R44). -/
def calAfterSource (src : Source) (o : Odometry) : Option CalRef :=
  if src = .pinion ∧ o.source ≠ .pinion then o.cal.map (fun c => { c with throughout := false }) else o.cal

/-- The start and the upper boundary of a section index. -/
def startAt (s : State) (i : Nat) : Option Nat := (recordAt s i).map (·.start)
def upperAt (s : State) (i : Nat) : Option Nat := (recordAt s i).map (fun r => r.start + r.length)

/-- The start of the section below an index, none at the first section. -/
def startBelow (s : State) (i : Nat) : Option Nat := if i = 0 then none else startAt s (i - 1)

/-- The odometry's own part of a change of current section to `c`: active source, wheel-throughout flag, and the
cross-check accumulators on entry to RACK from another kind (R30, R44, R46). -/
def enterSection (c : Nat) (s : State) (o : Odometry) : Odometry :=
  let src := sourceOf (recordAt s c)
  let anew := (recordAt s c).any (·.kind == .rack) && !onRack s
  { o with cur := some c, source := src, cal := calAfterSource src o,
           accPin := if anew then 0 else o.accPin, accWhl := if anew then 0 else o.accWhl }

/-- The blocks a boundary-crossing event reaches, the odometry's own part taken (R37): window, Staging Buffer, radio.
The order is free: DESIGN CHOICE, log 5. -/
def issueCrossing (s : State) : State := radioCrossingCurrent (retestHeld (deriveWindow s))

/-- A crossing of UPPER into the section above (R36). -/
def crossUp (c upper next : Nat) (s : State) : State :=
  let o := enterSection (c + 1) s s.odo
  issueCrossing (s.setOdo { o with
    lower := some upper, upper := some next, nextLower := s.odo.lower, nextUpper := upperAt s (c + 2) })

/-- A crossing of LOWER into the section below (R36). -/
def crossDown (c lower next : Nat) (s : State) : State :=
  let o := enterSection (c - 1) s s.odo
  issueCrossing (s.setOdo { o with
    upper := some lower, lower := some next, nextLower := startBelow s (c - 1), nextUpper := s.odo.upper })

/-- What the compares say of `p_um` (R36). -/
inductive Crossing where
  | none
  | up (c upper next : Nat)
  | down (c lower next : Nat)
  | leaves
  deriving DecidableEq, Repr

/-- The test of the compares. `held` says that a count was held back at a bound of the `p_um` range, upward or downward;
at a line end it counts as crossing it (R31, R38). -/
def testCompares (held : Option Sense) (o : Odometry) : Crossing :=
  match o.cur, o.upper, o.lower with
  | some c, some up, some lo =>
    if up * 1000 ≤ o.pUm ∨ (held = some .up ∧ o.nextUpper = none) then
      match o.nextUpper with
      | some n => .up c up n
      | none => .leaves
    else if o.pUm < lo * 1000 ∨ (held = some .down ∧ o.nextLower = none) then
      match o.nextLower with
      | some n => .down c lo n
      | none => .leaves
    else .none
  | _, _, _ => .none

/-- The compares tested after a change of `p_um`, and what follows (R36, R38). -/
def takeCompares (held : Option Sense) (s : State) : State :=
  match testCompares held s.odo with
  | .none => s
  | .up c up n => crossUp c up n s
  | .down c lo n => crossDown c lo n s
  | .leaves => enterOdoFault .offLine s

/-! ### Counts (R31, R32, R46, R47) -/

/-- Weight and growth of a sensor's counts (R31, R32). -/
def weight (p : Params) : Sensor → Nat | .pinion => p.wPin | .wheel => p.wWhl
def growth (p : Params) : Sensor → Nat | .pinion => p.ePin | .wheel => p.eWhl

/-- The active source is a sensor. -/
def isActive (sensor : Sensor) (o : Odometry) : Bool :=
  match sensor with | .pinion => o.source == .pinion | .wheel => o.source == .wheel

/-- `p_um` moved by a signed amount and held within its range; the sense in which a bound held it back (R31). -/
def movePos (pUm : Nat) (d : Int) : Nat × Option Sense :=
  if (pUm : Int) + d < 0 then (0, some .down)
  else if (Config.pUmMax : Int) < pUm + d then (Config.pUmMax, some .up)
  else ((pUm + d).toNat, none)

/-- `u_um` and the carry after a growth of `we` µm·ppm, held to the bound (R32). Reaching the bound applies it: DESIGN
CHOICE, log 7. -/
def growUncertainty (bound we uUm carry : Nat) : Nat × Nat :=
  if bound ≤ uUm + (carry + we) / 1000000 then (bound, 0)
  else (uUm + (carry + we) / 1000000, (carry + we) % 1000000)

/-- The bound of the uncertainty in µm (R32). -/
def uBound (p : Params) : Nat := p.uMax * 1000

/-- A count taken in VALID that leaves the uncertainty at its bound: DEGRADED (R32). -/
def degradeAtBound (s : State) : State :=
  if s.odo.state = .valid ∧ s.odo.uUm = uBound s.params then
    judgePart .odoDegraded (addOdoCause .degraded (s.setOdo { s.odo with state := .degraded }))
  else s

/-- A count of the active source (R31): sample travel, and outside UNSET position, uncertainty, compares. -/
def activeCount (sensor : Sensor) (x : Sense) (s : State) : State :=
  let d : Int := sign x * weight s.params sensor
  let s1 := s.setOdo { s.odo with travel := s.odo.travel + d }
  if s.odo.state = .unset then s1
  else
    let m := movePos s.odo.pUm d
    let u := growUncertainty (uBound s.params) (weight s.params sensor * growth s.params sensor) s.odo.uUm s.odo.carry
    takeCompares m.2 (degradeAtBound (s1.setOdo { s1.odo with pUm := m.1, uUm := u.1, carry := u.2 }))

/-- A count feeds the cross-check accumulators: in VALID and DEGRADED on RACK (R46). -/
def feedCheck (sensor : Sensor) (x : Sense) (s : State) : State :=
  if known s.odo.state && onRack s then
    let d : Int := sign x * weight s.params sensor
    match sensor with
    | .pinion => s.setOdo { s.odo with accPin := s.odo.accPin + d }
    | .wheel => s.setOdo { s.odo with accWhl := s.odo.accWhl + d }
  else s

/-- A wheel count changes the net wheel count of the calibration reference (R44). -/
def feedCal (sensor : Sensor) (x : Sense) (o : Odometry) : Odometry :=
  match sensor with
  | .pinion => o
  | .wheel => { o with cal := o.cal.map (fun c => { c with net := c.net + sign x }) }

/-- The check fails: the difference exceeds the proportional tolerance plus 200,000 µm (R47). -/
def checkFails (xPpm : Nat) (pin whl : Int) : Bool := pin.natAbs * xPpm / 1000000 + 200000 < (whl - pin).natAbs

/-- The check of a completed span (R47). -/
def crossCheck (s : State) : State :=
  if Config.spanUm ≤ s.odo.accPin.natAbs then
    let fails := checkFails s.params.xPpm s.odo.accPin s.odo.accWhl
    let s1 := s.setOdo { s.odo with lastDiff := (s.odo.accWhl - s.odo.accPin).natAbs, accPin := 0, accWhl := 0 }
    if fails then enterOdoFault .mismatch s1 else s1
  else s

/-- A legal quadrature count (R29 to R32, R46, R47). The movement precedes the check: DESIGN CHOICE, log 6. -/
def takeCount (sensor : Sensor) (x : Sense) (s : State) : State :=
  let feeds := known s.odo.state && onRack s
  let s1 := feedCheck sensor x (s.setOdo (feedCal sensor x (decodeCount sensor x s.odo)))
  let s2 := if isActive sensor s.odo then activeCount sensor x s1 else s1
  if feeds && sensor == .pinion then crossCheck s2 else s2

/-! ### The position sample (R33, R34) -/

/-- Signed speed: travel over the length of the period, truncated toward zero (R33). -/
def sampleSpeed (o : Odometry) : Int := o.travel.tdiv o.period

/-- Motion direction of a travel (R33). -/
def motionOf (travel : Int) : Motion := if 0 < travel then .up else if travel < 0 then .down else .none

/-- Standstill flag and quiet-sample count after a sample of a speed (R34). -/
def judgeStill (p : Params) (speed : Nat) (o : Odometry) : Bool × Nat :=
  if speed < p.vStill then
    let q := min (o.quiet + 1) p.nStill
    (o.standstill || q == p.nStill, q)
  else (false, 0)

/-- The sample issued at an expiry of the sample timer, and the records of the next period (R33). -/
def issueSample (s : State) : State :=
  let o := s.odo
  let v := sampleSpeed o
  let st := judgeStill s.params v.natAbs o
  s.setOdo { o with
    sample := { p := pMm o, u := uMm o, v := v, travel := o.travel, motion := motionOf o.travel, standstill := st.1,
                state := o.state, cur := o.cur },
    standstill := st.1, quiet := st.2, travel := 0, period := s.params.tOdo, sampleTimer := s.params.tOdo }

/-- The takers of a sample: supervisor, Restriction Table, Door Controller. The order is free (R64): DESIGN CHOICE,
log 4. -/
def takeSample (s : State) : State := judgeInterlock (retestReleases (retirePassed (superviseSample (issueSample s))))

/-! ### SET_POSITION (R50) -/

/-- The compares and the preload pair loaded for a section (R35). -/
def loadCompares (c : Nat) (s : State) (o : Odometry) : Odometry :=
  { o with lower := startAt s c, upper := upperAt s c, nextLower := startBelow s c, nextUpper := upperAt s (c + 1) }

/-- The Odometry Unit's records after an accepted SET_POSITION (R50). -/
def positionSet (p u c : Nat) (s : State) : Odometry :=
  loadCompares c s { s.odo with
    pUm := p * 1000, uUm := u * 1000, carry := 0, state := .valid, fault := none, cur := some c,
    source := sourceOf (recordAt s c), accPin := 0, accWhl := 0, cal := none }

/-- SET_POSITION (R50). -/
def setPosition (p u : Nat) (s : State) : Result × State :=
  if !atStandstill s then (.moving, s)
  else if !inYard s then (.mode, s)
  else if !isSealed s then (.noLine, s)
  else if !insideLine p s then (.badPosition, s)
  else if u < s.params.markTol ∨ s.params.uMax < u then (.badValue, s)
  else
    match findSection p s.line.records with
    | none => (.badPosition, s)
    | some c =>
      (.done, judgePart .odoDegraded (radioCrossingCurrent (deriveWindow (s.setOdo (positionSet p u c s)))))

/-! ### Marks (R39 to R42) -/

/-- A candidate mark: position in mm, table index, section number. -/
structure Candidate where
  mark : Nat
  index : Nat
  number : Nat
  deriving DecidableEq, Repr

/-- The marks of the sections the window names (R39, step 2). -/
def candidates (s : State) : List Candidate :=
  s.window.filterMap fun o => o.bind fun e => (recordAt s e.index).bind fun r => r.mark.map fun m =>
    ⟨m, e.index, r.number⟩

/-- The distance of a mark from a captured value, in µm. -/
def markDistance (captured : Nat) (c : Candidate) : Nat := ((c.mark * 1000 : Nat) - (captured : Int)).natAbs

/-- The nearer of two candidates, the one of lower table index on a tie (R39, step 3). -/
def nearerMark (captured : Nat) (best : Option Candidate) (c : Candidate) : Option Candidate :=
  match best with
  | none => some c
  | some b =>
    if markDistance captured c < markDistance captured b ∨
        (markDistance captured c = markDistance captured b ∧ c.index < b.index) then some c else some b

/-- The chosen candidate, when it matches (R39, steps 3 and 4). -/
def matchedMark (s : State) : Option Candidate :=
  match (candidates s).foldl (nearerMark s.odo.pUm) none with
  | none => none
  | some c => if markDistance s.odo.pUm c ≤ (uMm s.odo + s.params.markWindow) * 1000 then some c else none

/-- A report offered to the slot: latched when empty, else discarded (R42). -/
def offerReport (r : MarkReport) (s : State) : State :=
  if s.odo.report.isSome then s else addOdoCause .markReport (s.setOdo { s.odo with report := some r })

/-- The new weight an evaluation adopts, none for an outlier (R45). `d` is the distance in µm, `n` the net count. -/
def calibratedWeight (w : Nat) (d n : Int) : Option Nat :=
  if n = 0 ∨ (0 < d ∧ n < 0) ∨ (d < 0 ∧ 0 < n) then none
  else
    let measured := (2 * d.natAbs + n.natAbs) / (2 * n.natAbs)
    if ((measured : Int) - w).natAbs * 100 ≤ 5 * w then some ((3 * w + measured + 2) / 4) else none

/-- The calibration evaluated at an applied mark, when a reference is present (R45). -/
def evaluateCal (mark : Nat) (s : State) : State :=
  match s.odo.cal with
  | none => s
  | some c =>
    if c.throughout ∧ 100000 ≤ ((mark : Int) - c.pos).natAbs then
      match calibratedWeight s.params.wWhl (((mark : Int) - c.pos) * 1000) c.net with
      | some w => addOdoCause .wheelCalAdopted (s.setParams { s.params with wWhl := w })
      | none => addOdoCause .wheelCalOutlier s
    else s

/-- The calibration reference handled at an applied mark (R44). -/
def handleCal (mark : Nat) (s : State) : State :=
  let s1 := evaluateCal mark s
  s1.setOdo { s1.odo with cal := some ⟨mark, 0, s1.odo.source == .wheel⟩ }

/-- Steps 1 to 3 of R40: position, uncertainty, and DEGRADED back to VALID. -/
def correctPosition (mark : Nat) (s : State) : State :=
  let s1 := s.setOdo { s.odo with pUm := mark * 1000, uUm := s.params.markTol * 1000, carry := 0 }
  if s.odo.state = .degraded then
    judgePart .odoDegraded (addOdoCause .markRestored (s1.setOdo { s1.odo with state := .valid }))
  else s1

/-- A matched mark applied in VALID or DEGRADED (R40, steps 1 to 5 but for the report). -/
def applyMark (mark : Nat) (s : State) : State := handleCal mark (takeCompares none (correctPosition mark s))

/-- A mark detection (R39 to R42). -/
def detectMark (s : State) : State :=
  if s.odo.state = .unset then s
  else
    let s1 := s.setOdo { s.odo with capture := s.odo.pUm }
    match matchedMark s1 with
    | none =>
      offerReport ⟨none, s.odo.pUm / 1000, 0, false, s.restr.clock⟩ (addOdoCause .markUnmatched s1)
    | some c =>
      let r : MarkReport :=
        ⟨some c.number, s.odo.pUm / 1000, ((c.mark * 1000 : Nat) : Int) - s.odo.pUm, known s.odo.state, s.restr.clock⟩
      offerReport r (if known s.odo.state then applyMark c.mark s1 else s1)

end Sys2Proof.Machine
end

