-- ==== Sys2Proof/Machine/TelegramOps.lean ====
section
/-! DEFINITION. Operations of the Telegram Handler (chapter 8): which telegrams are handed on and accepted (R145, R164 to
R168), uplink telegrams (R173 to R175), and the slot start that sends and tests them (R144, R147, R160). -/

namespace Sys2Proof.Machine

/-! ### Receiving (R145, R164 to R168) -/

/-- A completed telegram is handed on (R145): in SEARCH whatever its slot, in LOCKED and HOLDOVER when it started in
slot 0 or in a slot routed RECEIVE. It is judged by the slot it came in, also where that slot has ended by the time it is
taken (R178); the sync state is the one it is taken in: DEDUCED, log 14. -/
def handedOn (came : Came) (s : State) : Bool :=
  match s.radio.sync with
  | .init => false
  | .search => true
  | .locked => came.slot == 0 || came.receive
  | .holdover => came.slot == 0 || came.receive

/-- A filter passes a destination (R166). -/
def filterPasses (dest : DestKind) (addr : Nat) (f : Filter) : Bool :=
  f.enabled && f.kind == dest && (addr &&& f.mask) == (f.value &&& f.mask)

/-- At least one filter passes it (R166). -/
def addressed (dest : DestKind) (addr : Nat) (s : State) : Bool := s.tele.filters.any (filterPasses dest addr)

/-- The counts changed. -/
def setCounts (f : Counts → Counts) (s : State) : State := s.setTele { s.tele with counts := f s.tele.counts }

def countReceived (c : Counts) : Counts := { c with received := bump c.received }
def countCheck (c : Counts) : Counts := { c with checkErrors := bump c.checkErrors }
def countHeader (c : Counts) : Counts := { c with headerErrors := bump c.headerErrors }
def countForeign (c : Counts) : Counts := { c with foreign := bump c.foreign }
def countSearch (c : Counts) : Counts := { c with searchDiscards := bump c.searchDiscards }
def countBeacon (c : Counts) : Counts := { c with beacons := bump c.beacons }
def countAccepted (c : Counts) : Counts := { c with accepted := bump c.accepted }
def countAckSent (c : Counts) : Counts := { c with acksSent := bump c.acksSent }
def countReportSent (c : Counts) : Counts := { c with reportsSent := bump c.reportsSent }

/-- A telegram of an accepted kind: the link heard, the last station, then the receiving block (R168). -/
def acceptTelegram (h : TgHeader) (body : State → State) (s : State) : State :=
  let s1 := linkHeard (setCounts countAccepted s)
  body (s1.setTele { s1.tele with lastStation := h.station })

/-- A downlink telegram other than a BEACON with a good check and header: steps 5 to 7 of R164. -/
def receive (h : TgHeader) (body : State → State) (s : State) : State :=
  if handedOn h.came s then
    let s1 := setCounts countReceived s
    if s.radio.sync = .search then setCounts countSearch s1
    else if addressed h.dest h.address s then acceptTelegram h body s1
    else setCounts countForeign s1
  else s

/-- A BEACON with a good check and header: step 4 of R164. -/
def receiveBeacon (frame cell : Nat) (source : BeaconOrigin) (s : State) : State :=
  if handedOn source.came s then takeBeacon frame cell source (setCounts countBeacon (setCounts countReceived s))
  else s

/-- A telegram discarded at a step; a discard that the state does not allow counts nothing (R145, R164, log 15). -/
def discardTelegram (d : Discard) (s : State) : State :=
  match d.step with
  | .notHandedOn => s
  | .check => if handedOn d.came s then setCounts countCheck (setCounts countReceived s) else s
  | .header => if handedOn d.came s then setCounts countHeader (setCounts countReceived s) else s
  | .direction => if handedOn d.came s then setCounts countForeign (setCounts countReceived s) else s
  | .sync =>
    if handedOn d.came s && s.radio.sync == .search then setCounts countSearch (setCounts countReceived s) else s
  | .address dest addr =>
    if handedOn d.came s && s.radio.sync != .search && !addressed dest addr s then
      setCounts countForeign (setCounts countReceived s)
    else s

/-- A receiving block's result acknowledged (R169). -/
def ackResult (k : AckKind) (reference : Nat) (h : TgHeader) (x : Result × State) : State :=
  queueAck k reference x.1 h.station x.2

/-- A SECTION_BLOCK is acknowledged only when refused (R169). -/
def ackBlock (reference : Nat) (h : TgHeader) (x : Result × State) : State :=
  if x.1 = .accepted then x.2 else ackResult .sectionBlock reference h x

/-- A SECTION_COMMIT answered HELD keeps its station in place of an ACK (R170). -/
def ackCommit (reference : Nat) (h : TgHeader) (x : Result × State) : State :=
  if x.1 = .held then x.2.setTele { x.2.tele with heldStation := some h.station }
  else ackResult .sectionCommit reference h x

/-- The grant a SLOT_GRANT carries is in range (R159). -/
def grantGood (g : Grant) : Bool :=
  1 ≤ g.slot && g.slot ≤ 7 && (g.period == 1 || g.period == 5 || g.period == 25) && g.phase < g.period

/-- A SLOT_GRANT taken by the Radio Frame Controller (R159). -/
def takeGrant (g : Grant) (s : State) : Result × State :=
  if !grantGood g then (.badValue, s)
  else if s.radio.grant = some g then (.unchanged, s)
  else
    let r := clearGrant s.radio
    (.done, s.setRadio { r with grant := some g, routes := r.routes.set g.slot .transmit })

/-! ### Composing (R174, R175, R202) -/

/-- An uplink telegram: header, padded payload, CRC (R174). -/
def composeTelegram (carAddress kind station : Nat) (payload : List Byte) : List Byte :=
  withCrc (u8 (destCode .car * 64 + carAddress / 65536 % 16) ++ u16 carAddress ++ u8 kind ++ u8 station
    ++ u8 payload.length ++ padTo 40 payload)

/-- Kind codes of the two uplink kinds and the length of a REPORT (R202). -/
def ackTelegram : Nat := 0x20
def reportTelegram : Nat := 0x21
def reportLength : Nat := 27

/-- Entries of an issuer in a state (R74). -/
def countEntries (issuer : Issuer) (active : Bool) (r : Restrictions) : Nat :=
  r.table.countP (fun o => o.any (fun e => e.issuer == issuer && e.active == active))

/-- The open staged update id, 0 in IDLE (R26). -/
def openId (s : State) : Nat := (openStaged s).elim 0 (·.id)

/-- The REPORT payload, from the values as they stand (R175). Position, uncertainty and state are the last sample's,
also where a line load has since made the odometry UNSET: DESIGN CHOICE, log 42. -/
def reportPayload (s : State) : List Byte :=
  u32 s.params.carAddress ++ u32 s.odo.sample.p ++ u32 s.odo.sample.u ++ speed16 s.odo.sample.v
    ++ u8 (dirCode s.sup.dir) ++ u8 (modeCode s.sup.mode) ++ u8 (levelCode s.sup.level)
    ++ u8 (odoStateCode s.odo.sample.state) ++ flag8 s.doors.closed ++ u8 (rackCode s.brakes.rack)
    ++ u16 (if isSealed s then s.line.check.toNat else 0) ++ u16 (openId s)
    ++ u8 (countEntries .valley true s.restr) ++ u8 (countEntries .car true s.restr)
    ++ u8 (countEntries .part true s.restr)

/-- A REPORT telegram (R174, R175). -/
def composeReport (s : State) : List Byte :=
  composeTelegram s.params.carAddress reportTelegram s.tele.lastStation (reportPayload s)

/-- An ACK telegram (R174, R202). -/
def composeAck (kind : AckKind) (reference : Nat) (res : Result) (station : Nat) (s : State) : List Byte :=
  composeTelegram s.params.carAddress ackTelegram station
    (u8 (ackKindCode kind) ++ u16 reference ++ u8 (resultCode res))

/-- The telegram given at a transmit opportunity: the head of the queue, or a REPORT from an empty queue (R173). -/
def takeUplink (s : State) : List Byte × State :=
  match s.tele.queue with
  | [] => (composeReport s, setCounts countReportSent s)
  | .report :: rest => (composeReport s, setCounts countReportSent (s.setTele { s.tele with queue := rest }))
  | .ack k n res st :: rest =>
    (composeAck k n res st s, setCounts countAckSent (s.setTele { s.tele with queue := rest }))

/-! ### The slot start -/

/-- A transmit opportunity: RTXEN active and the 48 bytes presented (R160). -/
def transmit (s : State) : State :=
  let x := takeUplink s
  x.2.setRadio { x.2.radio with rtxen := true, rtxd := x.1 }

/-- The receive checks on a looped REPORT (R147, R175). -/
def loopPasses (carAddress : Nat) (bs : List Byte) : Bool :=
  crcGood 46 bs && byteAt bs 0 / 64 == destCode .car && (byteAt bs 0 % 16) * 65536 + wordAt bs 1 == carAddress
    && byteAt bs 3 == reportTelegram && byteAt bs 5 == reportLength

/-- A self-test slot (R147). -/
def loopTest (s : State) : State :=
  if loopPasses s.params.carAddress (composeReport s) then
    addRadioCause .loopOk (s.setRadio { s.radio with loopPass := bump s.radio.loopPass })
  else addRadioCause .loopFail (s.setRadio { s.radio with loopFail := bump s.radio.loopFail })

/-- What the slot that starts does: transmit, test, or nothing (R147, R160). -/
def actInSlot (s : State) : State :=
  if transmitOpportunity s.radio then transmit s
  else if s.radio.slotRoute = .loop ∧ inStandby s = true then loopTest s
  else s

/-- A telegram not complete at its slot's end: its collection goes on in SEARCH and is discarded in LOCKED and HOLDOVER
(R145). -/
def endReception (s : State) : State :=
  if s.radio.sync = .search then s else s.setRadio { s.radio with collection := none }

/-- The slot timer expires; the slot clock is stopped in INIT (R144, R145, R155). The slot that ends is judged in the
sync state it ends in, before its own miss is counted. -/
def startSlot (s : State) : State :=
  if s.radio.sync = .init then s
  else
    let s1 := endOfSlot0 (endReception s)
    actInSlot (s1.setRadio (advanceSlot s1.params s1.radio))

end Sys2Proof.Machine
end

