-- ==== Sys2Proof/Machine/AnalogOps.lean ====
section
/-! DEFINITION. Operations of the Analog Sweep Unit (chapter 9): sequences, calibration, windows, a completed conversion
and its announcement. -/

namespace Sys2Proof.Machine

/-- The channels of a sequence in order (R181). -/
def seqChannels : SweepSeq → List Nat
  | .repeated => [0, 1, 2, 3, 4, 5, 6, 7]
  | .emphasis0 => [0, 1, 0, 2, 0, 3, 0, 4, 0, 5, 0, 6, 0, 7]
  | .emphasis1 => [1, 0, 1, 2, 1, 3, 1, 4, 1, 5, 1, 6, 1, 7]
  | .single => [0, 1, 2, 3, 4, 5, 6, 7]

/-- The sequence of the mode held (R181). -/
def heldSeq (a : Analog) : SweepSeq :=
  match a.mode with
  | .repeated => .repeated
  | .emphasis => if a.emphasis = 1 then .emphasis1 else .emphasis0

/-- The channel of the conversion in progress. -/
def inProgress (a : Analog) : Nat := (seqChannels a.seq).getD a.pos 0

/-- The place after the conversion in progress (R181, R182): a new sequence, the next position, or the end of a pass. -/
def advanceSweep (a : Analog) : Analog :=
  if a.restart then { a with seq := if a.single then .single else heldSeq a, pos := 0, restart := false }
  else if a.pos + 1 < (seqChannels a.seq).length then { a with pos := a.pos + 1 }
  else if a.seq = .single then
    { a with seq := heldSeq a, pos := 0, single := false, passes := (a.passes + 1) % 65536 }
  else { a with pos := 0 }

/-- The channel record at a number. -/
def channelAt (a : Analog) (i : Nat) : Channel := a.channels.getD i .reset

/-- The calibrated value of a raw reading (R183): quotient toward zero, clamped to 0..65,535. -/
def calibrate (c : Channel) (raw : Nat) : Nat :=
  let q := (((raw : Int) - c.rawLo) * ((c.engHi : Int) - c.engLo)).tdiv ((c.rawHi : Int) - c.rawLo) + c.engLo
  if q < 0 then 0 else if 65535 < q then 65535 else q.toNat

/-- The window state of a calibrated value (R185). -/
def classify (c : Channel) (x : Nat) : WinState := if x < c.low then .below else if c.high < x then .above else .inside

/-- A conversion is valid unless the rail check is set and it reads a limit (R180). -/
def conversionValid (c : Channel) (raw : Nat) : Bool := !(c.railCheck && (raw == 0 || raw == 1023))

/-- The results entry of a completed conversion (R179, R186). -/
def convert (raw : Nat) (c : Channel) : Channel :=
  let ok := conversionValid c raw
  { c with raw := raw, calibrated := calibrate c raw, valid := ok, window := classify c (calibrate c raw),
           conversions := (c.conversions + 1) % 65536, invalid := if ok then c.invalid else bump c.invalid }

/-- The leaf whose motor current a channel carries. -/
def leafOfChannel : Nat → Option LeafId
  | 2 => some .l1 | 3 => some .l2 | 4 => some .l3 | 5 => some .r4 | 6 => some .r5 | 7 => some .r6 | _ => none

/-- A valid conversion taken by the channel's owner; an invalid one is disregarded (R110, R114, R129, R186). -/
def announce (i : Nat) (c : Channel) (s : State) : State :=
  if c.valid then
    match i with
    | 0 => takeAin0 c.window s
    | 1 => takeAin1 c.calibrated s
    | _ =>
      match leafOfChannel i with
      | some leaf => moveLeaf leaf (fun e => leafConversion e c.window) s
      | none => s
  else s

/-- A completed conversion of the channel in progress (R186). -/
def completeConversion (raw : Nat) (s : State) : State :=
  let i := inProgress s.analog
  let c := convert raw (channelAt s.analog i)
  announce i c (s.setAnalog { advanceSweep s.analog with channels := s.analog.channels.set i c })

/-- The results entry cleared, settings kept (R179, R188). -/
def clearResults (c : Channel) : Channel :=
  { c with raw := 0, calibrated := 0, valid := false, window := .none, conversions := 0, invalid := 0 }

/-- The sweep after a soft reset (R188). -/
def sweepReset (a : Analog) : Analog :=
  { a with single := false, passes := 0, seq := heldSeq a, pos := 0, restart := false,
           channels := a.channels.map clearResults }

/-- The sweep mode a SET_SWEEP asks for: a mode to hold, or a single pass (R182, check 2). -/
inductive SweepAsk where
  | hold (mode : SweepMode) (emphasis : Option Nat)
  | pass
  deriving DecidableEq, Repr

def sweepAsk (mode emphasis : Nat) : Option SweepAsk :=
  match mode with
  | 0 => some (.hold .repeated none)
  | 1 => if emphasis ≤ 1 then some (.hold .emphasis (some emphasis)) else none
  | 2 => some .pass
  | _ => none

/-- The sweep with a mode held; the mode and channel already held leave it as it is (R182). -/
def holdSweep (m : SweepMode) (emphasis : Option Nat) (a : Analog) : Analog :=
  if a.mode = m ∧ emphasis.getD a.emphasis = a.emphasis then a
  else { a with mode := m, emphasis := emphasis.getD a.emphasis, restart := true }

/-- SET_SWEEP (R182). -/
def setSweep (mode emphasis : Nat) (s : State) : Result × State :=
  if !inStandby s then (.mode, s)
  else
    match sweepAsk mode emphasis with
    | none => (.badValue, s)
    | some ask =>
      if s.analog.single then (.busy, s)
      else
        match ask with
        | .hold m e => (.done, s.setAnalog (holdSweep m e s.analog))
        | .pass => (.started, s.setAnalog { s.analog with single := true, restart := true })

/-- A channel record with a new calibration (R184). -/
def recalibrate (w : CalWire) (c : Channel) : Channel :=
  { c with rawLo := w.rawLo, engLo := w.engLo, rawHi := w.rawHi, engHi := w.engHi, railCheck := w.railCheck }

/-- SET_CALIBRATION (R184). -/
def setCalibration (w : CalWire) (s : State) : Result × State :=
  if !inStandby s then (.mode, s)
  else if 7 < w.channel ∨ 1023 < w.rawLo ∨ 1023 < w.rawHi ∨ 65535 < w.engLo ∨ 65535 < w.engHi ∨ w.rawHi ≤ w.rawLo then
    (.badValue, s)
  else
    (.done, s.setAnalog { s.analog with
      channels := s.analog.channels.set w.channel (recalibrate w (channelAt s.analog w.channel)) })

/-- SET_WINDOW (R185). -/
def setWindow (channel low high : Nat) (s : State) : Result × State :=
  if !inStandby s then (.mode, s)
  else if 7 < channel ∨ 65535 < low ∨ 65535 < high ∨ high < low then (.badValue, s)
  else
    (.done, s.setAnalog { s.analog with
      channels := s.analog.channels.set channel { channelAt s.analog channel with low := low, high := high } })

end Sys2Proof.Machine
end

