-- ==== Sys2Proof/Machine/ResetOps.lean ====
section
/-! DEFINITION. Power-on reset, soft reset, radio reset and the start of a line load: what each block's records become. -/

namespace Sys2Proof.Machine

/-! ### Power-on reset (R199) -/

/-- Each leaf as reset derives it from its switches, the levels kept (R120). -/
def leavesReset (ls : Leaves) : Leaves := mapLeaves leafReset ls

/-- The Door Controller after either reset (R120, R136, R140, R142). -/
def doorsReset (d : Doors) : Doors :=
  { leaves := leavesReset d.leaves, left := .reset, right := .reset, closed := carClosed (leavesReset d.leaves),
    causes := 0#16 }

/-- Every block takes its power-on values; the input pins keep their levels (R29, R120, R199). -/
def powerOn (s : State) : State :=
  { State.reset with
    pending := s.pending,
    odo := { Odometry.reset with pinPhase := s.odo.pinPhase, whlPhase := s.odo.whlPhase },
    doors := doorsReset s.doors }

/-! ### Soft reset (R198) -/

/-- The Odometry Unit at soft reset (R27). The last sample keeps its position, state and section, and the capture record
is kept: DESIGN CHOICE, log 11. -/
def odoSoftReset (p : Params) (o : Odometry) : Odometry :=
  { o with
    travel := 0, sample := { o.sample with v := 0, travel := 0, motion := .none, standstill := true },
    standstill := true, quiet := p.nStill, pinRaw := 0#32, whlRaw := 0#32, pinErr := 0, whlErr := 0, report := none,
    accPin := 0, accWhl := 0, lastDiff := 0, cal := none, causes := 0#16, period := p.tOdo, sampleTimer := p.tOdo }

/-- The Brake Output Unit at soft reset (R102, R109, R114, R119, R140). -/
def brakesSoftReset (p : Params) (closed : Bool) : Brakes :=
  { Brakes.reset with doors := ⟨if closed then 0 else p.sHold, .none⟩, rackTimer := some p.tApp }

/-- The Telegram Handler at soft reset (R163). -/
def teleSoftReset (t : Telegrams) : Telegrams :=
  { t with queue := [], lastStation := 0, heldStation := none, counts := .reset }

/-- The link at soft reset but for the response (R189, R198): RESET_DONE alone, and the receive buffer empty. -/
def linkSoftReset (l : Link) : Link :=
  { l with
    rx := [], rxBits := [], rxCount := 0, shifted := 0,
    store := none, flags := flagBit .resetDone, secCursor := 0, resCursor := 0 }

/-- The blocks a soft reset changes without reading another block. -/
def softResetBlocks (s : State) : State :=
  { s with
    link := linkSoftReset s.link, staging := .idle, odo := odoSoftReset s.params s.odo, sup := .reset,
    brakes := brakesSoftReset s.params (doorsReset s.doors).closed, doors := doorsReset s.doors,
    radio := radioInit true s.radio, tele := teleSoftReset s.tele, analog := sweepReset s.analog }

/-- The Restriction Table at soft reset, the link LOST and the odometry kept (R53, R58, R66, R68). -/
def restrSoftReset (s : State) : Restrictions := { s.restr with table := resetTable s, log := [], overflow := 0 }

/-- The soft reset of every block, and the answer to RESET as the pending response (R198). -/
def softReset (s : State) : State :=
  let s1 := softResetBlocks s
  respond (reqCode .reset) .done [] (deriveWindowQuietly (s1.setRestr (restrSoftReset s1)))

/-! ### Radio reset (R150) -/

/-- RADIO_RESET: the radio column of R148, the init sequence, and the Restriction Table told of a link that was OK. -/
def radioReset (s : State) : State := judgePart .radioLoss (s.setRadio (radioInit false s.radio))

/-! ### LINE_LOAD_BEGIN (R5) -/

/-- The Odometry Unit at an accepted LINE_LOAD_BEGIN (R27). The last sample and the capture record are kept: DESIGN
CHOICE, logs 11 and 42. -/
def odoLineLoad (o : Odometry) : Odometry :=
  { o with
    state := .unset, fault := none, pUm := 0, uUm := 0, carry := 0, cur := none, lower := none, upper := none,
    nextLower := none, nextUpper := none, source := .wheel, accPin := 0, accWhl := 0, cal := none }

/-- An accepted LINE_LOAD_BEGIN (R5). -/
def beginLineLoad (s : State) : State :=
  let s1 := s.setLine { s.line with state := .loading, records := [], check := 0#16 }
  let s2 := dropStaging (clearTable s1)
  let s3 := (s2.setOdo (odoLineLoad s2.odo)).setWindow (List.replicate 32 none)
  s3.setLink { s3.link with secCursor := 0 }

end Sys2Proof.Machine
end

