-- ==== Sys2Proof/Machine/Clock.lean ====
section
/-! DEFINITION. The block's time while no command waits: one millisecond passes, or a timer that has run out puts its
expiry command in the queue (log 1, log 3). The table has no row for a tick. -/

namespace Sys2Proof.Machine

/-- A running timer has no time left. -/
def due (t : Option Nat) : Bool := t == some 0

/-- The expiry command of a leaf's motion timer, running as `t`. -/
def leafCommand (id : LeafId) (t : LeafTime) : Instr :=
  match t with
  | .tLock => .tLockExpiry id
  | .tOpen => .tOpenExpiry id
  | .tClose => .tCloseExpiry id
  | .tReopen => .tReopenExpiry id
  | .tPause => .tPauseExpiry id

/-- A leaf's expiry, if its motion timer has run out. -/
def leafDue (id : LeafId) (l : Leaf) : Option Instr :=
  l.timer.bind fun x => if x.2 = 0 then some (leafCommand id x.1) else none

/-- The hold timer. -/
def holdTimer (s : State) : Option Nat := match s.staging with | .held _ t => some t | _ => none

/-- The expiries due, in the order the model takes them. DESIGN CHOICE, log 3. -/
def dueCommands (s : State) : List Instr :=
  [if due (some s.odo.sampleTimer) then some .positionSample else none,
   if due (some s.restr.second) then some .lineClockAdvance else none,
   if due (holdTimer s) then some .holdTimerExpiry else none,
   if due s.brakes.rackTimer then some (if s.brakes.rack = .releasing then .tRelExpiry else .tAppExpiry) else none,
   if due s.brakes.deficitTimer then some .deficitTimerExpiry else none,
   leafDue .l1 s.doors.leaves.l1, leafDue .l2 s.doors.leaves.l2, leafDue .l3 s.doors.leaves.l3,
   leafDue .r4 s.doors.leaves.r4, leafDue .r5 s.doors.leaves.r5, leafDue .r6 s.doors.leaves.r6,
   if due s.radio.initTimer then some .initSequenceEnd else none,
   if due s.radio.slotTimer then some .slotStart else none,
   if due s.radio.holdover then some .holdoverTimerExpiry else none,
   if due s.radio.loss then some .radioLossTimerExpiry else none].filterMap id

/-- A timer one millisecond later. -/
def lapse (t : Option Nat) : Option Nat := t.map (· - 1)

/-- A leaf one millisecond later. -/
def lapseLeaf (l : Leaf) : Leaf := { l with timer := l.timer.map (fun x => (x.1, x.2 - 1)) }

/-- The Staging Buffer one millisecond later. -/
def lapseStaging : Staging → Staging
  | .idle => .idle
  | .filling u => .filling u
  | .held u t => .held u (t - 1)

/-- Every running timer one millisecond later. -/
def passMillisecond (s : State) : State :=
  { s with
    staging := lapseStaging s.staging,
    odo := { s.odo with sampleTimer := s.odo.sampleTimer - 1 },
    restr := { s.restr with second := s.restr.second - 1 },
    brakes := { s.brakes with rackTimer := lapse s.brakes.rackTimer, deficitTimer := lapse s.brakes.deficitTimer },
    doors := { s.doors with leaves := mapLeaves lapseLeaf s.doors.leaves },
    radio := { s.radio with initTimer := lapse s.radio.initTimer, slotTimer := lapse s.radio.slotTimer,
                            holdover := lapse s.radio.holdover, loss := lapse s.radio.loss } }

/-- What the block does when no command waits. -/
def idle (s : State) : State :=
  match dueCommands s with
  | [] => passMillisecond s
  | c :: _ => s.setPending [c]

end Sys2Proof.Machine
end

