-- ==== Sys2Proof/Machine/LinkCommands.lean ====
section
/-! DEFINITION. Resets, frames the link answers itself, and the Host Request Link's requests (chapter 10). -/

namespace Sys2Proof.Machine

/-- POWER_ON_RESET (R199). -/
def execPowerOnReset (s : State) : Host.Outcome State Fault Refusal := .next (powerOn s)

/-- HOST_FRAME_REFUSED: the answer of the test that failed; the answer store is left as it is (R190). -/
def execHostFrameRefused (why : FrameFault) (s : State) : Host.Outcome State Fault Refusal :=
  .next (match why with
    | .length => respond 0 .frameLength [] s
    | .check => respond 0 .frameCheck [] s
    | .unknown c => respond c .unknownRequest [] s)

/-- NOP: DONE with no data; the answer store is left as it is (R192). -/
def execNop (s : State) : Host.Outcome State Fault Refusal := .next (respond (reqCode .nop) .done [] s)

/-- READ_PAGE (R192). -/
def execReadPage (page : Nat) (s : State) : Host.Outcome State Fault Refusal :=
  .next (match s.link.store with
    | none => respond (reqCode .readPage) .none [] s
    | some a =>
      if page < pageCount a then respond a.code a.result (pageData a page) s
      else respond (reqCode .readPage) .badValue [] s)

/-- IDENT (R196, section 11.5). -/
def execIdent (s : State) : Host.Outcome State Fault Refusal :=
  .next (answer .ident .accepted (u16 Config.vendor ++ u16 Config.partCode ++ u16 Config.revision) s)

/-- READ_EVENTS (R194). -/
def execReadEvents (s : State) : Host.Outcome State Fault Refusal :=
  .next (answer .readEvents .done (u16 s.link.flags.toNat ++ u16 s.link.mask.toNat) s)

/-- The ten low bits of a carried flag set; bits beyond are disregarded (R194). -/
def flagSet (set : BitVec 16) : BitVec 10 := set.extractLsb' 0 10

/-- CLEAR_EVENTS (R194). -/
def execClearEvents (set : BitVec 16) (s : State) : Host.Outcome State Fault Refusal :=
  let flags := s.link.flags &&& ~~~flagSet set
  .next (answer .clearEvents .done (u16 flags.toNat) (s.setLink { s.link with flags := flags }))

/-- SET_EVENT_MASK (R194). -/
def execSetEventMask (set : BitVec 16) (s : State) : Host.Outcome State Fault Refusal :=
  .next (answer .setEventMask .done (u16 (flagSet set).toNat) (s.setLink { s.link with mask := flagSet set }))

/-- READ_PARAMETER: value, lowest, highest, default; NOT_FOUND for a number that names none (R196). -/
def execReadParameter (number : Nat) (s : State) : Host.Outcome State Fault Refusal :=
  .next (match paramRow number with
    | none => answer .readParameter .notFound (noRecord 16) s
    | some r =>
      answer .readParameter .accepted
        (u32 (paramGet number s.params) ++ u32 r.low ++ u32 r.high ++ u32 r.default) s)

/-- What the owner of a parameter does at once with its new value: a quiet-sample count above a lowered `n_still` taken
as `n_still` (R34), `u_max` lowered below the uncertainty (R28), a new capability (R14), a new limit of a part-issued
entry (R65). Every other parameter is read when next used. -/
def paramTold (number : Nat) (s : State) : State :=
  match number with
  | 3 => s.setOdo { s.odo with quiet := min s.odo.quiet s.params.nStill }
  | 9 => if uBound s.params < s.odo.uUm then s.setOdo { s.odo with uUm := uBound s.params, carry := 0 } else s
  | 13 => deriveWindow s
  | 14 => deriveWindow s
  | 17 => relimitPart .radioLoss s
  | 18 => relimitPart .odoDegraded s
  | _ => s

/-- SET_PARAMETER (R197). A value equal to the one in force is not a change. -/
def setParameter (number value : Nat) (s : State) : Result × State :=
  match paramRow number with
  | none => (.notFound, s)
  | some r =>
    if !inStandby s then (.mode, s)
    else if value < r.low ∨ r.high < value ∨ paramConditions number (paramPut number value s.params) = false then
      (.badValue, s)
    else if paramGet number s.params = value then (.done, s)
    else (.done, paramTold number (s.setParams (paramPut number value s.params)))

/-- SET_PARAMETER. -/
def execSetParameter (number value : Nat) (s : State) : Host.Outcome State Fault Refusal :=
  .next (answerResult .setParameter (setParameter number value s))

/-- RESET: refused with MOVING unless standstill is true, else the soft reset (R198). -/
def execReset (s : State) : Host.Outcome State Fault Refusal :=
  .next (if atStandstill s then softReset s else answer .reset .moving [] s)

end Sys2Proof.Machine
end

