-- ==== Sys2Proof/Machine/LineCommands.lean ====
section
/-! DEFINITION. The requests of The Line Description (chapter 1). -/

namespace Sys2Proof.Machine

/-- LINE_LOAD_BEGIN (R5). -/
def execLineLoadBegin (s : State) : Host.Outcome State Fault Refusal :=
  .next (if inStandby s then answer .lineLoadBegin .done [] (beginLineLoad s) else answer .lineLoadBegin .mode [] s)

/-- A record continues the line: it starts where the last record ends (R6, check 4). -/
def contiguous (w : SectionWire) (rs : List SectionRec) : Bool :=
  rs.getLast?.all (fun l => w.start == l.start + l.length)

/-- The record in order at the end of a line (R6, check 5). -/
def orderedRecord (w : SectionWire) (rs : List SectionRec) : Option SectionRec :=
  (sectionOfWire w).filter fun r => r.start + r.length ≤ 67108864 && rs.getLast?.all (fun l => l.number < r.number)

/-- APPEND_SECTION (R6). -/
def appendSection (w : SectionWire) (s : State) : Result × State :=
  let rs := s.line.records
  if s.line.state ≠ .loading then (.badState, s)
  else if !inStandby s then (.mode, s)
  else if Config.recordMax ≤ rs.length then (.tableFull, s)
  else if !contiguous w rs then (.notContiguous, s)
  else
    match orderedRecord w rs with
    | none => (.badValue, s)
    | some r => (.accepted, s.setLine { s.line with records := rs ++ [r] })

/-- APPEND_SECTION. -/
def execAppendSection (r : SectionWire) (s : State) : Host.Outcome State Fault Refusal :=
  .next (answerResult .appendSection (appendSection r s))

/-- LINE_LOAD_END (R7): the line check, SEALED, and the part-issued entries whose cause holds. Where both refusals
apply, BAD_STATE is answered before MODE: DESIGN CHOICE, log 41. -/
def sealLine (s : State) : Result × State :=
  if s.line.state ≠ .loading ∨ s.line.records = [] then (.badState, s)
  else if !inStandby s then (.mode, s)
  else
    (.done, judgePart .odoDegraded (judgePart .radioLoss
      (s.setLine { s.line with state := .sealed, check := lineCheckOf s.line.records })))

/-- LINE_LOAD_END. -/
def execLineLoadEnd (s : State) : Host.Outcome State Fault Refusal := .next (answerResult .lineLoadEnd (sealLine s))

/-- The line update record in an answer (R200). -/
def updateBytes : Option LineUpdate → List Byte
  | none => u8 0 ++ u16 0
  | some (.noMargin n) => u8 1 ++ u16 n
  | some (.commitDone id) => u8 2 ++ u16 id
  | some (.commitTimeout id) => u8 3 ++ u16 id

/-- READ_LINE (R8). Its result code is ACCEPTED: DESIGN CHOICE, log 44. -/
def execReadLine (s : State) : Host.Outcome State Fault Refusal :=
  .next (answer .readLine .accepted
    (u8 (lineStateCode s.line.state) ++ u16 s.line.records.length ++ u32 (lineStart s) ++ u32 (lineEnd s)
      ++ u16 s.line.check.toNat ++ updateBytes s.line.update) s)

/-- READ_SECTION (R9). -/
def execReadSection (index : Nat) (s : State) : Host.Outcome State Fault Refusal :=
  .next (match recordAt s index with
    | some r => answer .readSection .accepted (sectionBytes r) s
    | none => answer .readSection .notFound (noRecord 31) s)

/-- READ_SECTION_NEXT (R10). -/
def execReadSectionNext (s : State) : Host.Outcome State Fault Refusal :=
  .next (match recordAt s s.link.secCursor with
    | some r =>
      answer .readSectionNext .accepted (sectionBytes r)
        (s.setLink { s.link with secCursor := s.link.secCursor + 1 })
    | none => answer .readSectionNext .endOfWalk (noRecord 31) s)

/-- SET_SECTION_CURSOR (R10). Its frame carries an index of one byte (R200); the cursor reaches 256 by READ_SECTION_NEXT
over 256 records. -/
def execSetSectionCursor (index : Nat) (s : State) : Host.Outcome State Fault Refusal :=
  .next (if index ≤ 256 then answer .setSectionCursor .accepted [] (s.setLink { s.link with secCursor := index })
    else answer .setSectionCursor .badValue [] s)

/-- READ_WINDOW (R16). -/
def execReadWindow (offset : Int) (s : State) : Host.Outcome State Fault Refusal :=
  .next (if offset < -8 ∨ 23 < offset then answer .readWindow .badValue (noRecord 37) s
    else
      match (windowAt s offset).bind (fun e => (recordAt s e.index).map (fun r => (e, r))) with
      | none => answer .readWindow .none (noRecord 37) s
      | some (e, r) =>
        answer .readWindow .accepted
          (sectionBytes r ++ u8 e.index ++ speed16 e.limit ++ u16 e.aS ++ flag8 e.noMargin) s)

/-- STAGE_SECTION, owner CAR (R18, R19). -/
def execStageSection (b : BlockWire) (s : State) : Host.Outcome State Fault Refusal :=
  .next (answerResult .stageSection (stageBlock .car b s))

/-- COMMIT_STAGE, owner CAR (R20). -/
def execCommitStage (id crc : Nat) (s : State) : Host.Outcome State Fault Refusal :=
  .next (answerResult .commitStage (commitUpdate .car id crc s))

/-- ABORT_STAGE, owner CAR (R25). -/
def execAbortStage (id : Nat) (s : State) : Host.Outcome State Fault Refusal :=
  .next (answerResult .abortStage (abortUpdate .car id s))

/-- The received mask: bit `i` names index `i` (R17, log 19). -/
def receivedMask (u : StagedUpdate) : Nat :=
  (u.records.zipIdx.map (fun x => if x.1.isSome then 2 ^ x.2 else 0)).sum

/-- READ_STAGE (R26). Its result code is ACCEPTED: DESIGN CHOICE, log 44. -/
def execReadStage (s : State) : Host.Outcome State Fault Refusal :=
  let fields : List Byte := match openStaged s with
    | none => noRecord 8
    | some u => u16 u.id ++ u8 (ownerCode u.owner) ++ u16 u.first ++ u8 u.count ++ u16 (receivedMask u)
  .next (answer .readStage .accepted
    (u8 (stagingCode s.staging) ++ fields ++ none32 ((holdTimer s).map (Int.ofNat ·))) s)

end Sys2Proof.Machine
end

