-- ==== Sys2Proof/Machine/OdometryCommands.lean ====
section
/-! DEFINITION. The requests and field events of the Odometry Unit (chapter 2). -/

namespace Sys2Proof.Machine

/-- SET_POSITION (R50). -/
def execSetPosition (p u : Nat) (s : State) : Host.Outcome State Fault Refusal :=
  .next (answerResult .setPosition (setPosition p u s))

/-- A compare in an answer. -/
def compareBytes (o : Option Nat) : List Byte := none32 (o.map (Int.ofNat ·))

/-- The answer of READ_ODOMETRY (R51). -/
def odometryBytes (s : State) : List Byte :=
  let o := s.odo
  u8 (odoStateCode o.state) ++ u8 (odoFaultCode o.fault)
    ++ u32 (pMm o) ++ u32 (uMm o) ++ u32 o.uUm
    ++ speed16 o.sample.v ++ flag8 o.sample.standstill ++ u8 (motionCode o.sample.motion)
    ++ flagged8 o.cur ++ flagged16 ((currentRecord s).map (·.number)) ++ u8 (sourceCode o.source)
    ++ compareBytes o.lower ++ compareBytes o.upper ++ compareBytes o.nextLower ++ compareBytes o.nextUpper
    ++ u32 s.params.wPin ++ u32 s.params.wWhl
    ++ bits32 o.pinRaw ++ bits32 o.whlRaw ++ u16 o.pinErr ++ u16 o.whlErr
    ++ u32 o.lastDiff ++ u16 o.causes.toNat

/-- READ_ODOMETRY: the cause set is emptied (R51). -/
def execReadOdometry (s : State) : Host.Outcome State Fault Refusal :=
  .next (answer .readOdometry .accepted (odometryBytes s) (s.setOdo { s.odo with causes := 0#16 }))

/-- READ_MARK_REPORT (R43). -/
def execReadMarkReport (s : State) : Host.Outcome State Fault Refusal :=
  .next (match s.odo.report with
    | none => answer .readMarkReport .none (noRecord 17) s
    | some r =>
      answer .readMarkReport .accepted
        (flagged16 r.number ++ u32 r.captured ++ i32 r.correction ++ flag8 r.applied ++ flagged32 r.clock)
        (s.setOdo { s.odo with report := none }))

/-- QUADRATURE_COUNT (R29 to R32). -/
def execQuadratureCount (sensor : Sensor) (sense : Sense) (s : State) : Host.Outcome State Fault Refusal :=
  .next (takeCount sensor sense s)

/-- PHASE_ERROR (R29, R51). -/
def execPhaseError (sensor : Sensor) (s : State) : Host.Outcome State Fault Refusal :=
  .next (addOdoCause .phaseError (s.setOdo (decodeError sensor s.odo)))

/-- MARK_DETECTION (R39). -/
def execMarkDetection (s : State) : Host.Outcome State Fault Refusal := .next (detectMark s)

/-- POSITION_SAMPLE (R33). -/
def execPositionSample (s : State) : Host.Outcome State Fault Refusal := .next (takeSample s)

end Sys2Proof.Machine
end

