-- ==== Sys2Proof/Machine/RestrictionCommands.lean ====
section
/-! DEFINITION. The requests of the Restriction Table (chapter 3) and the line clock's timer. -/

namespace Sys2Proof.Machine

/-- PUT_RESTRICTION, issuer CAR (R54). -/
def execPutRestriction (w : PutWire) (s : State) : Host.Outcome State Fault Refusal :=
  .next (answerResult .putRestriction (putRestriction .car w s))

/-- RETIRE_RESTRICTION (R57). -/
def execRetireRestriction (id : Nat) (s : State) : Host.Outcome State Fault Refusal :=
  .next (answerResult .retireRestriction (withdrawEntry .car .withdrawn id s))

/-- SET_TIME (R60). -/
def execSetTime (value : Nat) (s : State) : Host.Outcome State Fault Refusal :=
  .next (if s.restr.clock.isSome then answer .setTime .badState [] s else answer .setTime .done [] (setClock value s))

/-- The entry at an index. -/
def entryAt (s : State) (i : Nat) : Option Restriction := s.restr.table.getD i none

/-- LOOKUP_RESTRICTION (R70). -/
def execLookupRestriction (issuer id : Nat) (s : State) : Host.Outcome State Fault Refusal :=
  .next (match issuerOfCode issuer with
    | none => answer .lookupRestriction .badValue (noRecord 26) s
    | some x =>
      match (findEntry x id s.restr).bind (fun i => (entryAt s i).map (fun e => (i, e))) with
      | some (i, e) => answer .lookupRestriction .accepted (restrictionBytes i e) s
      | none => answer .lookupRestriction .notFound (noRecord 26) s)

/-- READ_RESTRICTION (R71). -/
def execReadRestriction (index : Nat) (s : State) : Host.Outcome State Fault Refusal :=
  .next (if 31 < index then answer .readRestriction .badValue (noRecord 26) s
    else
      match entryAt s index with
      | some e => answer .readRestriction .accepted (restrictionBytes index e) s
      | none => answer .readRestriction .free (noRecord 26) s)

/-- The lowest occupied index from the cursor up (R72). -/
def nextOccupied (cursor : Nat) (r : Restrictions) : Option Nat :=
  (List.range 32).find? (fun i => cursor ≤ i && (r.table.getD i none).isSome)

/-- NEXT_RESTRICTION (R72). -/
def execNextRestriction (s : State) : Host.Outcome State Fault Refusal :=
  .next (match (nextOccupied s.link.resCursor s.restr).bind (fun i => (entryAt s i).map (fun e => (i, e))) with
    | some (i, e) =>
      answer .nextRestriction .accepted (restrictionBytes i e) (s.setLink { s.link with resCursor := i + 1 })
    | none => answer .nextRestriction .endOfWalk (noRecord 26) (s.setLink { s.link with resCursor := 32 }))

/-- SET_RESTRICTION_CURSOR (R73). -/
def execSetRestrictionCursor (index : Nat) (s : State) : Host.Outcome State Fault Refusal :=
  .next (if index ≤ 32 then answer .setRestrictionCursor .accepted [] (s.setLink { s.link with resCursor := index })
    else answer .setRestrictionCursor .badValue [] s)

/-- PENDING and ACTIVE entries of an issuer (R74). -/
def issuerCounts (i : Issuer) (r : Restrictions) : List Byte :=
  u8 (countEntries i false r) ++ u8 (countEntries i true r)

/-- READ_RESTRICTION_STATUS (R74). -/
def execReadRestrictionStatus (s : State) : Host.Outcome State Fault Refusal :=
  let r := s.restr
  .next (answer .readRestrictionStatus .accepted
    (u8 (if r.clock.isSome then 1 else 0) ++ flagged32 r.clock
      ++ issuerCounts .valley r ++ issuerCounts .car r ++ issuerCounts .part r
      ++ u8 ((r.table.take 30).countP (·.isNone)) ++ u8 r.log.length ++ u8 r.overflow ++ u8 s.link.resCursor) s)

/-- A change record in an answer (R68). -/
def changeBytes (c : ChangeRec) : List Byte :=
  u8 (changeCode c.change) ++ u8 (c.cause.elim 0 retireCode)
    ++ (match c.entry with
      | none => u8 0 ++ none16 none ++ none8 none ++ none8 none
      | some (i, id, k, idx) => u8 (issuerCode i) ++ u16 id ++ u8 (rkindCode k) ++ u8 idx)
    ++ flagged32 c.clock

/-- READ_RESTRICTION_LOG: the oldest record leaves the log, and the overflow count is set to 0 (R69). -/
def execReadRestrictionLog (s : State) : Host.Outcome State Fault Refusal :=
  .next (match s.restr.log with
    | [] =>
      answer .readRestrictionLog .none (noRecord 12 ++ u8 0 ++ u8 s.restr.overflow)
        (s.setRestr { s.restr with overflow := 0 })
    | c :: rest =>
      answer .readRestrictionLog .accepted (changeBytes c ++ u8 rest.length ++ u8 s.restr.overflow)
        (s.setRestr { s.restr with log := rest, overflow := 0 }))

/-- LINE_CLOCK_ADVANCE: while RUNNING the value grows by one, held at its limit, and is evaluated; while UNSET only the
timer runs anew (R58, log 39). -/
def execLineClockAdvance (s : State) : Host.Outcome State Fault Refusal :=
  .next (match s.restr.clock with
    | none => s.setRestr { s.restr with second := Config.secondMs }
    | some v => setClock (min (v + 1) 4294967295) s)

end Sys2Proof.Machine
end

