-- ==== Sys2Proof/Machine/SupervisorCommands.lean ====
section
/-! DEFINITION. The requests of the Speed Supervisor (chapter 4). -/

namespace Sys2Proof.Machine

/-- The table of R77, check 3. The present mode passes it. -/
def modeAllowed (m : Mode) (s : State) : Bool :=
  match s.sup.mode, m with
  | .standby, .standby => true
  | .standby, .depot => true
  | .depot, .standby => true
  | .depot, .depot => true
  | .depot, .line => isSealed s && known s.odo.state
  | .line, .standby => true
  | .line, .depot => true
  | .line, .line => true
  | _, _ => false

/-- SET_MODE (R77). -/
def setMode (code : Nat) (s : State) : Result × State :=
  match modeOfCode code with
  | none => (.badValue, s)
  | some m =>
    if !atStandstill s then (.moving, s)
    else if !modeAllowed m s then (.refusedMode, s)
    else if s.sup.mode = m then (.done, s)
    else (.done, changeMode m s)

/-- SET_MODE. -/
def execSetMode (code : Nat) (s : State) : Host.Outcome State Fault Refusal :=
  .next (answerResult .setMode (setMode code s))

/-- SET_DIRECTION (R79). -/
def setDirection (code : Nat) (s : State) : Result × State :=
  match dirOfCode code with
  | none => (.badValue, s)
  | some d =>
    if !atStandstill s then (.moving, s)
    else if inStandby s then (.mode, s)
    else if s.sup.dir = d then (.done, s)
    else (.done, selectDir d s)

/-- SET_DIRECTION. -/
def execSetDirection (code : Nat) (s : State) : Host.Outcome State Fault Refusal :=
  .next (answerResult .setDirection (setDirection code s))

/-- The limiting element with its reference in an answer (R98). -/
def limitingBytes : Limiting → List Byte
  | .mode => u8 0 ++ refBytes .none
  | .static n => u8 1 ++ refBytes (.section_ n)
  | .restriction i id => u8 2 ++ refBytes (.restriction i id)
  | .target => u8 3 ++ refBytes .none

/-- The binding-target record in an answer (R98, log 20). -/
def bindingBytes : Option Binding → List Byte
  | none => u8 0 ++ none32 none ++ none16 none ++ none16 none ++ none32 none ++ refBytes .none
  | some b =>
    u8 (targetCode b.kind) ++ u32 b.position ++ speed16 b.speed ++ speed16 b.curve ++ u32 b.span ++ refBytes b.ref

/-- The trip record in an answer (R200). -/
def tripBytes : Option TripRec → List Byte
  | none => noRecord 11
  | some t => u8 (tripCode t.cause) ++ u8 (modeCode t.before) ++ u32 t.p ++ flagged32 t.clock

/-- READ_SUPERVISION (R99). -/
def execReadSupervision (s : State) : Host.Outcome State Fault Refusal :=
  let x := s.sup
  .next (answer .readSupervision .accepted
    (u8 (modeCode x.mode) ++ u8 (dirCode x.dir) ++ u8 (modeCode x.modeBefore)
      ++ speed16 x.vPerm ++ u8 (levelCode x.level) ++ limitingBytes x.limiting ++ bindingBytes x.binding
      ++ none32 (x.curve.map (·.1)) ++ none32 (x.curve.map (fun y => (y.2 : Int)))
      ++ none32 (x.retained.map (Int.ofNat ·)) ++ u32 x.rollback ++ flag8 x.sbView ++ tripBytes x.trip) s)

end Sys2Proof.Machine
end

