-- ==== Sys2Proof/Machine/BrakeCommands.lean ====
section
/-! DEFINITION. The requests and timers of the Brake Output Unit (chapter 5). -/

namespace Sys2Proof.Machine

/-- BRAKE_DEMAND: the HOST entry, and the level taken with the entry's emergency demand in the answer (R105). -/
def execBrakeDemand (level : Nat) (emergency : Bool) (s : State) : Host.Outcome State Fault Refusal :=
  let d := hostDemand level emergency s.brakes.host
  .next (answer .brakeDemand .done (u8 d.level ++ u8 (emergencyCode d.emergency)) (writeDemand .host d s))

/-- The emergency demands of the six entries in an answer (R107). -/
def emergencyBytes (b : Brakes) : List Byte := (allDemands b).flatMap (fun d => u8 (emergencyCode d.emergency))

/-- RELEASE_TRIP (R107). -/
def execReleaseTrip (s : State) : Host.Outcome State Fault Refusal :=
  .next (if atStandstill s then answer .releaseTrip .done (emergencyBytes (releaseTrip s).brakes) (releaseTrip s)
    else answer .releaseTrip .moving (noRecord 6) s)

/-- The answer of READ_BRAKES (R117). A stopped timer is sent with every bit set: DEDUCED, log 20. -/
def brakeBytes (s : State) : List Byte :=
  let b := s.brakes
  (allDemands b).flatMap (fun d => u8 d.level ++ u8 (emergencyCode d.emergency))
    ++ u8 b.effort ++ flag8 b.emergency
    ++ u8 (rackCode b.rack) ++ u8 (rackFaultCode b.rackFault) ++ none32 (b.rackTimer.map (Int.ofNat ·))
    ++ u8 (winStateCode b.ain0)
    ++ u16 (expectedPressure s) ++ none16 b.ain1 ++ none32 (b.deficitTimer.map (Int.ofNat ·)) ++ flag8 b.sbDeficit
    ++ flag8 b.tperm ++ u16 b.causes.toNat

/-- READ_BRAKES: the cause set is emptied (R117). -/
def execReadBrakes (s : State) : Host.Outcome State Fault Refusal :=
  .next (answer .readBrakes .accepted (brakeBytes s) (s.setBrakes { s.brakes with causes := 0#16 }))

/-- T_REL_EXPIRY (R110). -/
def execTRelExpiry (s : State) : Host.Outcome State Fault Refusal := .next (relExpired s)

/-- T_APP_EXPIRY (R110, R112). -/
def execTAppExpiry (s : State) : Host.Outcome State Fault Refusal := .next (appExpired s)

/-- DEFICIT_TIMER_EXPIRY (R115). -/
def execDeficitTimerExpiry (s : State) : Host.Outcome State Fault Refusal := .next (deficitExpired s)

end Sys2Proof.Machine
end

