-- ==== Sys2Proof/Machine/DoorCommands.lean ====
section
/-! DEFINITION. The requests, switches and timers of the Door Controller (chapter 6). -/

namespace Sys2Proof.Machine

/-- The result code of a failed check of R136. -/
def releaseResult : Withdrawal → Result
  | .none => .done
  | .closeRequest => .done
  | .notStill => .notStill
  | .mode => .mode
  | .odometry => .odometry
  | .noPlatform => .noPlatform
  | .wrongSide => .wrongSide
  | .doorRestricted => .doorRestricted

/-- RELEASE_SIDE (R136). -/
def releaseSide (code : Nat) (autoOpen : Bool) (s : State) : Result × State :=
  match sideOfCode code with
  | none => (.badValue, s)
  | some side =>
    match releaseCheck side s.odo.state s with
    | .none => (.done, grantRelease side autoOpen s)
    | w => (releaseResult w, s)

/-- RELEASE_SIDE. -/
def execReleaseSide (side : Nat) (autoOpen : Bool) (s : State) : Host.Outcome State Fault Refusal :=
  .next (answerResult .releaseSide (releaseSide side autoOpen s))

/-- CLOSE_SIDE (R135). -/
def execCloseSide (side : Nat) (s : State) : Host.Outcome State Fault Refusal :=
  .next (match sideOfCode side with
    | none => answer .closeSide .badValue [] s
    | some x => answer .closeSide .done [] (closeSide x s))

/-- CLOSE_ALL (R135). -/
def execCloseAll (s : State) : Host.Outcome State Fault Refusal :=
  .next (answer .closeAll .done [] (closeSide .right (closeSide .left s)))

/-- A leaf's CLS and LKS are both on. -/
def secured (l : Leaf) : Bool := l.cls && l.lks

/-- ISOLATE_LEAF (R139). -/
def isolateLeaf (id : LeafId) (s : State) : Result × State :=
  let l := getLeaf s.doors.leaves id
  if l.state = .isolated then (.done, s)
  else if !secured l then (.badState, s)
  else (.done, moveLeaf id (fun _ l => (enterIsolated l, [])) s)

/-- ISOLATE_LEAF. -/
def execIsolateLeaf (leaf : Nat) (s : State) : Host.Outcome State Fault Refusal :=
  .next (match leafOfCode leaf with
    | none => answer .isolateLeaf .badValue [] s
    | some id => answerResult .isolateLeaf (isolateLeaf id s))

/-- RESTORE_LEAF (R139). -/
def restoreLeaf (id : LeafId) (s : State) : Result × State :=
  let l := getLeaf s.doors.leaves id
  if l.state ≠ .isolated ∨ secured l = false then (.badState, s)
  else (.done, moveLeaf id (fun _ l => (enterLocked l, [])) s)

/-- RESTORE_LEAF. -/
def execRestoreLeaf (leaf : Nat) (s : State) : Host.Outcome State Fault Refusal :=
  .next (match leafOfCode leaf with
    | none => answer .restoreLeaf .badValue [] s
    | some id => answerResult .restoreLeaf (restoreLeaf id s))

/-- A motion timer in an answer (R200). -/
def timerBytes : Option (LeafTime × Nat) → List Byte
  | none => u8 0 ++ none32 none
  | some (t, n) => u8 (leafTimeCode t) ++ u32 n

/-- A leaf in the answer of READ_DOORS (R142). -/
def leafBytes (l : Leaf) : List Byte :=
  let out := leafOutputs l.state
  u8 (leafStateCode l.state) ++ flag8 l.cls ++ flag8 l.lks ++ flag8 l.ops ++ flag8 l.pb
    ++ flag8 out.1 ++ flag8 out.2.1 ++ flag8 out.2.2 ++ timerBytes l.timer
    ++ u8 l.obstructions ++ u8 l.overCurrent ++ flag8 l.closePending ++ flag8 l.fault.isSome

/-- A side-release record in the answer of READ_DOORS (R136). A platform that is NONE is sent as id 0xFF, and its section
number with its presence flag clear: DEDUCED, log 20. -/
def releaseBytes (r : SideRelease) : List Byte :=
  flag8 r.inForce ++ flag8 r.autoOpen ++ none8 (r.platform.map (·.1)) ++ flagged16 (r.platform.map (·.2))
    ++ u8 (withdrawalCode r.cause)

/-- The answer of READ_DOORS (R142). -/
def doorBytes (s : State) : List Byte :=
  (allLeaves s.doors.leaves).flatMap leafBytes ++ releaseBytes s.doors.left ++ releaseBytes s.doors.right
    ++ flag8 s.doors.closed ++ u8 s.brakes.doors.level ++ u8 (emergencyCode s.brakes.doors.emergency)
    ++ u16 s.doors.causes.toNat

/-- READ_DOORS: the cause set is emptied (R142). -/
def execReadDoors (s : State) : Host.Outcome State Fault Refusal :=
  .next (answer .readDoors .accepted (doorBytes s) (s.setDoors { s.doors with causes := 0#16 }))

/-- READ_DOOR_FAULT (R134). -/
def readDoorFault (id : LeafId) (s : State) : State :=
  let l := getLeaf s.doors.leaves id
  match l.fault with
  | none => answer .readDoorFault .none (noRecord 6) s
  | some (c, clock) =>
    answer .readDoorFault .accepted (u8 (leafCauseCode c) ++ flagged32 clock)
      (s.setDoors { s.doors with leaves := putLeaf id { l with fault := none } s.doors.leaves })

/-- READ_DOOR_FAULT. -/
def execReadDoorFault (leaf : Nat) (s : State) : Host.Outcome State Fault Refusal :=
  .next (match leafOfCode leaf with
    | none => answer .readDoorFault .badValue (noRecord 6) s
    | some id => readDoorFault id s)

/-- CLS_CHANGE (R123, R128, R132, R139). A level already held is no change. -/
def execClsChange (leaf : LeafId) (on : Bool) (s : State) : Host.Outcome State Fault Refusal :=
  .next (if (getLeaf s.doors.leaves leaf).cls = on then s
    else moveLeaf leaf (fun e l => leafCls e { l with cls := on }) s)

/-- LKS_CHANGE (R123, R124, R132, R139). -/
def execLksChange (leaf : LeafId) (on : Bool) (s : State) : Host.Outcome State Fault Refusal :=
  .next (if (getLeaf s.doors.leaves leaf).lks = on then s
    else moveLeaf leaf (fun e l => leafLks e { l with lks := on }) s)

/-- OPS_CHANGE (R126, R131). -/
def execOpsChange (leaf : LeafId) (on : Bool) (s : State) : Host.Outcome State Fault Refusal :=
  .next (if (getLeaf s.doors.leaves leaf).ops = on then s
    else moveLeaf leaf (fun _ l => (leafOps { l with ops := on }, [])) s)

/-- PB_PRESSED, and its release (R125, log 12). -/
def execPbPressed (leaf : LeafId) (on : Bool) (s : State) : Host.Outcome State Fault Refusal :=
  .next (if (getLeaf s.doors.leaves leaf).pb = on then s
    else moveLeaf leaf (fun e l => (leafPb e { l with pb := on }, [])) s)

/-- T_LOCK_EXPIRY (R124, R132). -/
def execTLockExpiry (leaf : LeafId) (s : State) : Host.Outcome State Fault Refusal :=
  .next (moveLeaf leaf (fun e => leafExpiry e .tLock) s)

/-- T_OPEN_EXPIRY (R126). -/
def execTOpenExpiry (leaf : LeafId) (s : State) : Host.Outcome State Fault Refusal :=
  .next (moveLeaf leaf (fun e => leafExpiry e .tOpen) s)

/-- T_CLOSE_EXPIRY (R130). -/
def execTCloseExpiry (leaf : LeafId) (s : State) : Host.Outcome State Fault Refusal :=
  .next (moveLeaf leaf (fun e => leafExpiry e .tClose) s)

/-- T_REOPEN_EXPIRY (R131). -/
def execTReopenExpiry (leaf : LeafId) (s : State) : Host.Outcome State Fault Refusal :=
  .next (moveLeaf leaf (fun e => leafExpiry e .tReopen) s)

/-- T_PAUSE_EXPIRY (R127). -/
def execTPauseExpiry (leaf : LeafId) (s : State) : Host.Outcome State Fault Refusal :=
  .next (moveLeaf leaf (fun e => leafExpiry e .tPause) s)

end Sys2Proof.Machine
end

