-- ==== Sys2Proof/Machine/RadioCommands.lean ====
section
/-! DEFINITION. The requests and timers of the Radio Frame Controller (chapter 7). -/

namespace Sys2Proof.Machine

/-- SET_SLOT (R146). -/
def setSlot (slot route : Nat) (s : State) : Result × State :=
  if s.radio.sync = .init then (.busy, s)
  else if slot = 0 ∨ 7 < slot then (.badValue, s)
  else
    match hostRouteOfCode route with
    | none => (.badValue, s)
    | some x =>
      if s.radio.grant.any (·.slot == slot) then (.badState, s)
      else (.done, s.setRadio { s.radio with routes := s.radio.routes.set slot x })

/-- SET_SLOT. -/
def execSetSlot (slot route : Nat) (s : State) : Host.Outcome State Fault Refusal :=
  .next (answerResult .setSlot (setSlot slot route s))

/-- RADIO_RESET (R150). -/
def execRadioReset (s : State) : Host.Outcome State Fault Refusal :=
  .next (answer .radioReset .started [] (radioReset s))

/-- The channel of the tuned cell changed: CHSEL at once, and as for a handover outside INIT (R149, R158). -/
def retune (channel : Nat) (s : State) : State :=
  if s.radio.sync = .init then s
  else addRadioCause .handover (s.setRadio (enterSearchAnew { s.radio with chsel := channel }))

/-- SET_CHANNEL (R158). -/
def setChannel (cell channel : Nat) (s : State) : Result × State :=
  if !inStandby s then (.mode, s)
  else if 15 < cell ∨ 255 < channel then (.badValue, s)
  else
    let s1 := s.setRadio { s.radio with channels := s.radio.channels.set cell channel }
    if s.radio.tuned = some cell ∧ channelOf s.radio cell ≠ channel then (.done, retune channel s1) else (.done, s1)

/-- SET_CHANNEL. -/
def execSetChannel (cell channel : Nat) (s : State) : Host.Outcome State Fault Refusal :=
  .next (answerResult .setChannel (setChannel cell channel s))

/-- The answer of READ_RADIO (R162). A stopped timer is sent with every bit set: DEDUCED, log 20. -/
def radioBytes (s : State) : List Byte :=
  let r := s.radio
  u8 (syncCode r.sync) ++ u8 r.slotIndex ++ u8 r.frame ++ r.routes.flatMap (fun x => u8 (routeCode x))
    ++ none8 (r.grant.map (·.slot)) ++ none8 (r.grant.map (·.period)) ++ none8 (r.grant.map (·.phase))
    ++ none8 r.tuned ++ u8 r.chsel ++ u8 (beaconSourceCode r.source)
    ++ flag8 r.guardOpen ++ u8 r.guardCount ++ u8 s.params.guard ++ u8 r.miss
    ++ none32 (r.holdover.map (Int.ofNat ·)) ++ u8 (linkCode r.link) ++ none32 (r.loss.map (Int.ofNat ·))
    ++ u16 r.loopPass ++ u16 r.loopFail ++ u16 r.causes.toNat

/-- READ_RADIO: the cause set is emptied (R162). -/
def execReadRadio (s : State) : Host.Outcome State Fault Refusal :=
  .next (answer .readRadio .accepted (radioBytes s) (s.setRadio { s.radio with causes := 0#16 }))

/-- READ_CHANNEL (R162). -/
def execReadChannel (cell : Nat) (s : State) : Host.Outcome State Fault Refusal :=
  .next (if 15 < cell then answer .readChannel .badValue (noRecord 1) s
    else answer .readChannel .accepted (u8 (channelOf s.radio cell)) s)

/-- SLOT_START (R144). -/
def execSlotStart (s : State) : Host.Outcome State Fault Refusal := .next (startSlot s)

/-- INIT_SEQUENCE_END (R149). -/
def execInitSequenceEnd (s : State) : Host.Outcome State Fault Refusal :=
  .next (if s.radio.sync = .init then finishInit s else s)

/-- HOLDOVER_TIMER_EXPIRY (R156). -/
def execHoldoverTimerExpiry (s : State) : Host.Outcome State Fault Refusal := .next (holdoverExpired s)

/-- RADIO_LOSS_TIMER_EXPIRY (R161). -/
def execRadioLossTimerExpiry (s : State) : Host.Outcome State Fault Refusal :=
  .next (if s.radio.loss.isSome then linkExpired s else s)

end Sys2Proof.Machine
end

