-- ==== Sys2Proof/Machine/TelegramCommands.lean ====
section
/-! DEFINITION. The requests of the Telegram Handler and the telegrams (chapter 8). -/

namespace Sys2Proof.Machine

/-- SET_FILTER (R167). -/
def setFilter (index : Nat) (enable : Bool) (kind value mask : Nat) (s : State) : Result × State :=
  if !inStandby s then (.mode, s)
  else
    match destOfCode kind with
    | none => (.badValue, s)
    | some k =>
      if 5 < index ∨ 0xFFFFF < value ∨ 0xFFFFF < mask then (.badValue, s)
      else (.done, s.setTele { s.tele with filters := s.tele.filters.set index ⟨enable, k, value, mask⟩ })

/-- SET_FILTER. -/
def execSetFilter (index : Nat) (enable : Bool) (kind value mask : Nat) (s : State) :
    Host.Outcome State Fault Refusal :=
  .next (answerResult .setFilter (setFilter index enable kind value mask s))

/-- A filter in an answer (R167). -/
def filterBytes (f : Filter) : List Byte := flag8 f.enabled ++ u8 (destCode f.kind) ++ u32 f.value ++ u32 f.mask

/-- READ_FILTER (R167). -/
def execReadFilter (index : Nat) (s : State) : Host.Outcome State Fault Refusal :=
  .next (if 5 < index then answer .readFilter .badValue (noRecord 10) s
    else answer .readFilter .accepted (filterBytes (s.tele.filters.getD index ⟨false, .car, 0, 0⟩)) s)

/-- The update id of a commit held for the valley, or 0 (R177). -/
def heldId (s : State) : Nat := match s.staging with | .held u _ => if u.owner = .valley then u.id else 0 | _ => 0

/-- READ_TELEGRAMS (R177). -/
def execReadTelegrams (s : State) : Host.Outcome State Fault Refusal :=
  let c := s.tele.counts
  .next (answer .readTelegrams .accepted
    (u16 c.received ++ u16 c.checkErrors ++ u16 c.headerErrors ++ u16 c.foreign ++ u16 c.searchDiscards
      ++ u16 c.beacons ++ u16 c.accepted ++ u16 c.acksSent ++ u16 c.reportsSent ++ u16 c.displaced
      ++ u16 c.uplinkDiscards ++ u32 s.params.carAddress ++ u8 s.tele.lastStation ++ u8 s.tele.queue.length
      ++ flag8 (s.tele.queue.contains .report) ++ u16 (heldId s)) s)

/-- An entry of the uplink queue in an answer (R177). The ACK fields of a REPORT entry are sent as 0: DEDUCED, log 20. -/
def uplinkBytes : Uplink → List Byte
  | .report => u8 reportTelegram ++ noRecord 5
  | .ack k n res st => u8 ackTelegram ++ u8 (ackKindCode k) ++ u16 n ++ u8 (resultCode res) ++ u8 st

/-- READ_UPLINK (R177). -/
def execReadUplink (position : Nat) (s : State) : Host.Outcome State Fault Refusal :=
  .next (if 7 < position then answer .readUplink .badValue (noRecord 6) s
    else
      match s.tele.queue[position]? with
      | none => answer .readUplink .none (noRecord 6) s
      | some e => answer .readUplink .accepted (uplinkBytes e) s)

/-- TELEGRAM_DISCARDED (R145, R164). -/
def execTelegramDiscarded (step : Discard) (s : State) : Host.Outcome State Fault Refusal :=
  .next (discardTelegram step s)

/-- BEACON (R151 to R153, R156). -/
def execBeacon (frame cell : Nat) (source : BeaconOrigin) (s : State) : Host.Outcome State Fault Refusal :=
  .next (receiveBeacon frame cell source s)

/-- TIME (R59). -/
def execTime (h : TgHeader) (value : Nat) (s : State) : Host.Outcome State Fault Refusal :=
  .next (receive h (setClock value) s)

/-- RESTRICT (R54). -/
def execRestrict (h : TgHeader) (w : PutWire) (s : State) : Host.Outcome State Fault Refusal :=
  .next (receive h (fun t => ackResult .restrict w.id h (putRestriction .valley w t)) s)

/-- REVOKE (R56). -/
def execRevoke (h : TgHeader) (id : Nat) (s : State) : Host.Outcome State Fault Refusal :=
  .next (receive h (fun t => ackResult .revoke id h (withdrawEntry .valley .revoked id t)) s)

/-- SECTION_BLOCK, owner VALLEY (R18, R19). -/
def execSectionBlock (h : TgHeader) (b : BlockWire) (s : State) : Host.Outcome State Fault Refusal :=
  .next (receive h (fun t => ackBlock b.id h (stageBlock .valley b t)) s)

/-- SECTION_COMMIT, owner VALLEY (R20, R170). -/
def execSectionCommit (h : TgHeader) (id crc : Nat) (s : State) : Host.Outcome State Fault Refusal :=
  .next (receive h (fun t => ackCommit id h (commitUpdate .valley id crc t)) s)

/-- SECTION_ABORT, owner VALLEY (R25). -/
def execSectionAbort (h : TgHeader) (id : Nat) (s : State) : Host.Outcome State Fault Refusal :=
  .next (receive h (fun t => ackResult .sectionAbort id h (abortUpdate .valley id t)) s)

/-- SLOT_GRANT (R159). -/
def execSlotGrant (h : TgHeader) (slot period phase : Nat) (s : State) : Host.Outcome State Fault Refusal :=
  .next (receive h (fun t => ackResult .slotGrant slot h (takeGrant ⟨slot, period, phase⟩ t)) s)

/-- POLL (R172). -/
def execPoll (h : TgHeader) (s : State) : Host.Outcome State Fault Refusal := .next (receive h queueReport s)

/-- EMERGENCY_STOP (R106). -/
def execEmergencyStop (h : TgHeader) (s : State) : Host.Outcome State Fault Refusal :=
  .next (receive h (fun t => ackResult .emergencyStop 0 h (radioStop t)) s)

/-- STOP_RELEASE (R106). -/
def execStopRelease (h : TgHeader) (s : State) : Host.Outcome State Fault Refusal :=
  .next (receive h (fun t => ackResult .stopRelease 0 h (radioRelease t)) s)

/-- HOLD_TIMER_EXPIRY (R24). -/
def execHoldTimerExpiry (s : State) : Host.Outcome State Fault Refusal := .next (holdExpired s)

end Sys2Proof.Machine
end

