-- ==== Sys2Proof/Machine/AnalogCommands.lean ====
section
/-! DEFINITION. The requests of the Analog Sweep Unit (chapter 9) and its completed conversion. -/

namespace Sys2Proof.Machine

/-- SET_SWEEP (R182). -/
def execSetSweep (mode emphasis : Nat) (s : State) : Host.Outcome State Fault Refusal :=
  .next (answerResult .setSweep (setSweep mode emphasis s))

/-- SET_CALIBRATION (R184). -/
def execSetCalibration (c : CalWire) (s : State) : Host.Outcome State Fault Refusal :=
  .next (answerResult .setCalibration (setCalibration c s))

/-- SET_WINDOW (R185). -/
def execSetWindow (channel low high : Nat) (s : State) : Host.Outcome State Fault Refusal :=
  .next (answerResult .setWindow (setWindow channel low high s))

/-- The sweep in the answer of READ_ANALOG: mode, emphasis channel, mode to be resumed, single pass, passes (R187). -/
def sweepBytes (a : Analog) : List Byte :=
  u8 (if a.single then 2 else sweepModeCode a.mode) ++ u8 a.emphasis
    ++ none8 (if a.single then some (sweepModeCode a.mode) else none) ++ flag8 a.single ++ u16 a.passes

/-- A channel in the answer of READ_ANALOG (R187). -/
def channelBytes (c : Channel) : List Byte :=
  u16 c.raw ++ u16 c.calibrated ++ flag8 c.valid ++ u8 (winStateCode c.window) ++ u16 c.conversions ++ u16 c.invalid
    ++ u16 c.rawLo ++ u16 c.engLo ++ u16 c.rawHi ++ u16 c.engHi ++ flag8 c.railCheck ++ u16 c.low ++ u16 c.high

/-- READ_ANALOG (R187). -/
def execReadAnalog (channel : Nat) (s : State) : Host.Outcome State Fault Refusal :=
  .next (if 7 < channel then answer .readAnalog .badValue (noRecord 29) s
    else answer .readAnalog .accepted (sweepBytes s.analog ++ channelBytes (channelAt s.analog channel)) s)

/-- CONVERSION_COMPLETE (R186). -/
def execConversionComplete (raw : Nat) (s : State) : Host.Outcome State Fault Refusal :=
  .next (completeConversion raw s)

end Sys2Proof.Machine
end

