-- ==== Sys2Proof/Machine/Dispatch.lean ====
section
/-! DEFINITION. One arm per command, each one direct call of its meaning. -/

namespace Sys2Proof.Machine

def exec (i : Instr) (s : State) : Host.Outcome State Fault Refusal :=
  match i with
  | .powerOnReset => Sys2Proof.Machine.execPowerOnReset s
  | .hostFrameRefused why => Sys2Proof.Machine.execHostFrameRefused why s
  | .nop => Sys2Proof.Machine.execNop s
  | .readPage page => Sys2Proof.Machine.execReadPage page s
  | .ident => Sys2Proof.Machine.execIdent s
  | .readEvents => Sys2Proof.Machine.execReadEvents s
  | .clearEvents set => Sys2Proof.Machine.execClearEvents set s
  | .setEventMask set => Sys2Proof.Machine.execSetEventMask set s
  | .readParameter number => Sys2Proof.Machine.execReadParameter number s
  | .setParameter number value => Sys2Proof.Machine.execSetParameter number value s
  | .reset => Sys2Proof.Machine.execReset s
  | .lineLoadBegin => Sys2Proof.Machine.execLineLoadBegin s
  | .appendSection r => Sys2Proof.Machine.execAppendSection r s
  | .lineLoadEnd => Sys2Proof.Machine.execLineLoadEnd s
  | .readLine => Sys2Proof.Machine.execReadLine s
  | .readSection index => Sys2Proof.Machine.execReadSection index s
  | .readSectionNext => Sys2Proof.Machine.execReadSectionNext s
  | .setSectionCursor index => Sys2Proof.Machine.execSetSectionCursor index s
  | .readWindow offset => Sys2Proof.Machine.execReadWindow offset s
  | .stageSection b => Sys2Proof.Machine.execStageSection b s
  | .commitStage id crc => Sys2Proof.Machine.execCommitStage id crc s
  | .abortStage id => Sys2Proof.Machine.execAbortStage id s
  | .readStage => Sys2Proof.Machine.execReadStage s
  | .setPosition p u => Sys2Proof.Machine.execSetPosition p u s
  | .readOdometry => Sys2Proof.Machine.execReadOdometry s
  | .readMarkReport => Sys2Proof.Machine.execReadMarkReport s
  | .putRestriction w => Sys2Proof.Machine.execPutRestriction w s
  | .retireRestriction id => Sys2Proof.Machine.execRetireRestriction id s
  | .setTime value => Sys2Proof.Machine.execSetTime value s
  | .lookupRestriction issuer id => Sys2Proof.Machine.execLookupRestriction issuer id s
  | .readRestriction index => Sys2Proof.Machine.execReadRestriction index s
  | .nextRestriction => Sys2Proof.Machine.execNextRestriction s
  | .setRestrictionCursor index => Sys2Proof.Machine.execSetRestrictionCursor index s
  | .readRestrictionStatus => Sys2Proof.Machine.execReadRestrictionStatus s
  | .readRestrictionLog => Sys2Proof.Machine.execReadRestrictionLog s
  | .setMode code => Sys2Proof.Machine.execSetMode code s
  | .setDirection code => Sys2Proof.Machine.execSetDirection code s
  | .readSupervision => Sys2Proof.Machine.execReadSupervision s
  | .brakeDemand level emergency => Sys2Proof.Machine.execBrakeDemand level emergency s
  | .releaseTrip => Sys2Proof.Machine.execReleaseTrip s
  | .readBrakes => Sys2Proof.Machine.execReadBrakes s
  | .releaseSide side autoOpen => Sys2Proof.Machine.execReleaseSide side autoOpen s
  | .closeSide side => Sys2Proof.Machine.execCloseSide side s
  | .closeAll => Sys2Proof.Machine.execCloseAll s
  | .isolateLeaf leaf => Sys2Proof.Machine.execIsolateLeaf leaf s
  | .restoreLeaf leaf => Sys2Proof.Machine.execRestoreLeaf leaf s
  | .readDoors => Sys2Proof.Machine.execReadDoors s
  | .readDoorFault leaf => Sys2Proof.Machine.execReadDoorFault leaf s
  | .setSlot slot route => Sys2Proof.Machine.execSetSlot slot route s
  | .radioReset => Sys2Proof.Machine.execRadioReset s
  | .setChannel cell channel => Sys2Proof.Machine.execSetChannel cell channel s
  | .readRadio => Sys2Proof.Machine.execReadRadio s
  | .readChannel cell => Sys2Proof.Machine.execReadChannel cell s
  | .setFilter index enable kind value mask => Sys2Proof.Machine.execSetFilter index enable kind value mask s
  | .readFilter index => Sys2Proof.Machine.execReadFilter index s
  | .readTelegrams => Sys2Proof.Machine.execReadTelegrams s
  | .readUplink position => Sys2Proof.Machine.execReadUplink position s
  | .setSweep mode emphasis => Sys2Proof.Machine.execSetSweep mode emphasis s
  | .setCalibration c => Sys2Proof.Machine.execSetCalibration c s
  | .setWindow channel low high => Sys2Proof.Machine.execSetWindow channel low high s
  | .readAnalog channel => Sys2Proof.Machine.execReadAnalog channel s
  | .quadratureCount sensor sense => Sys2Proof.Machine.execQuadratureCount sensor sense s
  | .phaseError sensor => Sys2Proof.Machine.execPhaseError sensor s
  | .markDetection => Sys2Proof.Machine.execMarkDetection s
  | .clsChange leaf on => Sys2Proof.Machine.execClsChange leaf on s
  | .lksChange leaf on => Sys2Proof.Machine.execLksChange leaf on s
  | .opsChange leaf on => Sys2Proof.Machine.execOpsChange leaf on s
  | .pbPressed leaf on => Sys2Proof.Machine.execPbPressed leaf on s
  | .conversionComplete raw => Sys2Proof.Machine.execConversionComplete raw s
  | .positionSample => Sys2Proof.Machine.execPositionSample s
  | .lineClockAdvance => Sys2Proof.Machine.execLineClockAdvance s
  | .holdTimerExpiry => Sys2Proof.Machine.execHoldTimerExpiry s
  | .tRelExpiry => Sys2Proof.Machine.execTRelExpiry s
  | .tAppExpiry => Sys2Proof.Machine.execTAppExpiry s
  | .deficitTimerExpiry => Sys2Proof.Machine.execDeficitTimerExpiry s
  | .tLockExpiry leaf => Sys2Proof.Machine.execTLockExpiry leaf s
  | .tOpenExpiry leaf => Sys2Proof.Machine.execTOpenExpiry leaf s
  | .tCloseExpiry leaf => Sys2Proof.Machine.execTCloseExpiry leaf s
  | .tReopenExpiry leaf => Sys2Proof.Machine.execTReopenExpiry leaf s
  | .tPauseExpiry leaf => Sys2Proof.Machine.execTPauseExpiry leaf s
  | .slotStart => Sys2Proof.Machine.execSlotStart s
  | .initSequenceEnd => Sys2Proof.Machine.execInitSequenceEnd s
  | .holdoverTimerExpiry => Sys2Proof.Machine.execHoldoverTimerExpiry s
  | .radioLossTimerExpiry => Sys2Proof.Machine.execRadioLossTimerExpiry s
  | .telegramDiscarded step => Sys2Proof.Machine.execTelegramDiscarded step s
  | .beacon frame cell source => Sys2Proof.Machine.execBeacon frame cell source s
  | .time h value => Sys2Proof.Machine.execTime h value s
  | .restrict h w => Sys2Proof.Machine.execRestrict h w s
  | .revoke h id => Sys2Proof.Machine.execRevoke h id s
  | .sectionBlock h b => Sys2Proof.Machine.execSectionBlock h b s
  | .sectionCommit h id crc => Sys2Proof.Machine.execSectionCommit h id crc s
  | .sectionAbort h id => Sys2Proof.Machine.execSectionAbort h id s
  | .slotGrant h slot period phase => Sys2Proof.Machine.execSlotGrant h slot period phase s
  | .poll h => Sys2Proof.Machine.execPoll h s
  | .emergencyStop h => Sys2Proof.Machine.execEmergencyStop h s
  | .stopRelease h => Sys2Proof.Machine.execStopRelease h s

end Sys2Proof.Machine
end

