-- ==== Sys2Proof/Machine/Ports.lean ====
section
/-! DEFINITION. The part's pins: what its outputs show in a state and while RSTN is held active, and what arrives on its
two ports bit by bit and byte by byte, before it is a command (R119, R121, R144, R145, R190, R195, R199). -/

namespace Sys2Proof.Machine

/-! ### Outputs (section 11.8) -/

/-- What the output pins show. `attn` is the level of ATTN, active low; `sbpwm` is a duty in percent; `drives` holds
motor open, motor close and lock coil of L1 to L3 and R4 to R6. -/
structure Pins where
  attn : Bool
  sbpwm : Nat
  rbcoil : Bool
  tperm : Bool
  drives : List (Bool × Bool × Bool)
  rstb : Bool
  rtxen : Bool
  rtxd : List Byte
  chsel : Nat
  deriving DecidableEq, Repr

/-- The output pins of a state, RSTN released (R103, R109, R116, R119, R121, R144, R195). -/
def outputPins (s : State) : Pins :=
  { attn := !attention s.link, sbpwm := s.brakes.effort, rbcoil := rbcoil s.brakes, tperm := s.brakes.tperm,
    drives := (allLeaves s.doors.leaves).map (fun l => leafOutputs l.state), rstb := s.radio.rstb,
    rtxen := s.radio.rtxen, rtxd := s.radio.rtxd, chsel := s.radio.chsel }

/-- The output pins while RSTN is held active, whatever the state: ATTN high, the three brake outputs and the eighteen
door outputs off, RSTB and RTXEN inactive, CHSEL at channel 0 (R119, R121, R144, R195). -/
def heldPins : Pins :=
  { attn := true, sbpwm := 0, rbcoil := false, tperm := false, drives := List.replicate 6 (false, false, false),
    rstb := false, rtxen := false, rtxd := [], chsel := 0 }

/-- The output pins at a level of RSTN, active low. The interval with RSTN held lies inside the one step POWER_ON_RESET
(log 40). -/
def pinsAt (rstn : Bool) (s : State) : Pins := if rstn then outputPins s else heldPins

/-! ### The host port, bit by bit (R190) -/

/-- A command that the link executes: a request. A frame answered under one of the three tests is not executed (R190); its
answer becomes the pending response in the step HOST_FRAME_REFUSED: DESIGN CHOICE, log 17. -/
def hostCommand (c : Instr) : Bool := (requestArgs c).isSome

/-- The link executes a request: its command waits in the queue (R190). DESIGN CHOICE, log 17. -/
def executing (s : State) : Bool := s.pending.any hostCommand

/-- CSN falls: a frame begins, its receive buffer empty and the pending response at its first bit (R190). -/
def csnFalls (s : State) : State :=
  if s.link.selected then s
  else
    s.setLink { s.link with
      selected := true, late := executing s, rx := [], rxBits := [], rxCount := 0, shifted := 0 }

/-- The byte of eight bits, most significant bit first (section 10.2). -/
def byteOfBits (bits : List Bool) : Byte := BitVec.ofNat 8 (bits.foldl (fun n b => 2 * n + b.toNat) 0)

/-- One bit taken from MOSI: every eighth completes a byte, which is stored among the first 40 and counted after them
(R190). -/
def takeBit (b : Bool) (l : Link) : Link :=
  let bits := l.rxBits ++ [b]
  if bits.length < 8 then { l with rxBits := bits, shifted := l.shifted + 1 }
  else
    { l with
      rx := if l.rx.length < 40 then l.rx ++ [byteOfBits bits] else l.rx,
      rxBits := [], rxCount := l.rxCount + 1, shifted := l.shifted + 1 }

/-- A clock on SCK with a level on MOSI: taken while CSN is low and nothing is executed (R190). -/
def sckRises (mosi : Bool) (s : State) : State :=
  if s.link.selected && !executing s then s.setLink (takeBit mosi s.link) else s

/-- Bit `n` of a run of bytes, most significant bit of the first byte first; 0 past the last. -/
def bitOf (bs : List Byte) (n : Nat) : Bool := ((bs[n / 8]?).map (·.getMsbD (n % 8))).getD false

/-- The level on MISO: not driven while CSN is high or RSTN is held; 0 while a request is executed; else the next bit of
the pending response, and 0 after its 40th byte (R190, R199). -/
def miso (rstn : Bool) (s : State) : Option Bool :=
  if !rstn || !s.link.selected then none
  else if executing s then some false
  else some (bitOf s.link.response s.link.shifted)

/-- The command the frame in progress spells at the CSN rise. A frame whose CSN fell during an execution, and one of
another length than 40 whole bytes, is answered FRAME_LENGTH (R190). -/
def frameTaken (l : Link) : Instr :=
  if l.late || l.rxCount != 40 then .hostFrameRefused .length else hostFrameCommand l.rx (!l.rxBits.isEmpty)

/-- CSN rises: the frame is judged as one event and its command joins the queue; no frame is then in progress (R190). -/
def csnRises (s : State) : State :=
  if s.link.selected then
    let s1 := s.setLink { s.link with
      selected := false, late := false, rx := [], rxBits := [], rxCount := 0, shifted := 0 }
    s1.setPending (s.pending ++ [frameTaken s.link])
  else s

/-! ### The radio port, byte by byte (R145) -/

/-- The slot in progress, as a telegram completed in it carries it (R145, R146). -/
def cameIn (r : Radio) : Came := ⟨r.slotIndex, r.slotRoute == .receive⟩

/-- A byte presented on RRXD, `start` its marker. A start marker begins a collection and discards one that is open, a
byte with none open is discarded, and the 48th byte completes the telegram, whose command joins the queue with the slot in
progress as the slot it came in. There is no reception in INIT (R145). While a SLOT_START waits in the queue, the slot it
is to end is still in progress, so a telegram completed then was complete in that slot (R178): DEDUCED, log 14. -/
def rrxdByte (start : Bool) (b : Byte) (s : State) : State :=
  if s.radio.sync = .init then s
  else if start then s.setRadio { s.radio with collection := some [b] }
  else
    match s.radio.collection with
    | none => s
    | some bs =>
      if bs.length < 47 then s.setRadio { s.radio with collection := some (bs ++ [b]) }
      else (s.setRadio { s.radio with collection := none }).setPending
        (s.pending ++ [telegramCommand (cameIn s.radio) (bs ++ [b])])

/-! ### What arrives on the two ports -/

/-- One arrival on a port, below the grain of a command. -/
inductive PortEvent where
  | csnFalls
  | sckRises (mosi : Bool)
  | csnRises
  | rrxdByte (start : Bool) (b : Byte)
  deriving DecidableEq, Repr

/-- An arrival taken at a level of RSTN; while it is held active no frame and no byte is taken (R199). -/
def arrive (rstn : Bool) (e : PortEvent) (s : State) : State :=
  if rstn then
    match e with
    | .csnFalls => csnFalls s
    | .sckRises b => sckRises b s
    | .csnRises => csnRises s
    | .rrxdByte start b => rrxdByte start b s
  else s

/-- Arrivals one after another with RSTN released. -/
def arriveAll (es : List PortEvent) (s : State) : State := es.foldl (fun s e => arrive true e s) s

/-- A whole host frame as it arrives: CSN falls, the bits of the bytes most significant first, CSN rises. -/
def frameArrivals (bs : List Byte) : List PortEvent :=
  .csnFalls :: bs.flatMap (fun b => (List.range 8).map (fun k => .sckRises (b.getMsbD k))) ++ [.csnRises]

/-- A whole telegram as it arrives: its first byte carries the start marker. -/
def telegramArrivals (bs : List Byte) : List PortEvent :=
  bs.zipIdx.map (fun x => .rrxdByte (x.2 == 0) x.1)

end Sys2Proof.Machine
end

