-- ==== Sys2Proof/Safety.lean ====
section
/-! DEFINITION. What a sound state of the CX40 is, block by block: the relations the spec says always hold. The claims
about every step are stated in these words. -/

namespace Sys2Proof.Machine

/-! ### Brakes, rack brake and traction permit -/

/-- The effort level, the emergency-present value and the traction permit agree with what they are computed from (R103,
R116), and car closed with the leaves (R140). -/
abbrev BrakesAgree (s : State) : Prop :=
  s.brakes.emergency = emergencyOf s.brakes ∧ s.brakes.effort = effortOf s.brakes
    ∧ s.brakes.tperm = permitHolds s.sup s.doors.closed s.brakes
    ∧ s.doors.closed = carClosed s.doors.leaves

/-- The release coil is energised only without an emergency demand (R109). -/
abbrev CoilSafe (s : State) : Prop := rbcoil s.brakes = true → emergencyOf s.brakes = false

/-- The rack brake's timer runs in exactly the states R109's table gives one. -/
abbrev RackTimed (s : State) : Prop :=
  s.brakes.rackTimer.isSome =
    (s.brakes.rack == .releasing || s.brakes.rack == .applying || s.brakes.rack == .faultNotReleased)

/-- The SUPERVISOR entry's emergency demand is the one the mode calls for (R80, R83). -/
abbrev SupervisorEntry (s : State) : Prop :=
  s.brakes.supervisor.emergency =
    match s.sup.mode with
    | .standby => .held
    | .tripped => .latched
    | .depot => .none
    | .line => .none

/-- The state the brakes are sound in. -/
abbrev BrakesSound (s : State) : Prop := BrakesAgree s ∧ CoilSafe s ∧ RackTimed s ∧ SupervisorEntry s

/-! ### Restriction Table -/

/-- The fields of a part-issued entry that never change: issuer, id, kind, ACTIVE, no times (R65). -/
def isPartEntry (w : PartEntry) (e : Restriction) : Bool :=
  e.issuer == .part && e.id == partId w && e.kind == .speed && e.active && e.activation.isNone && e.expiry.isNone

/-- Index 30 holds only RADIO_LOSS, index 31 only ODO_DEGRADED, the others only VALLEY and CAR entries (R53). -/
def entryPlaced (x : Option Restriction × Nat) : Bool :=
  x.1.all fun e =>
    if x.2 = 30 then isPartEntry .radioLoss e
    else if x.2 = 31 then isPartEntry .odoDegraded e
    else e.issuer != .part

/-- The table has 32 entries in their places (R53). -/
abbrev TablePlaced (s : State) : Prop :=
  s.restr.table.length = 32 ∧ s.restr.table.zipIdx.all entryPlaced = true

/-- While the line is SEALED, index 30 is occupied exactly when the link is LOST and index 31 exactly when the odometry
is DEGRADED; while it is not, the table is empty (R66). -/
abbrev PartEntriesAgree (s : State) : Prop :=
  if isSealed s = true then
    ((s.restr.table.getD 30 none).isSome = (s.radio.link == .lost))
      ∧ ((s.restr.table.getD 31 none).isSome = (s.odo.state == .degraded))
  else s.restr.table.all (·.isNone) = true

/-- The change log holds at most 8 records and the overflow count stays in its byte (R68). -/
abbrev LogBounded (s : State) : Prop := s.restr.log.length ≤ 8 ∧ s.restr.overflow ≤ 255

/-- No two entries share issuer and id (R54). -/
abbrev EntriesDistinct (s : State) : Prop :=
  (s.restr.table.filterMap (fun o => o.map (fun e => (e.issuer, e.id)))).Nodup

/-- The odometry is UNSET unless the line is SEALED (R38). -/
abbrev PositionNeedsLine (s : State) : Prop := isSealed s = false → s.odo.state = .unset

/-- The Restriction Table's state is sound. -/
abbrev RestrictionsSound (s : State) : Prop :=
  TablePlaced s ∧ PartEntriesAgree s ∧ LogBounded s ∧ PositionNeedsLine s

/-! ### Doors -/

/-- A leaf is UNLOCKING, UNLOCKED or OPENING. -/
def leafReleased (l : Leaf) : Bool := l.state == .unlocking || l.state == .unlocked || l.state == .opening

/-- Those states only with the side's release in force (R137). -/
abbrev LeavesNeedRelease (s : State) : Prop :=
  (([s.doors.leaves.l1, s.doors.leaves.l2, s.doors.leaves.l3].any leafReleased = true → s.doors.left.inForce = true)
    ∧ ([s.doors.leaves.r4, s.doors.leaves.r5, s.doors.leaves.r6].any leafReleased = true →
        s.doors.right.inForce = true))

/-- A side release is in force only at standstill in DEPOT or LINE (R137). -/
abbrev ReleaseNeedsStandstill (s : State) : Prop :=
  s.doors.left.inForce = true ∨ s.doors.right.inForce = true →
    s.odo.standstill = true ∧ (s.sup.mode = .depot ∨ s.sup.mode = .line)

/-- The doors' state is sound. -/
abbrev DoorsSound (s : State) : Prop := LeavesNeedRelease s ∧ ReleaseNeedsStandstill s

/-- No leaf waits for a level that already holds, and none rests LOCKED under a release in force (R122). -/
def settled (released : Bool) (l : Leaf) : Bool :=
  match l.state with
  | .unlocking => l.lks
  | .opening => !l.ops
  | .closing => !l.cls
  | .reopening => !l.ops
  | .locking => !l.lks
  | .locked => !released
  | .unlocked => true
  | .opened => true
  | .halted => true
  | .fault => true
  | .isolated => true

/-- Every leaf is settled (R122). -/
abbrev LeavesSettled (s : State) : Prop :=
  [s.doors.leaves.l1, s.doors.leaves.l2, s.doors.leaves.l3].all (settled s.doors.left.inForce) = true
    ∧ [s.doors.leaves.r4, s.doors.leaves.r5, s.doors.leaves.r6].all (settled s.doors.right.inForce) = true

/-- The motion timer of a leaf runs as the time its state gives (R121). -/
def timerFits (l : Leaf) : Bool :=
  match l.state with
  | .unlocking => l.timer.any (·.1 == .tLock)
  | .opening => l.timer.any (·.1 == .tOpen)
  | .closing => l.timer.any (·.1 == .tClose)
  | .reopening => l.timer.any (·.1 == .tReopen)
  | .locking => l.timer.any (·.1 == .tLock)
  | .opened => if l.closePending then l.timer.any (·.1 == .tPause) else l.timer.isNone
  | .locked => l.timer.isNone
  | .unlocked => l.timer.isNone
  | .halted => l.timer.isNone
  | .fault => l.timer.isNone
  | .isolated => l.timer.isNone

/-- Every leaf's timer fits its state (R121). -/
abbrev LeavesTimed (s : State) : Prop := (allLeaves s.doors.leaves).all timerFits = true

/-! ### Radio and telegrams -/

/-- Slot 0 is RECEIVE, and exactly the granted slot is TRANSMIT (R146, R159). -/
abbrev SlotsSound (r : Radio) : Prop :=
  r.routes.length = 8 ∧ r.routes.getD 0 .off = .receive
    ∧ (∀ k < 8, r.routes.getD k .off = .transmit ↔ r.grant.map (·.slot) = some k)

/-- The slot clock is stopped in INIT and runs in every other state, its counters in range, and a cell is tuned in every
state but INIT (R144, R148, R149). -/
abbrev SlotClockSound (r : Radio) : Prop :=
  (r.slotTimer.isSome = (r.sync != .init)) ∧ r.slotIndex < 8 ∧ r.frame < 25 ∧ (r.tuned.isSome = (r.sync != .init))

/-- The miss count stays below 3 and the holdover timer runs in HOLDOVER alone (R155, R156, R157). -/
abbrev HoldoverSound (r : Radio) : Prop := r.miss < 3 ∧ r.holdover.isSome = (r.sync == .holdover)

/-- The radio's state is sound. -/
abbrev RadioSound (s : State) : Prop :=
  SlotsSound s.radio ∧ SlotClockSound s.radio ∧ HoldoverSound s.radio

/-- The uplink queue holds at most 8 entries and at most one REPORT (R171). -/
abbrev UplinkSound (s : State) : Prop := s.tele.queue.length ≤ 8 ∧ s.tele.queue.count .report ≤ 1

/-! ### Position -/

/-- The line is well laid: contiguous sections no shorter than 10,000 mm (R6, R7). -/
def lineLaid : List SectionRec → Bool
  | [] => true
  | [r] => decide (10000 ≤ r.length)
  | r :: t :: rest => decide (10000 ≤ r.length) && decide (t.start = r.start + r.length) && lineLaid (t :: rest)

/-- No section ends beyond 67,108,864 mm (R6). -/
abbrev LineBounded (s : State) : Prop := ∀ r ∈ s.line.records, r.start + r.length ≤ 67108864

/-- The quiet-sample count stays within 0..`n_still` (R34). -/
abbrev QuietBounded (s : State) : Prop := s.odo.quiet ≤ s.params.nStill

/-- While a current section is held, the compares and the preload pair are those of the table (R35). -/
abbrev ComparesLoaded (s : State) : Prop :=
  match s.odo.cur with
  | none => True
  | some c =>
    c < s.line.records.length ∧ s.odo.lower = startAt s c ∧ s.odo.upper = upperAt s c
      ∧ s.odo.nextLower = startBelow s c ∧ s.odo.nextUpper = upperAt s (c + 1)

/-- The compares have the position between them, but for a line end the car has left in FAULT (R36, R38). -/
abbrev PositionTracked (s : State) : Prop :=
  s.odo.state ≠ .unset →
    ∃ lo up, s.odo.lower = some lo ∧ s.odo.upper = some up
      ∧ (lo * 1000 ≤ s.odo.pUm ∨ (s.odo.state = .fault ∧ s.odo.nextLower = none))
      ∧ (s.odo.pUm < up * 1000 ∨ (s.odo.state = .fault ∧ s.odo.nextUpper = none))

/-- In VALID and DEGRADED the position lies in the current section: `start(c) ≤ p < start(c) + length(c)` (R35). -/
abbrev PositionInSection (s : State) : Prop :=
  known s.odo.state = true →
    ∃ c r, s.odo.cur = some c ∧ recordAt s c = some r ∧ r.start ≤ pMm s.odo ∧ pMm s.odo < r.start + r.length

/-- The uncertainty stays within its bound (R32). -/
abbrev UncertaintyBounded (s : State) : Prop := s.odo.uUm ≤ uBound s.params

/-- In UNSET the position and the uncertainty are 0 and no section is held; in every other state one is (R27, R31). -/
abbrev UnsetIsEmpty (s : State) : Prop :=
  (s.odo.state = .unset → s.odo.pUm = 0 ∧ s.odo.uUm = 0 ∧ s.odo.cur = none)
    ∧ (s.odo.state ≠ .unset → s.odo.cur.isSome = true)

/-- The odometry's state is sound. -/
abbrev PositionSound (s : State) : Prop :=
  lineLaid s.line.records = true ∧ LineBounded s ∧ ComparesLoaded s ∧ PositionTracked s ∧ UncertaintyBounded s
    ∧ QuietBounded s ∧ UnsetIsEmpty s ∧ PositionNeedsLine s

/-- One count moves the car by less than the shortest section (R36): both weights are at most 10,000 mm. -/
abbrev WeightsShort (p : Params) : Prop := p.wPin ≤ 10000000 ∧ p.wWhl ≤ 10000000

/-! ### Parameters -/

/-- A parameter but `w_whl` lies in its range; wheel calibration alone moves `w_whl` (R45, R197, log 37). -/
def rowInRange (p : Params) (r : ParamRow) : Bool :=
  r.number == 6 || (r.low ≤ paramGet r.number p && paramGet r.number p ≤ r.high)

/-- Every parameter in its range, and the two conditions between parameters (R28, R100, R197). -/
abbrev ParamsSound (p : Params) : Prop :=
  paramTable.all (rowInRange p) = true ∧ p.markTol ≤ p.uMax ∧ p.dvSb < p.dvEb

/-! ### Lists of fixed length -/

/-- The tables of fixed size keep their sizes: window (R11), channel table (R158), filters (R163), channels (R179). -/
abbrev TablesSized (s : State) : Prop :=
  s.window.length = 32 ∧ s.radio.channels.length = 16 ∧ s.tele.filters.length = 6 ∧ s.analog.channels.length = 8

/-! ### What a command leaves unchanged, and what the host reads -/

/-- The blocks of the state. -/
inductive Block where
  | pending | params | link | line | window | staging | odo | restr | sup | brakes | doors | radio | tele | analog
  deriving DecidableEq, Repr

/-- A block is the same in two states. -/
def sameBlock (s t : State) : Block → Prop
  | .pending => t.pending = s.pending
  | .params => t.params = s.params
  | .link => t.link = s.link
  | .line => t.line = s.line
  | .window => t.window = s.window
  | .staging => t.staging = s.staging
  | .odo => t.odo = s.odo
  | .restr => t.restr = s.restr
  | .sup => t.sup = s.sup
  | .brakes => t.brakes = s.brakes
  | .doors => t.doors = s.doors
  | .radio => t.radio = s.radio
  | .tele => t.tele = s.tele
  | .analog => t.analog = s.analog

/-- Every block but the listed ones is the same in `t` as in `s`. -/
abbrev OnlyChanges (bs : List Block) (s t : State) : Prop := ∀ b, b ∉ bs → sameBlock s t b

/-- Page 0 of an answer (R192): the answer itself up to 34 bytes, else page index 0, the page count and 32 bytes. -/
def firstPage (data : List Byte) : List Byte :=
  if data.length ≤ 34 then data else u8 0 ++ u8 ((data.length + 31) / 32) ++ data.take 32

/-- The response of R191 in a state: summary, echoed code, result, 34 data bytes, CRC. -/
def responseOf (code : Nat) (res : Result) (data : List Byte) (t : State) : List Byte :=
  withCrc (summary t ++ u8 code ++ u8 (resultCode res) ++ padTo 34 data)

/-- The request was answered (R191, R192): its whole answer is in the answer store and page 0 in the pending response,
and the rest of the link is as in `l`. -/
def Answered (r : Req) (res : Result) (data : List Byte) (l : Link) (t : State) : Prop :=
  t.link = { l with store := some ⟨reqCode r, res, data⟩, response := responseOf (reqCode r) res (firstPage data) t }

/-- The request was answered with a result and changed nothing but the response and the answer store. -/
def AnsweredOnly (r : Req) (res : Result) (data : List Byte) (s t : State) : Prop :=
  OnlyChanges [.link] s t ∧ Answered r res data s.link t

/-- A link with one more event flag set (R193). -/
def flagged (f : EventFlag) (l : Link) : Link := { l with flags := l.flags ||| flagBit f }

/-- Two section records with the same number, start, length, gradient and kind (R22). -/
abbrev sameGeometry (a b : SectionRec) : Prop :=
  a.number = b.number ∧ a.start = b.start ∧ a.length = b.length ∧ a.gradient = b.gradient ∧ a.kind = b.kind

/-- A change record added to the log, the oldest of 8 given up for it (R68). -/
def Logged (c : ChangeRec) (r r' : Restrictions) : Prop :=
  r'.log = (if r.log.length < 8 then r.log else r.log.drop 1) ++ [c]
    ∧ r'.overflow = if r.log.length < 8 then r.overflow else min (r.overflow + 1) 255

/-- The entry at one index replaced, its change record added and RESTRICTION_CHANGED set (R67, R68); line clock and
one-second timer are as before. -/
def EntryChanged (ch : ChangeKind) (cause : Option RetireCause) (i : Nat) (e : Restriction) (new : Option Restriction)
    (s t : State) : Prop :=
  OnlyChanges [.restr, .link] s t
    ∧ t.restr.table = s.restr.table.set i new ∧ t.restr.clock = s.restr.clock ∧ t.restr.second = s.restr.second
    ∧ Logged ⟨ch, cause, some (e.issuer, e.id, e.kind, i), s.restr.clock⟩ s.restr t.restr
    ∧ t.link = flagged .restrictionChanged s.link

/-- One leaf moved to `l` and the door causes `cs` added: the other leaves and both releases stand, car closed is what
the leaves say, and the brakes change only when it changes (R140, R142). -/
def LeafMoved (id : LeafId) (l : Leaf) (cs : BitVec 16) (s t : State) : Prop :=
  OnlyChanges [.doors, .brakes, .link] s t
    ∧ getLeaf t.doors.leaves id = l ∧ (∀ j, j ≠ id → getLeaf t.doors.leaves j = getLeaf s.doors.leaves j)
    ∧ t.doors.left = s.doors.left ∧ t.doors.right = s.doors.right
    ∧ t.doors.closed = carClosed t.doors.leaves
    ∧ (t.doors.closed = s.doors.closed → t.brakes = s.brakes ∧ t.doors.causes = s.doors.causes ||| cs
        ∧ t.link = if cs = 0#16 then s.link else flagged .doorEvent s.link)
    ∧ (t.doors.closed ≠ s.doors.closed → t.doors.causes = s.doors.causes ||| cs ||| 16#16
        ∧ t.link = flagged .doorEvent s.link
        ∧ t.brakes.doors.level = (if s.odo.standstill = true ∧ t.doors.closed = false then s.params.sHold else 0)
        ∧ t.brakes.doors.emergency = s.brakes.doors.emergency
        ∧ (t.doors.closed = false → t.brakes.tperm = false))

/-- One leaf moved to `mid`, where car closed was derived, and on to `l` at once, where it was derived again (R122,
R140). -/
def LeafPassed (id : LeafId) (mid l : Leaf) (s t : State) : Prop :=
  ∃ u, LeafMoved id mid 0#16 s u ∧ LeafMoved id l 0#16 u t

/-- A leaf entering FAULT with a cause at a line-clock value (R133). -/
def faulted (c : LeafCause) (clock : Option Nat) (l : Leaf) : Leaf :=
  { l with state := .fault, timer := none, closePending := false, overCurrent := 0,
           fault := if l.fault = none then some (c, clock) else l.fault }

/-- A leaf that has opened (R121, R131): `t_pause` runs while it is to close again. -/
def stoodOpen (l : Leaf) : Leaf :=
  { l with state := .opened, timer := if l.closePending = true then some (.tPause, 2000) else none }

/-- A leaf that has locked (R132). -/
def lockedAway (l : Leaf) : Leaf :=
  { l with state := .locked, timer := none, obstructions := 0, overCurrent := 0, closePending := false }

/-- A leaf UNLOCKING with its bolt still in place (R121, R124). -/
def unboltedFrom (l : Leaf) : Leaf := { l with state := .unlocking, timer := some (.tLock, 500) }

/-- What a close request makes of a leaf, state by state (R121, R122, R135). -/
def CloseTaken (p : Params) (l m : Leaf) : Prop :=
  let closing : Leaf := { l with
    state := .closing, timer := some (.tClose, p.tClose), overCurrent := 0, closePending := false }
  (l.state ∈ [.locked, .locking, .closing, .isolated] → m = l)
  ∧ (l.state ∈ [.unlocking, .unlocked] → l.lks = false → m = { l with state := .locking, timer := some (.tLock, 500) })
  ∧ (l.state ∈ [.unlocking, .unlocked] → l.lks = true → m = lockedAway l)
  ∧ (l.state ∈ [.opening, .opened] → l.cls = false → m = closing)
  ∧ (l.state = .reopening → m = { l with closePending := true })
  ∧ (l.state ∈ [.halted, .fault] → l.cls = false → m = { closing with obstructions := 0 })
  ∧ (l.state ∈ [.opening, .opened] → l.cls = true → l.lks = false →
      m = { closing with state := .locking, timer := some (.tLock, 500) })
  ∧ (l.state ∈ [.halted, .fault] → l.cls = true → l.lks = false →
      m = { closing with state := .locking, timer := some (.tLock, 500), obstructions := 0 })
  ∧ (l.state ∈ [.opening, .opened, .halted, .fault] → l.cls = true → l.lks = true → m = lockedAway l)

/-- One side's release re-tested (R138): the checks of R136 in their order, on the mode, standstill, window and Restriction
Table of `t` and on the position and state of its last sample. A release whose test fails is withdrawn with that check's
cause, and the side's leaves take the close request; any other stays with its leaves as they were. -/
def ReleaseRetested (side : Side) (s t : State) : Prop :=
  let known := t.odo.sample.state = .valid ∨ t.odo.sample.state = .degraded
  let line := t.sup.mode = .line
  let lo : Int := (t.odo.sample.p : Int) - t.params.L - t.odo.sample.u
  let hi : Int := (t.odo.sample.p : Int) + t.odo.sample.u
  let stands := fun (q : Platform) => (∃ e r, some e ∈ t.window ∧ t.line.records[e.index]? = some r
      ∧ r.platform = some q) ∧ (q.lo : Int) ≤ lo ∧ hi ≤ (q.hi : Int)
  let serves := fun (q : Platform) => q.side = .both ∨ q.side = side
  let forbidden := ∃ x, some x ∈ t.restr.table ∧ x.active = true ∧ x.kind = .door
    ∧ (x.lo : Int) ≤ hi ∧ lo ≤ (x.hi : Int) ∧ (x.limit = 3 ∨ x.limit = sideCode side)
  let withdrawn := fun (w : Withdrawal) => getRelease t.doors side = ⟨false, false, none, w⟩
    ∧ t.doors.causes.getLsbD 2 = true ∧ t.link.flags.getLsbD (flagIndex .doorEvent) = true
    ∧ (∀ id, leafSide id = side → CloseTaken t.params (getLeaf s.doors.leaves id) (getLeaf t.doors.leaves id))
  let stays := getRelease t.doors side = getRelease s.doors side
    ∧ (∀ id, leafSide id = side → getLeaf t.doors.leaves id = getLeaf s.doors.leaves id)
  ((getRelease s.doors side).inForce = false → stays)
  ∧ ((getRelease s.doors side).inForce = true →
    (t.sup.mode ≠ .depot → t.sup.mode ≠ .line → withdrawn .mode)
    ∧ (t.sup.mode = .depot ∨ t.sup.mode = .line →
      (t.odo.standstill = false → withdrawn .notStill)
      ∧ (t.odo.standstill = true →
        (line → ¬ known → withdrawn .odometry)
        ∧ (line → known → (∀ q, ¬ stands q) → withdrawn .noPlatform)
        ∧ (line → known → (∃ q, stands q) → (∀ q, stands q → ¬ serves q) → withdrawn .wrongSide)
        ∧ ((line → ∃ q, stands q ∧ serves q) → known → forbidden → withdrawn .doorRestricted)
        ∧ ((line → known ∧ ∃ q, stands q ∧ serves q) → ¬ (known ∧ forbidden) → stays))))

/-- A telegram that came in a slot is handed on in the sync state it is taken in (R145, log 14). -/
abbrev Hears (came : Came) (s : State) : Prop :=
  s.radio.sync = .search
    ∨ ((s.radio.sync = .locked ∨ s.radio.sync = .holdover) ∧ (came.slot = 0 ∨ came.receive = true))

/-- The header of a downlink telegram other than a BEACON. -/
def headerOf : Instr → Option TgHeader
  | .time h _ => some h
  | .restrict h _ => some h
  | .revoke h _ => some h
  | .sectionBlock h _ => some h
  | .sectionCommit h _ _ => some h
  | .sectionAbort h _ => some h
  | .slotGrant h _ _ _ => some h
  | .poll h => some h
  | .emergencyStop h => some h
  | .stopRelease h => some h
  | _ => none

/-- At least one enabled filter of the destination kind agrees with the address under its mask (R166). -/
abbrev Passes (h : TgHeader) (s : State) : Prop :=
  ∃ f ∈ s.tele.filters, f.enabled = true ∧ f.kind = h.dest ∧ h.address &&& f.mask = f.value &&& f.mask

/-- An accepted telegram before its receiving block takes it (R161, R168, R176): counted, its station recorded, the
radio-loss timer restarted, and a LOST link made OK with the RADIO_LOSS entry retired on a sealed line. -/
def Heard (h : TgHeader) (s u : State) : Prop :=
  OnlyChanges [.tele, .radio, .restr, .link] s u
    ∧ u.tele = { s.tele with
        lastStation := h.station,
        counts := { s.tele.counts with
          received := min (s.tele.counts.received + 1) 65535, accepted := min (s.tele.counts.accepted + 1) 65535 } }
    ∧ (s.radio.link = .ok →
        u.radio = { s.radio with loss := some s.params.tLoss } ∧ u.restr = s.restr ∧ u.link = s.link)
    ∧ (s.radio.link = .lost →
        u.radio = { s.radio with
          link := .ok, loss := some s.params.tLoss, causes := s.radio.causes ||| 64#16 }
        ∧ u.link.flags.getLsbD (flagIndex .radioEvent) = true
        ∧ (∀ e, s.line.state = .sealed → s.restr.table[30]? = some (some e) →
            u.restr.table = s.restr.table.set 30 none ∧ u.restr.clock = s.restr.clock
            ∧ Logged ⟨.retired, some .causeEnded, some (e.issuer, e.id, e.kind, 30), s.restr.clock⟩ s.restr u.restr)
        ∧ ((s.line.state ≠ .sealed ∨ s.restr.table[30]? = some none) → u.restr = s.restr))

/-- An ACK added to the uplink queue as R171 states: at the tail, in place of a REPORT of a full queue, or discarded. -/
def Acked (k : AckKind) (reference : Nat) (res : Result) (station : Nat) (u t : State) : Prop :=
  OnlyChanges [.tele, .radio, .link] u t
    ∧ (u.tele.queue.length < 8 →
        t.tele = { u.tele with queue := u.tele.queue ++ [.ack k reference res station] }
        ∧ t.radio = u.radio ∧ t.link = u.link)
    ∧ (8 ≤ u.tele.queue.length → Uplink.report ∈ u.tele.queue →
        t.tele = { u.tele with
          queue := u.tele.queue.erase .report ++ [.ack k reference res station],
          counts := { u.tele.counts with displaced := min (u.tele.counts.displaced + 1) 65535 } }
        ∧ t.radio = { u.radio with causes := u.radio.causes ||| 512#16 } ∧ t.link = flagged .radioEvent u.link)
    ∧ (8 ≤ u.tele.queue.length → Uplink.report ∉ u.tele.queue →
        t.tele = { u.tele with
          counts := { u.tele.counts with uplinkDiscards := min (u.tele.counts.uplinkDiscards + 1) 65535 } }
        ∧ t.radio = { u.radio with causes := u.radio.causes ||| 1024#16 } ∧ t.link = flagged .radioEvent u.link)

/-- What a handover or a new channel of the tuned cell does beside the tuning (R157, R158). -/
def soughtAnew (r : Radio) : Radio :=
  { r with
    grant := none, routes := (match r.grant with | none => r.routes | some g => r.routes.set g.slot .off),
    holdover := none, miss := 0, sync := .search }

/-- A handover to the cell of a section entered, or none when it is the tuned cell or the controller is in INIT (R149,
R157). -/
def HandedOver (cell : Nat) (s t : State) : Prop :=
  (s.radio.sync = .init ∨ s.radio.tuned = some cell → t.radio = s.radio)
  ∧ (s.radio.sync ≠ .init → s.radio.tuned ≠ some cell →
      t.radio = { soughtAnew s.radio with
        tuned := some cell, chsel := s.radio.channels.getD cell 0, causes := s.radio.causes ||| 16#16 }
      ∧ t.link.flags.getLsbD (flagIndex .radioEvent) = true)

/-- The Radio Frame Controller told of an applied update exactly when the cell of the current section changes (R22). -/
def CellTold (s t : State) : Prop :=
  ((∀ c, s.odo.cur = some c → s.line.records[c]? = none) → t.radio = s.radio)
  ∧ (∀ c x y, s.odo.cur = some c → s.line.records[c]? = some x → t.line.records[c]? = some y →
      (y.cell = x.cell → t.radio = s.radio) ∧ (y.cell ≠ x.cell → HandedOver y.cell s t))

/-- The levels one count leads to, row by row as R29's table gives them. -/
def phaseTable : Sense → Phase → Phase
  | .up, ⟨false, false⟩ => ⟨true, false⟩
  | .up, ⟨true, false⟩ => ⟨true, true⟩
  | .up, ⟨true, true⟩ => ⟨false, true⟩
  | .up, ⟨false, true⟩ => ⟨false, false⟩
  | .down, ⟨false, false⟩ => ⟨false, true⟩
  | .down, ⟨true, false⟩ => ⟨false, false⟩
  | .down, ⟨true, true⟩ => ⟨true, false⟩
  | .down, ⟨false, true⟩ => ⟨true, true⟩

/-- The weight of one count with its sign, in µm (R31). -/
def signedWeight (sensor : Sensor) (x : Sense) (p : Params) : Int :=
  (match x with | .up => 1 | .down => -1) * ((match sensor with | .pinion => p.wPin | .wheel => p.wWhl : Nat) : Int)

/-- `p_um` after a move, held within 0..67,108,863,999 (R31). -/
def movedTo (pUm : Nat) (d : Int) : Nat := (max 0 (min 67108863999 ((pUm : Int) + d))).toNat

end Sys2Proof.Machine
end

