-- ==== Sys2Proof/Certificates/Slice0/Obligations.lean ====
section
/-! DEFINITION. The statements for the provers. Each says which rules of spec/ it formalises; a clause that rests on a
choice of the model names its log entry. -/

open Sys2Proof Sys2Proof.Machine

/-! ### The step and the ports -/

/-- The step takes the command at the front of the queue and runs it with the queue's rest (model's choice: log 1). -/
def Obligations.StepRunsFrontCommand : Prop :=
  ∀ (s : State) (c : Instr) (rest : List Instr), s.pending = c :: rest → step s = exec c (s.setPending rest)

/-- With no command waiting time passes: the first timer that has run out puts its expiry command in the queue, and when
none has, every running timer is one millisecond nearer its end (model's choice: log 1; the order in which timers that
run out together are taken: log 3). -/
def Obligations.EmptyQueueLetsTimePass : Prop :=
  ∀ s : State, s.pending = [] →
    let leaf := fun (id : LeafId) => match (getLeaf s.doors.leaves id).timer with
      | some (.tLock, 0) => some (Instr.tLockExpiry id)
      | some (.tOpen, 0) => some (.tOpenExpiry id)
      | some (.tClose, 0) => some (.tCloseExpiry id)
      | some (.tReopen, 0) => some (.tReopenExpiry id)
      | some (.tPause, 0) => some (.tPauseExpiry id)
      | _ => none
    let first : Option Instr :=
      if s.odo.sampleTimer = 0 then some .positionSample
      else if s.restr.second = 0 then some .lineClockAdvance
      else if (match s.staging with | .held _ n => n == 0 | _ => false) = true then some .holdTimerExpiry
      else if s.brakes.rackTimer = some 0 ∧ s.brakes.rack = .releasing then some .tRelExpiry
      else if s.brakes.rackTimer = some 0 then some .tAppExpiry
      else if s.brakes.deficitTimer = some 0 then some .deficitTimerExpiry
      else match [LeafId.l1, .l2, .l3, .r4, .r5, .r6].findSome? leaf with
        | some c => some c
        | none =>
          if s.radio.initTimer = some 0 then some .initSequenceEnd
          else if s.radio.slotTimer = some 0 then some .slotStart
          else if s.radio.holdover = some 0 then some .holdoverTimerExpiry
          else if s.radio.loss = some 0 then some .radioLossTimerExpiry
          else none
    ∃ t, step s = .next t ∧
      (∀ c, first = some c → t.pending = [c] ∧ OnlyChanges [.pending] s t) ∧
      (first = none →
        OnlyChanges [.staging, .odo, .restr, .brakes, .doors, .radio] s t
        ∧ t.odo = { s.odo with sampleTimer := s.odo.sampleTimer - 1 }
        ∧ t.restr = { s.restr with second := s.restr.second - 1 }
        ∧ t.brakes = { s.brakes with
            rackTimer := s.brakes.rackTimer.map (· - 1), deficitTimer := s.brakes.deficitTimer.map (· - 1) }
        ∧ t.radio = { s.radio with
            initTimer := s.radio.initTimer.map (· - 1), slotTimer := s.radio.slotTimer.map (· - 1),
            holdover := s.radio.holdover.map (· - 1), loss := s.radio.loss.map (· - 1) }
        ∧ (∀ u n, s.staging = .held u n → t.staging = .held u (n - 1))
        ∧ ((∀ u n, s.staging ≠ .held u n) → t.staging = s.staging)
        ∧ (∀ id, getLeaf t.doors.leaves id =
            { getLeaf s.doors.leaves id with
              timer := (getLeaf s.doors.leaves id).timer.map (fun x => (x.1, x.2 - 1)) })
        ∧ t.doors = { s.doors with leaves := t.doors.leaves })

/-- Every command runs in every state, and none touches the queue of the commands that wait (log 1). -/
def Obligations.EveryCommandRuns : Prop :=
  ∀ (c : Instr) (s : State), ∃ t, exec c s = .next t ∧ t.pending = s.pending

/-- The frame that carries a well-formed host request spells that request, with every argument at every value its field
admits (R190, R200, R201). The widths of a filter's value and mask in the frame are the model's (log 19). -/
def Obligations.HostFrameRoundTrip : Prop :=
  ∀ (i : Instr) (frame : List Byte), i.wf = true → requestFrame i = some frame →
    frame.length = 40 ∧ hostFrameCommand frame false = i

/-- The telegram that carries a well-formed downlink command spells that command in the slot it came in, with every field
at every value it admits (R164, R200, R202). -/
def Obligations.TelegramRoundTrip : Prop :=
  ∀ (i : Instr) (came : Came) (telegram : List Byte), i.wf = true → telegramFrame i = some (came, telegram) →
    telegram.length = 48 ∧ telegramCommand came telegram = i

/-- The three tests of a host frame, in their order, and the answer to a frame that fails one: the owner is not
reached and the answer store is left as it is (R190). And the frame as it arrives bit by bit: 40 whole bytes give the
command they spell, any other number and a frame whose CSN fell during an execution give FRAME_LENGTH; MISO presents the
pending response from its first bit, 0 after its 40th byte and 0 during an execution, and is not driven while CSN is high
or RSTN is held, when no bit is taken (R190, R199). A request is executed while its command waits, and a frame answered under the three
tests is not executed: log 17. -/
def Obligations.RefusedFrames : Prop :=
  (∀ (taken : List Byte) (spare : Bool),
    (taken.length ≠ 40 ∨ spare = true → hostFrameCommand taken spare = .hostFrameRefused .length)
    ∧ (taken.length = 40 → spare = false → (crc16 (taken.take 38)).toNat ≠ wordAt taken 38 →
        hostFrameCommand taken spare = .hostFrameRefused .check)
    ∧ (taken.length = 40 → spare = false → (crc16 (taken.take 38)).toNat = wordAt taken 38 →
        (codeKnown (byteAt taken 0) = false →
          hostFrameCommand taken spare = .hostFrameRefused (.unknown (byteAt taken 0)))
        ∧ (codeKnown (byteAt taken 0) = true →
          ∃ i r args, hostFrameCommand taken spare = i ∧ requestArgs i = some (r, args)
            ∧ reqCode r = byteAt taken 0)))
  ∧ (∀ (why : FrameFault) (s : State), ∃ t, exec (.hostFrameRefused why) s = .next t ∧ OnlyChanges [.link] s t
      ∧ t.link = { s.link with
          response := match why with
            | .length => responseOf 0 .frameLength [] t
            | .check => responseOf 0 .frameCheck [] t
            | .unknown code => responseOf code .unknownRequest [] t })
  ∧ (∀ (bs : List Byte) (s : State), s.link.selected = false → executing s = false →
      let t := arriveAll (frameArrivals bs) s
      OnlyChanges [.pending, .link] s t
      ∧ t.link = { s.link with
          selected := false, late := false, rx := [], rxBits := [], rxCount := 0, shifted := 0 }
      ∧ t.pending = s.pending ++
          [if bs.length = 40 then hostFrameCommand bs false else .hostFrameRefused .length])
  ∧ (∀ s : State,
      (executing s = true ↔ ∃ c ∈ s.pending, (requestArgs c).isSome = true)
      ∧ (s.link.selected = true → s.link.late = true ∨ s.link.rxCount ≠ 40 ∨ s.link.rxBits ≠ [] →
          (csnRises s).pending = s.pending ++ [.hostFrameRefused .length])
      ∧ (s.link.selected = false → (csnFalls s).link = { s.link with
            selected := true, late := executing s, rx := [], rxBits := [], rxCount := 0, shifted := 0 })
      ∧ (∀ b, executing s = true → sckRises b s = s)
      ∧ (∀ e, arrive false e s = s)
      ∧ miso false s = none ∧ (s.link.selected = false → miso true s = none)
      ∧ (s.link.selected = true → executing s = true → miso true s = some false)
      ∧ (s.link.selected = true → executing s = false → s.link.response.length = 40 →
          (∀ k b, s.link.response[k]? = some b → ∀ j < 8, s.link.shifted = 8 * k + j → miso true s = some (b.getMsbD j))
          ∧ (320 ≤ s.link.shifted → miso true s = some false)))

/-! ### Host Request Link -/

/-- NOP, READ_PAGE, IDENT and the three requests on the flags (R192, R194, R196): what each answers and the little it
changes; and what the status summary of every response and ATTN are in every state (R191, R195, section 11.2). -/
def Obligations.LinkRequests : Prop :=
  ∀ s : State,
    (attention s.link = true ↔ ∃ f : EventFlag, s.link.flags.getLsbD (flagIndex f) = true
        ∧ s.link.mask.getLsbD (flagIndex f) = true)
    ∧ (let mode := match s.sup.mode with | .standby => 0 | .depot => 1 | .line => 2 | .tripped => 3
      let level := match s.sup.level with
        | .normal => 0 | .indication => 1 | .warning => 2 | .service => 3 | .emergency => 4
      let line := match s.line.state with | .empty => 0 | .loading => 1 | .sealed => 2
      let sync := match s.radio.sync with | .init => 0 | .search => 1 | .locked => 2 | .holdover => 3
      ∃ a b : Byte, summary s = [a, b]
        ∧ a.extractLsb' 6 2 = BitVec.ofNat 2 mode ∧ a.extractLsb' 3 3 = BitVec.ofNat 3 level
        ∧ a.getLsbD 2 = attention s.link ∧ a.extractLsb' 0 2 = BitVec.ofNat 2 line
        ∧ b.extractLsb' 6 2 = BitVec.ofNat 2 sync ∧ b.extractLsb' 0 6 = 0#6)
    ∧ (∃ t, exec .nop s = .next t ∧ OnlyChanges [.link] s t
      ∧ t.link = { s.link with response := responseOf (reqCode .nop) .done [] t })
    ∧ (∀ page, ∃ t, exec (.readPage page) s = .next t ∧ OnlyChanges [.link] s t
      ∧ (s.link.store = none → t.link = { s.link with response := responseOf (reqCode .readPage) .none [] t })
      ∧ (∀ a, s.link.store = some a →
          (a.data.length ≤ 34 → page = 0 → t.link = { s.link with response := responseOf a.code a.result a.data t })
          ∧ (34 < a.data.length → page < (a.data.length + 31) / 32 →
              t.link = { s.link with
                response := responseOf a.code a.result
                  (u8 page ++ u8 ((a.data.length + 31) / 32) ++ (a.data.drop (32 * page)).take 32) t })
          ∧ ((if a.data.length ≤ 34 then 1 else (a.data.length + 31) / 32) ≤ page →
              t.link = { s.link with response := responseOf (reqCode .readPage) .badValue [] t })))
    ∧ (∃ t, exec .ident s = .next t
      ∧ AnsweredOnly .ident .accepted [0x01#8, 0x57#8, 0x40#8, 0x28#8, 0x00#8, 0x03#8] s t)
    ∧ (∃ t, exec .readEvents s = .next t
      ∧ AnsweredOnly .readEvents .done (u16 s.link.flags.toNat ++ u16 s.link.mask.toNat) s t)
    ∧ (∀ set : BitVec 16, ∃ t, exec (.clearEvents set) s = .next t ∧ OnlyChanges [.link] s t
      ∧ (∀ k < 10, t.link.flags.getLsbD k = (s.link.flags.getLsbD k && !set.getLsbD k))
      ∧ Answered .clearEvents .done (u16 t.link.flags.toNat) { s.link with flags := t.link.flags } t)
    ∧ (∀ set : BitVec 16, ∃ t, exec (.setEventMask set) s = .next t ∧ OnlyChanges [.link] s t
      ∧ (∀ k < 10, t.link.mask.getLsbD k = set.getLsbD k)
      ∧ Answered .setEventMask .done (u16 t.link.mask.toNat) { s.link with mask := t.link.mask } t)

/-- READ_PARAMETER and SET_PARAMETER (R196, R197): the answers, the order of the three checks, and a value written
alone when no owner acts on it at once. The parameters an owner does act on are `n_still` (R34), `u_max`, `A_adh`,
`A_rack`, `v_radio_loss` and `v_degraded`. A NOT_FOUND answer carries zeros (log 18). -/
def Obligations.Parameters : Prop :=
  (∀ (n : Nat) (s : State), ∃ t, exec (.readParameter n) s = .next t
    ∧ (paramRow n = none → AnsweredOnly .readParameter .notFound (noRecord 16) s t)
    ∧ (∀ r, paramRow n = some r →
        AnsweredOnly .readParameter .accepted
          (u32 (paramGet n s.params) ++ u32 r.low ++ u32 r.high ++ u32 r.default) s t))
  ∧ (∀ (n v : Nat) (s : State), ∃ t, exec (.setParameter n v) s = .next t
    ∧ (paramRow n = none → AnsweredOnly .setParameter .notFound [] s t)
    ∧ (∀ r, paramRow n = some r →
        (s.sup.mode ≠ .standby → AnsweredOnly .setParameter .mode [] s t)
        ∧ (s.sup.mode = .standby → (v < r.low ∨ r.high < v) → AnsweredOnly .setParameter .badValue [] s t)
        ∧ (s.sup.mode = .standby →
            ((n = 9 ∧ v < s.params.markTol) ∨ (n = 11 ∧ s.params.uMax < v)
              ∨ (n = 24 ∧ s.params.dvEb ≤ v) ∨ (n = 25 ∧ v ≤ s.params.dvSb)) →
            AnsweredOnly .setParameter .badValue [] s t)
        ∧ (s.sup.mode = .standby → r.low ≤ v → v ≤ r.high →
            (n = 9 → s.params.markTol ≤ v) → (n = 11 → v ≤ s.params.uMax) →
            (n = 24 → v < s.params.dvEb) → (n = 25 → s.params.dvSb < v) →
              (paramGet n s.params = v → AnsweredOnly .setParameter .done [] s t)
              ∧ (paramGet n s.params ≠ v →
                  paramGet n t.params = v
                  ∧ (∀ m, m ≠ n → paramGet m t.params = paramGet m s.params)
                  ∧ OnlyChanges [.params, .link, .window, .line, .odo, .restr] s t
                  ∧ (n ∉ [3, 9, 13, 14, 17, 18] → OnlyChanges [.params, .link] s t
                      ∧ Answered .setParameter .done [] s.link t)
                  ∧ (n = 3 → OnlyChanges [.params, .link, .odo] s t ∧ Answered .setParameter .done [] s.link t
                      ∧ t.odo = { s.odo with quiet := min s.odo.quiet v })
                  ∧ (n = 9 → OnlyChanges [.params, .link, .odo] s t ∧ Answered .setParameter .done [] s.link t
                      ∧ t.odo = if v * 1000 < s.odo.uUm then { s.odo with uUm := v * 1000, carry := 0 } else s.odo)
                  ∧ (n = 13 ∨ n = 14 → OnlyChanges [.params, .link, .window, .line] s t
                      ∧ t.window = derivedWindow t
                      ∧ t.line = (deriveWindow (s.setParams t.params)).line
                      ∧ Answered .setParameter .done [] (deriveWindow (s.setParams t.params)).link t)
                  ∧ (n = 17 ∨ n = 18 → OnlyChanges [.params, .link, .restr] s t
                      ∧ (∀ e, s.restr.table[if n = 17 then 30 else 31]? = some (some e) →
                          t.restr.table = s.restr.table.set (if n = 17 then 30 else 31) (some { e with limit := v })
                          ∧ t.restr.clock = s.restr.clock ∧ t.restr.second = s.restr.second
                          ∧ Logged ⟨.updated, none, some (e.issuer, e.id, e.kind, if n = 17 then 30 else 31),
                              s.restr.clock⟩ s.restr t.restr
                          ∧ Answered .setParameter .done [] (flagged .restrictionChanged s.link) t)
                      ∧ (s.restr.table[if n = 17 then 30 else 31]? = some none →
                          t.restr = s.restr ∧ Answered .setParameter .done [] s.link t))))))

/-- RESET: refused with MOVING without standstill; at standstill the soft reset of every block (R198, R4, R17, R27,
R53, R58, R68, R76, R102, R109, R114, R120, R136, R140, R148, R163, R188, R189). The fields a reset keeps are said to be
kept. What the Odometry Unit's last sample and its capture record keep is the model's choice (log 11), and so is the
brake cause set left empty (log 9). -/
def Obligations.SoftReset : Prop :=
  ∀ s : State, ∃ t, exec .reset s = .next t
    ∧ (s.odo.standstill = false → AnsweredOnly .reset .moving [] s t)
    ∧ (s.odo.standstill = true →
        OnlyChanges [.link, .window, .staging, .odo, .restr, .sup, .brakes, .doors, .radio, .tele, .analog] s t
        ∧ t.link = { s.link with rx := [], rxBits := [], rxCount := 0, shifted := 0,
                                 store := none, flags := flagBit .resetDone, secCursor := 0, resCursor := 0,
                                 response := responseOf (reqCode .reset) .done [] t }
        ∧ t.sup = Supervisor.reset ∧ t.staging = .idle ∧ t.window = derivedWindow t
        ∧ t.odo.state = s.odo.state ∧ t.odo.fault = s.odo.fault ∧ t.odo.pUm = s.odo.pUm ∧ t.odo.uUm = s.odo.uUm
        ∧ t.odo.carry = s.odo.carry ∧ t.odo.cur = s.odo.cur ∧ t.odo.lower = s.odo.lower ∧ t.odo.upper = s.odo.upper
        ∧ t.odo.nextLower = s.odo.nextLower ∧ t.odo.nextUpper = s.odo.nextUpper ∧ t.odo.source = s.odo.source
        ∧ t.odo.standstill = true ∧ t.odo.travel = 0 ∧ t.odo.sample.v = 0
        ∧ t.odo.pinRaw = 0#32 ∧ t.odo.whlRaw = 0#32 ∧ t.odo.pinErr = 0 ∧ t.odo.whlErr = 0
        ∧ t.odo.report = none ∧ t.odo.cal = none ∧ t.odo.accPin = 0 ∧ t.odo.accWhl = 0 ∧ t.odo.lastDiff = 0
        ∧ t.odo.causes = 0#16 ∧ t.odo.quiet = s.params.nStill ∧ t.odo.period = s.params.tOdo
        ∧ t.odo.sampleTimer = s.params.tOdo ∧ t.odo.sample.motion = .none ∧ t.odo.capture = s.odo.capture
        ∧ t.odo.pinPhase = s.odo.pinPhase ∧ t.odo.whlPhase = s.odo.whlPhase
        ∧ t.restr.clock = s.restr.clock ∧ t.restr.second = s.restr.second ∧ t.restr.log = []
        ∧ t.restr.overflow = 0 ∧ t.restr.table.length = 32
        ∧ (∀ k < 30, t.restr.table[k]? = some none)
        ∧ (t.restr.table[30]? = some (if s.line.state = .sealed then some (partRestriction .radioLoss s) else none))
        ∧ (t.restr.table[31]? = some (if s.line.state = .sealed ∧ s.odo.state = .degraded
            then some (partRestriction .odoDegraded s) else none))
        ∧ t.brakes.supervisor = ⟨100, .held⟩ ∧ t.brakes.emergency = true ∧ t.brakes.effort = 100
        ∧ t.brakes.rack = .applying ∧ t.brakes.rackTimer = some s.params.tApp ∧ t.brakes.rackFault = none
        ∧ t.brakes.tperm = false ∧ t.brakes.sbDeficit = false ∧ t.brakes.deficitTimer = none
        ∧ t.brakes.radio = ⟨0, .none⟩ ∧ t.brakes.host = ⟨0, .none⟩ ∧ t.brakes.odometry = ⟨0, .none⟩
        ∧ t.brakes.brake = ⟨0, .none⟩ ∧ t.brakes.doors.emergency = .none
        ∧ t.brakes.doors.level = (if t.doors.closed = true then 0 else s.params.sHold)
        ∧ t.brakes.ain0 = .none ∧ t.brakes.ain1 = none ∧ t.brakes.causes = 0#16
        ∧ (t.doors.closed = true ↔ ∀ id, (getLeaf t.doors.leaves id).state = .locked)
        ∧ (∀ id, let l := getLeaf s.doors.leaves id
            getLeaf t.doors.leaves id =
              { Leaf.reset with
                state := if l.cls = true ∧ l.lks = true then .locked else .halted,
                cls := l.cls, lks := l.lks, ops := l.ops, pb := l.pb })
        ∧ t.doors.left = SideRelease.reset ∧ t.doors.right = SideRelease.reset ∧ t.doors.causes = 0#16
        ∧ t.radio = { Radio.reset with channels := s.radio.channels, chsel := s.radio.chsel }
        ∧ t.tele = { s.tele with queue := [], lastStation := 0, heldStation := none, counts := Counts.reset }
        ∧ t.analog.mode = s.analog.mode ∧ t.analog.emphasis = s.analog.emphasis ∧ t.analog.single = false
        ∧ t.analog.passes = 0 ∧ t.analog.pos = 0
        ∧ t.analog.channels = s.analog.channels.map (fun c =>
            { Channel.reset with rawLo := c.rawLo, engLo := c.engLo, rawHi := c.rawHi, engHi := c.engHi,
                                 railCheck := c.railCheck, low := c.low, high := c.high }))

/-- Power-on reset puts every block at its power-on values, whatever the state before; the input pins keep the levels
the field gives them, and the leaves and car closed are derived from those (R199, R29, R120, R140). The brake cause set
and the capture record at 0 are the model's choice (log 9, log 10). The outputs at every moment are what the blocks give
them, and while RSTN is held active they stand off, ATTN high and CHSEL at 0 (R119, R121, R144, R195; log 40). -/
def Obligations.PowerOnReset : Prop :=
  (∀ s : State, ∃ t, exec .powerOnReset s = .next t
    ∧ t.params = ({} : Params) ∧ t.link = Link.reset ∧ t.line = LineTable.reset
    ∧ t.window = List.replicate 32 none ∧ t.staging = .idle ∧ t.restr = Restrictions.reset
    ∧ t.sup = Supervisor.reset ∧ t.brakes = Brakes.reset ∧ t.radio = Radio.reset ∧ t.tele = Telegrams.reset
    ∧ t.analog = Analog.reset
    ∧ t.odo = { Odometry.reset with pinPhase := s.odo.pinPhase, whlPhase := s.odo.whlPhase }
    ∧ t.doors.left = SideRelease.reset ∧ t.doors.right = SideRelease.reset ∧ t.doors.causes = 0#16
    ∧ t.doors.closed = carClosed t.doors.leaves
    ∧ (∀ id, let l := getLeaf s.doors.leaves id
        (getLeaf t.doors.leaves id).state = (if l.cls = true ∧ l.lks = true then .locked else .halted)
        ∧ (getLeaf t.doors.leaves id).cls = l.cls ∧ (getLeaf t.doors.leaves id).lks = l.lks
        ∧ (getLeaf t.doors.leaves id).ops = l.ops ∧ (getLeaf t.doors.leaves id).pb = l.pb
        ∧ (getLeaf t.doors.leaves id).timer = none ∧ (getLeaf t.doors.leaves id).fault = none
        ∧ (getLeaf t.doors.leaves id).closePending = false))
  ∧ (∀ s : State,
    pinsAt false s = ⟨true, 0, false, false, List.replicate 6 (false, false, false), false, false, [], 0⟩
    ∧ (let x := pinsAt true s
      (x.attn = false ↔ ∃ f : EventFlag, s.link.flags.getLsbD (flagIndex f) = true
          ∧ s.link.mask.getLsbD (flagIndex f) = true)
      ∧ x.sbpwm = s.brakes.effort ∧ x.tperm = s.brakes.tperm
      ∧ (x.rbcoil = true ↔ s.brakes.rack = .releasing ∨ s.brakes.rack = .released)
      ∧ x.rstb = s.radio.rstb ∧ x.rtxen = s.radio.rtxen ∧ x.rtxd = s.radio.rtxd ∧ x.chsel = s.radio.chsel
      ∧ x.drives = [LeafId.l1, .l2, .l3, .r4, .r5, .r6].map (fun id =>
          let st := (getLeaf s.doors.leaves id).state
          (st == .opening || st == .reopening, st == .closing,
            st == .unlocking || st == .unlocked || st == .opening || st == .opened || st == .closing
              || st == .reopening))))

/-- An event flag that is set stays set, whatever is commanded, until CLEAR_EVENTS names it or a reset sets the flags
anew (R193). -/
def Obligations.FlagsStaySet : Prop :=
  ∀ (c : Instr) (s t : State) (f : EventFlag), exec c s = .next t →
    s.link.flags.getLsbD (flagIndex f) = true → t.link.flags.getLsbD (flagIndex f) = false →
      c = .powerOnReset ∨ (c = .reset ∧ s.odo.standstill = true)
        ∨ ∃ set : BitVec 16, c = .clearEvents set ∧ set.getLsbD (flagIndex f) = true

/-! ### The Line Description -/

/-- LINE_LOAD_BEGIN and LINE_LOAD_END (R5, R7, R27, R65, R66, R68). The first, in STANDBY, empties the line, the
restrictions, the staged update, the position and the window and puts the section cursor to 0; in any other mode it
answers MODE. The second, after its checks, takes the CRC over the records in link form as line check, seals the line and
inserts each part-issued entry whose cause holds over the whole line; the table is the empty one that LINE_LOAD_BEGIN
leaves. That the last sample and the capture record are kept at LINE_LOAD_BEGIN (log 11, log 42) and that BAD_STATE is
answered before MODE where both apply (log 41) are the model's choices. -/
def Obligations.LineLoad : Prop :=
  (∀ s : State, ∃ t, exec .lineLoadBegin s = .next t
    ∧ (s.sup.mode ≠ .standby → AnsweredOnly .lineLoadBegin .mode [] s t)
    ∧ (s.sup.mode = .standby →
        OnlyChanges [.link, .line, .window, .staging, .odo, .restr, .tele] s t
        ∧ t.line = { s.line with state := .loading, records := [], check := 0#16 }
        ∧ (∀ o ∈ t.restr.table, o = none) ∧ t.restr.clock = s.restr.clock ∧ t.restr.second = s.restr.second
        ∧ ((∃ e, some e ∈ s.restr.table) →
            t.restr.table.length = 32 ∧ t.restr.overflow = 0
            ∧ t.restr.log = [⟨.tableCleared, none, none, s.restr.clock⟩]
            ∧ Answered .lineLoadBegin .done [] { flagged .restrictionChanged s.link with secCursor := 0 } t)
        ∧ ((∀ e, some e ∉ s.restr.table) →
            t.restr = s.restr ∧ Answered .lineLoadBegin .done [] { s.link with secCursor := 0 } t)
        ∧ t.staging = .idle ∧ t.tele = { s.tele with heldStation := none }
        ∧ t.window = List.replicate 32 none
        ∧ t.odo = { s.odo with
            state := .unset, fault := none, pUm := 0, uUm := 0, carry := 0, cur := none, lower := none, upper := none,
            nextLower := none, nextUpper := none, source := .wheel, accPin := 0, accWhl := 0, cal := none }))
  ∧ (∀ s : State, ∃ t, exec .lineLoadEnd s = .next t
    ∧ (if s.line.state ≠ .loading ∨ s.line.records = [] then AnsweredOnly .lineLoadEnd .badState [] s t
      else if s.sup.mode ≠ .standby then AnsweredOnly .lineLoadEnd .mode [] s t
      else
        OnlyChanges [.link, .line, .restr] s t
        ∧ t.line = { s.line with state := .sealed, check := crc16 (s.line.records.flatMap sectionBytes) }
        ∧ (s.restr.table = List.replicate 32 none →
            (∀ k < 30, t.restr.table[k]? = some none)
            ∧ t.restr.table[30]? = some (if s.radio.link = .lost then some (partRestriction .radioLoss t) else none)
            ∧ t.restr.table[31]? =
                some (if s.odo.state = .degraded then some (partRestriction .odoDegraded t) else none))
        ∧ (∃ n, Answered .lineLoadEnd .done [] { s.link with flags := n } t)))

/-- The checks of a record against the section record table, its platform and its mark, with the normalised record that
is stored when they pass (R6, R18, R201, section 1.1); and APPEND_SECTION: the five checks in their order, and the record
that passes them stored at the old record count (R6). -/
def Obligations.AppendSection : Prop :=
  (∀ (w : SectionWire) (r : SectionRec), sectionOfWire w = some r ↔
    (w.number ≤ 65535 ∧ w.start ≤ 67108863 ∧ 10000 ≤ w.length ∧ w.length ≤ 2000000
      ∧ -480 ≤ w.gradient ∧ w.gradient ≤ 480 ∧ w.kind ≤ 2 ∧ w.limitUp ≤ 600 ∧ w.limitDown ≤ 600 ∧ w.cell ≤ 15
      ∧ (w.platformPresent = true →
          1 ≤ w.side ∧ w.side ≤ 3 ∧ 1 ≤ w.platformId ∧ w.platformId ≤ 255 ∧ w.platformBegin < w.platformEnd
            ∧ w.platformEnd ≤ 67108863)
      ∧ (w.markPresent = true → w.start ≤ w.mark ∧ w.mark < w.start + w.length ∧ w.mark ≤ 67108863))
    ∧ r.number = w.number ∧ r.start = w.start ∧ r.length = w.length ∧ r.gradient = w.gradient
    ∧ kindCode r.kind = w.kind ∧ r.limitUp = w.limitUp ∧ r.limitDown = w.limitDown ∧ r.cell = w.cell
    ∧ r.tunnel = w.tunnel ∧ r.mark = (if w.markPresent = true then some w.mark else none)
    ∧ r.platform.isSome = w.platformPresent
    ∧ (∀ p, r.platform = some p →
        p.id = w.platformId ∧ sideCode p.side = w.side ∧ p.lo = w.platformBegin ∧ p.hi = w.platformEnd))
  ∧ (∀ (w : SectionWire) (s : State), ∃ t, exec (.appendSection w) s = .next t
    ∧ (let rs := s.line.records
      if s.line.state ≠ .loading then AnsweredOnly .appendSection .badState [] s t
      else if s.sup.mode ≠ .standby then AnsweredOnly .appendSection .mode [] s t
      else if 256 ≤ rs.length then AnsweredOnly .appendSection .tableFull [] s t
      else if ∃ l, rs.getLast? = some l ∧ w.start ≠ l.start + l.length then
        AnsweredOnly .appendSection .notContiguous [] s t
      else if sectionOfWire w = none ∨ 67108864 < w.start + w.length
          ∨ (∃ l, rs.getLast? = some l ∧ w.number ≤ l.number) then
        AnsweredOnly .appendSection .badValue [] s t
      else
        ∃ r, sectionOfWire w = some r ∧ OnlyChanges [.link, .line] s t
          ∧ t.line = { s.line with records := rs ++ [r] } ∧ Answered .appendSection .accepted [] s.link t))

/-- The reads of the line, the section cursor, the window and the Staging Buffer (R8, R9, R10, R16, R26): what each
answers, and that it moves nothing but the cursor it owns. Where an answer carries no record its bytes are 0 (log 18);
widths the spec does not list are the model's (log 19); a hold timer that does not run is sent as four bytes 0xFF (log 20);
READ_LINE and READ_STAGE answer ACCEPTED (log 44). -/
def Obligations.LineReads : Prop :=
  ∀ s : State,
    (∃ t, exec .readLine s = .next t
      ∧ AnsweredOnly .readLine .accepted
          (u8 (lineStateCode s.line.state) ++ u16 s.line.records.length
            ++ u32 (s.line.records.head?.elim 0 (·.start))
            ++ u32 (s.line.records.getLast?.elim 0 (fun r => r.start + r.length))
            ++ u16 s.line.check.toNat
            ++ (match s.line.update with
                | none => u8 0 ++ u16 0
                | some (.noMargin n) => u8 1 ++ u16 n
                | some (.commitDone id) => u8 2 ++ u16 id
                | some (.commitTimeout id) => u8 3 ++ u16 id)) s t)
    ∧ (∀ i, ∃ t, exec (.readSection i) s = .next t
      ∧ (∀ r, s.line.records[i]? = some r → AnsweredOnly .readSection .accepted (sectionBytes r) s t)
      ∧ (s.line.records.length ≤ i → AnsweredOnly .readSection .notFound (noRecord 31) s t))
    ∧ (∃ t, exec .readSectionNext s = .next t ∧ OnlyChanges [.link] s t
      ∧ (∀ r, s.line.records[s.link.secCursor]? = some r →
          Answered .readSectionNext .accepted (sectionBytes r)
            { s.link with secCursor := s.link.secCursor + 1 } t)
      ∧ (s.line.records.length ≤ s.link.secCursor →
          Answered .readSectionNext .endOfWalk (noRecord 31) s.link t))
    ∧ (∀ i, ∃ t, exec (.setSectionCursor i) s = .next t ∧ OnlyChanges [.link] s t
      ∧ (i ≤ 256 → Answered .setSectionCursor .accepted [] { s.link with secCursor := i } t)
      ∧ (256 < i → Answered .setSectionCursor .badValue [] s.link t))
    ∧ (∀ k : Int, ∃ t, exec (.readWindow k) s = .next t
      ∧ ((k < -8 ∨ 23 < k) → AnsweredOnly .readWindow .badValue (noRecord 37) s t)
      ∧ (∀ e r, -8 ≤ k → k ≤ 23 → s.window[(k + 8).toNat]? = some (some e) → s.line.records[e.index]? = some r →
          AnsweredOnly .readWindow .accepted
            (sectionBytes r ++ u8 e.index ++ speed16 e.limit ++ u16 e.aS ++ flag8 e.noMargin) s t)
      ∧ (-8 ≤ k → k ≤ 23 → s.window[(k + 8).toNat]? = some none →
          AnsweredOnly .readWindow .none (noRecord 37) s t))
    ∧ (∃ t, exec .readStage s = .next t
      ∧ (s.staging = .idle → AnsweredOnly .readStage .accepted
          (u8 0 ++ noRecord 8 ++ [0xFF#8, 0xFF#8, 0xFF#8, 0xFF#8]) s t)
      ∧ (∀ u, s.staging = .filling u → AnsweredOnly .readStage .accepted
          (u8 1 ++ u16 u.id ++ u8 (ownerCode u.owner) ++ u16 u.first ++ u8 u.count ++ u16 (receivedMask u)
            ++ [0xFF#8, 0xFF#8, 0xFF#8, 0xFF#8]) s t)
      ∧ (∀ u n, s.staging = .held u n → AnsweredOnly .readStage .accepted
          (u8 2 ++ u16 u.id ++ u8 (ownerCode u.owner) ++ u16 u.first ++ u8 u.count ++ u16 (receivedMask u)
            ++ u32 (n : Int)) s t))

/-- The Lookahead Window after a derivation: the section each offset names, its static limit, and the effective
deceleration less gravity that never goes below 0 (R11, R12, R13); and the line update record and LINE_UPDATE of the
first NO_MARGIN section, in offset order, that comes newly into view (R15). -/
def Obligations.WindowDerived : Prop :=
  (∀ s : State,
    let t := deriveWindow s
    let fresh := fun (e : WinEntry) => e.noMargin = true ∧ ∀ f, some f ∈ s.window → f.index = e.index → f.noMargin = false
    (∀ (k : Nat) (e : WinEntry) (r : SectionRec), t.window[k]? = some (some e) → fresh e →
        (∀ j < k, ∀ f, t.window[j]? = some (some f) → ¬ fresh f) → s.line.records[e.index]? = some r →
        t.line = { s.line with update := some (.noMargin r.number) } ∧ t.link = flagged .lineUpdate s.link)
    ∧ ((∀ e, some e ∈ t.window → ¬ fresh e) → t.line = s.line ∧ t.link = s.link))
  ∧ ∀ (s : State) (k : Int), -8 ≤ k → k ≤ 23 →
    OnlyChanges [.window, .line, .link] s (deriveWindow s)
    ∧ (s.odo.cur = none → (deriveWindow s).window[(k + 8).toNat]? = some none)
    ∧ (∀ c, s.odo.cur = some c →
        let i : Int := if s.sup.dir = .down then c - k else c + k
        ((i < 0 ∨ (s.line.records.length : Int) ≤ i) → (deriveWindow s).window[(k + 8).toNat]? = some none)
        ∧ (∀ r, 0 ≤ i → s.line.records[i.toNat]? = some r →
            ∃ e, (deriveWindow s).window[(k + 8).toNat]? = some (some e) ∧ e.index = i.toNat
              ∧ e.limit = ⌊((if s.sup.dir = .down then r.limitDown else r.limitUp : ℕ) : ℚ) * 250 / 9⌋₊
              ∧ (let capability : Int := if r.kind = .rack then s.params.aRack else s.params.aAdh
                let descent : Int := if s.sup.dir = .down then r.gradient else -r.gradient
                let gravity : Int := if 0 < descent then ⌈((9807 * descent : ℤ) : ℚ) / 1000⌉ else 0
                (e.aS : Int) = max 0 (capability - gravity) ∧ (e.noMargin = true ↔ capability - gravity < 0))))

/-- A staging block (R18, R19) in the order of its checks, for STAGE_SECTION (owner CAR) as for SECTION_BLOCK (owner
VALLEY): what the Staging Buffer then holds, and the request's answer. -/
def Obligations.StagingBlocks : Prop :=
  (∀ (owner : Owner) (b : BlockWire) (s : State),
    let res := (stageBlock owner b s).1
    let t := (stageBlock owner b s).2
    OnlyChanges [.staging] s t ∧ (res ≠ .accepted → t = s)
    ∧ (if s.line.state ≠ .sealed then res = .noLine
      else if owner = .car ∧ s.sup.mode ≠ .standby ∧ s.sup.mode ≠ .depot then res = .mode
      else if b.id = 0 ∨ 65535 < b.id ∨ b.count = 0 ∨ 16 < b.count ∨ 65535 < b.first + b.count - 1 ∨ b.count ≤ b.index
          ∨ b.record.number ≠ b.first + b.index ∨ sectionOfWire b.record = none then res = .badValue
      else
        ∃ r, sectionOfWire b.record = some r ∧
          (let opened : Staging := .filling
            ⟨b.id, b.first, b.count, owner, (List.replicate b.count none).set b.index (some r)⟩
          match s.staging with
          | .idle => res = .accepted ∧ t.staging = opened
          | .held _ _ => res = .busy
          | .filling u =>
            if u.owner ≠ owner then res = .busy
            else if u.id ≠ b.id then res = .accepted ∧ t.staging = opened
            else if u.first ≠ b.first ∨ u.count ≠ b.count then res = .badValue
            else res = .accepted ∧ t.staging = .filling { u with records := u.records.set b.index (some r) })))
  ∧ (∀ (b : BlockWire) (s : State), ∃ t, exec (.stageSection b) s = .next t
      ∧ OnlyChanges [.link, .staging] s t ∧ t.staging = (stageBlock .car b s).2.staging
      ∧ Answered .stageSection (stageBlock .car b s).1 [] s.link t)

/-- A commit (R20, R21, R22, R23): its checks in order, the discard at the first check of an open update that fails, the
hold while a staged section lies in the locked span, and the application that replaces limits, cell, tunnel, platform
and mark alone, derives the window anew, and hands the Radio Frame Controller over when the cell of the current section
changes, and not when it stays (R22, R157). The request's answer is that of the commit. Which sections lie in the locked
span (R21), and the re-test of a held commit, which applies it when it is clear and acknowledges the valley's (R23,
R170). RTXEN and RTXD stay as the slot in progress began at a handover (log 43). -/
def Obligations.Commits : Prop :=
  (∀ (owner : Owner) (id crc : Nat) (s : State),
    let res := (commitUpdate owner id crc s).1
    let t := (commitUpdate owner id crc s).2
    OnlyChanges [.line, .window, .staging, .link, .radio, .tele] s t
    ∧ (s.staging = .idle → res = .notFound ∧ t = s)
    ∧ (∀ u n, s.staging = .held u n → res = .busy ∧ t = s)
    ∧ (∀ u, s.staging = .filling u →
        let staged := u.records.filterMap (fun o => o)
        let discarded := OnlyChanges [.staging, .tele] s t ∧ t.staging = .idle
        if owner = .car ∧ s.sup.mode ≠ .standby ∧ s.sup.mode ≠ .depot then res = .mode ∧ t = s
        else if u.owner ≠ owner then res = .busy ∧ t = s
        else if id ≠ u.id then res = .notFound ∧ discarded
        else if none ∈ u.records then res = .incomplete ∧ discarded
        else if (crc16 (staged.flatMap sectionBytes)).toNat ≠ crc then res = .check ∧ discarded
        else if ∃ r ∈ staged, ∀ x ∈ s.line.records, x.number ≠ r.number then res = .unknownSection ∧ discarded
        else if ∃ r ∈ staged, ∃ x ∈ s.line.records, x.number = r.number ∧ ¬ sameGeometry x r then
          res = .geometry ∧ discarded
        else if ∃ r ∈ staged, inLockedSpan s r.number = true then
          res = .held ∧ t = s.setStaging (.held u s.params.tCommit)
        else
          res = .done ∧ t.staging = .idle ∧ t.line.update = some (.commitDone u.id)
          ∧ t.line.state = s.line.state ∧ t.line.check = crc16 (t.line.records.flatMap sectionBytes)
          ∧ t.link.flags.getLsbD (flagIndex .lineUpdate) = true ∧ t.window = derivedWindow t ∧ CellTold s t
          ∧ t.tele = { s.tele with heldStation := none }
          ∧ List.Forall₂ (fun x y => sameGeometry x y
              ∧ ((∀ r ∈ staged, r.number ≠ x.number) → y = x)
              ∧ (∀ r, stagedFor u x.number = some r →
                  y = { r with number := x.number, start := x.start, length := x.length,
                               gradient := x.gradient, kind := x.kind }))
              s.line.records t.line.records))
  ∧ (∀ (id crc : Nat) (s : State), ∃ t, exec (.commitStage id crc) s = .next t
      ∧ OnlyChanges [.line, .window, .staging, .link, .radio, .tele] s t
      ∧ t.staging = (commitUpdate .car id crc s).2.staging ∧ t.line = (commitUpdate .car id crc s).2.line
      ∧ t.radio = (commitUpdate .car id crc s).2.radio ∧ t.tele = (commitUpdate .car id crc s).2.tele
      ∧ t.window = (commitUpdate .car id crc s).2.window
      ∧ Answered .commitStage (commitUpdate .car id crc s).1 [] (commitUpdate .car id crc s).2.link t)
  ∧ (∀ (s : State) (number : Nat), inLockedSpan s number = true ↔
      (s.sup.mode = .line ∨ s.sup.mode = .tripped)
      ∧ ∃ x ∈ s.line.records, x.number = number
        ∧ (let lo : Int := (s.odo.pUm / 1000 : Nat) - (s.params.L : Int) - ((s.odo.uUm + 999) / 1000 : Nat)
          let hi : Int := (s.odo.pUm / 1000 : Nat) + ((s.odo.uUm + 999) / 1000 : Nat)
          let d : Int := s.params.lockDistance
          (x.start : Int) ≤ (if s.sup.dir = .down then hi else hi + d)
            ∧ (if s.sup.dir = .up then lo else lo - d) < ((x.start + x.length : Nat) : Int)))
  ∧ (∀ (s : State) (u : StagedUpdate) (n : Nat), s.staging = .held u n →
      let t := retestHeld s
      OnlyChanges [.line, .window, .staging, .link, .radio, .tele] s t
      ∧ ((∃ r, some r ∈ u.records ∧ inLockedSpan s r.number = true) → t = s)
      ∧ ((∀ r, some r ∈ u.records → inLockedSpan s r.number = false) →
          t.staging = .idle ∧ t.line.update = some (.commitDone u.id) ∧ t.line.state = s.line.state
          ∧ t.line.records = s.line.records.map (fun x => match stagedFor u x.number with
              | none => x
              | some r => { r with number := x.number, start := x.start, length := x.length, gradient := x.gradient,
                                   kind := x.kind })
          ∧ t.line.check = crc16 (t.line.records.flatMap sectionBytes) ∧ t.window = derivedWindow t
          ∧ t.link.flags.getLsbD (flagIndex .lineUpdate) = true
          ∧ (u.owner = .car ∨ s.tele.heldStation = none →
              t.tele = { s.tele with heldStation := none } ∧ CellTold s t)
          ∧ (∀ station, u.owner = .valley → s.tele.heldStation = some station →
              ∃ m, Acked .sectionCommit u.id .done station m t ∧ m.tele = { s.tele with heldStation := none }
                ∧ m.line = t.line ∧ CellTold s m)))

/-- ABORT_STAGE (owner CAR) and the expiry of the hold timer (R24, R25): an update is discarded by its owner's abort of
its id, and a held one by the expiry, with the line update record and LINE_UPDATE, and the final TIMEOUT acknowledgement
of a commit held for the valley (R170). With no commit held the timer does not run, and its expiry changes nothing: the
model's choice (log 13). -/
def Obligations.StagingEnds : Prop :=
  (∀ (id : Nat) (s : State), ∃ t, exec (.abortStage id) s = .next t
    ∧ (s.staging = .idle → AnsweredOnly .abortStage .notFound [] s t)
    ∧ (∀ u, (s.staging = .filling u ∨ ∃ n, s.staging = .held u n) →
        (u.owner = .valley → AnsweredOnly .abortStage .notOwner [] s t)
        ∧ (u.owner = .car → u.id ≠ id → AnsweredOnly .abortStage .notFound [] s t)
        ∧ (u.owner = .car → u.id = id → OnlyChanges [.link, .staging, .tele] s t ∧ t.staging = .idle
            ∧ t.tele = { s.tele with heldStation := none } ∧ Answered .abortStage .done [] s.link t)))
  ∧ (∀ s : State, ∃ t, exec .holdTimerExpiry s = .next t
      ∧ OnlyChanges [.line, .staging, .link, .tele, .radio] s t
      ∧ ((∀ u n, s.staging ≠ .held u n) → t = s)
      ∧ (∀ u n, s.staging = .held u n →
          t.staging = .idle ∧ t.line = { s.line with update := some (.commitTimeout u.id) }
          ∧ t.link.flags.getLsbD (flagIndex .lineUpdate) = true
          ∧ (u.owner = .car → t.tele.queue = s.tele.queue ∧ t.radio = s.radio
              ∧ t.link = flagged .lineUpdate s.link)
          ∧ (∀ station, u.owner = .valley → s.tele.heldStation = some station →
              ∃ m, Acked .sectionCommit u.id .timeout station m t ∧ m.tele = { s.tele with heldStation := none }
                ∧ m.radio = s.radio ∧ m.link = flagged .lineUpdate s.link)))

/-- Once sealed, the geometry of the line is never altered: no command but power-on reset, LINE_LOAD_BEGIN and
APPEND_SECTION changes the number, start, length, gradient or kind of any stored record (R7, R22). -/
def Obligations.GeometryKept : Prop :=
  ∀ (c : Instr) (s t : State), exec c s = .next t →
    c ≠ .powerOnReset → c ≠ .lineLoadBegin → (∀ w, c ≠ .appendSection w) →
      List.Forall₂ sameGeometry s.line.records t.line.records

/-! ### Position, Speed and the Rack -/

/-- QUADRATURE_COUNT: the decoder's count and phase, the net wheel count of a calibration reference, and for a count of
the active source the sample travel, the position and the uncertainty (R29, R31, R32, R44). At an uncertainty that
reaches its bound exactly the carry is set to 0: model's choice, log 7. -/
def Obligations.QuadratureCounts : Prop :=
  ∀ (sensor : Sensor) (x : Sense) (s : State), ∃ t, exec (.quadratureCount sensor x) s = .next t
    ∧ OnlyChanges [.odo, .restr, .brakes, .link, .line, .window, .staging, .radio, .tele] s t
    ∧ t.odo.pinErr = s.odo.pinErr ∧ t.odo.whlErr = s.odo.whlErr
    ∧ t.odo.pinRaw = (if sensor = .pinion then s.odo.pinRaw + (if x = .up then 1#32 else -1#32) else s.odo.pinRaw)
    ∧ t.odo.whlRaw = (if sensor = .wheel then s.odo.whlRaw + (if x = .up then 1#32 else -1#32) else s.odo.whlRaw)
    ∧ t.odo.pinPhase = (if sensor = .pinion then phaseTable x s.odo.pinPhase else s.odo.pinPhase)
    ∧ t.odo.whlPhase = (if sensor = .wheel then phaseTable x s.odo.whlPhase else s.odo.whlPhase)
    ∧ t.odo.sample = s.odo.sample ∧ t.odo.standstill = s.odo.standstill ∧ t.odo.report = s.odo.report
    ∧ t.odo.capture = s.odo.capture ∧ t.odo.sampleTimer = s.odo.sampleTimer
    ∧ t.odo.cal.map (fun y => (y.pos, y.net)) =
        s.odo.cal.map (fun y => (y.pos,
          y.net + if sensor = .wheel then (match x with | .up => (1 : Int) | .down => -1) else 0))
    ∧ (if s.odo.source = (match sensor with | .pinion => Source.pinion | .wheel => Source.wheel) then
        t.odo.travel = s.odo.travel + signedWeight sensor x s.params
        ∧ (s.odo.state = .unset →
            t.odo.pUm = s.odo.pUm ∧ t.odo.uUm = s.odo.uUm ∧ t.odo.carry = s.odo.carry ∧ t.odo.cur = s.odo.cur
              ∧ t.odo.state = .unset)
        ∧ (s.odo.state ≠ .unset →
            let grown := s.odo.carry + (match sensor with
              | .pinion => s.params.wPin * s.params.ePin
              | .wheel => s.params.wWhl * s.params.eWhl)
            t.odo.pUm = movedTo s.odo.pUm (signedWeight sensor x s.params)
            ∧ (if s.odo.uUm + grown / 1000000 < s.params.uMax * 1000 then
                t.odo.uUm = s.odo.uUm + grown / 1000000 ∧ t.odo.carry = grown % 1000000
              else
                t.odo.uUm = s.params.uMax * 1000 ∧ t.odo.carry = 0
                ∧ (s.odo.state = .valid → t.odo.state = .degraded ∨ t.odo.state = .fault)))
      else
        t.odo.pUm = s.odo.pUm ∧ t.odo.travel = s.odo.travel ∧ t.odo.uUm = s.odo.uUm ∧ t.odo.carry = s.odo.carry
        ∧ t.odo.cur = s.odo.cur)

/-- A count that takes the position to or past a compare (R30, R36, R37, R38, R48): the neighbouring section becomes
current with its boundaries and source, or the line is left and the odometry faults with its emergency demand. What the
crossing does in the other blocks: the window derived anew (R14), a held commit tested again (R23), the handover to the
new section's cell (R157), the accumulators cleared on entry to RACK (R46) and the wheel-throughout flag cleared when
PINION becomes the source (R44). A count held back at a bound of the `p_um` range in a section that touches a line end
leaves the line, also where that line end lies on the bound: at 0, and at 67,108,864 mm (R31, R38). A section ends at
67,108,864 mm at most (R6). The movement of a count is taken before a
cross-check the same count completes, so a count that leaves the line faults as OFF_LINE: model's choice, log 6. -/
def Obligations.CountsCrossBoundaries : Prop :=
  ∀ (sensor : Sensor) (x : Sense) (s t : State) (c lo up : Nat),
    exec (.quadratureCount sensor x) s = .next t →
    s.odo.source = (match sensor with | .pinion => Source.pinion | .wheel => Source.wheel) →
    s.odo.state ≠ .unset → s.odo.cur = some c → s.odo.lower = some lo → s.odo.upper = some up →
    lo < up → up ≤ 67108864 →
    let moved : Int := s.odo.pUm + signedWeight sensor x s.params
    let heldAtTop := s.odo.nextUpper = none ∧ 67108863999 < moved
    let heldAtFoot := s.odo.nextLower = none ∧ moved < 0
    let rack := fun (i : Nat) => (s.line.records[i]?).any (·.kind == .rack)
    let crossed := fun (i : Nat) =>
      t.odo.cur = some i ∧ t.odo.source = (if rack i then .pinion else .wheel)
      ∧ (rack i = true → rack c = false → t.odo.accPin = 0 ∧ t.odo.accWhl = 0)
      ∧ t.odo.cal.map (·.throughout) = s.odo.cal.map (fun y =>
          y.throughout && !(rack i && s.odo.source == .wheel))
      ∧ t.window = derivedWindow t
      ∧ (∀ u n, s.staging = .held u n →
          ((∃ r, some r ∈ u.records ∧ inLockedSpan t r.number = true) → t.staging = .held u n)
          ∧ ((∀ r, some r ∈ u.records → inLockedSpan t r.number = false) →
              t.staging = .idle ∧ t.line.update = some (.commitDone u.id)))
      ∧ ((∀ u n, s.staging ≠ .held u n) → t.staging = s.staging ∧ t.line.records = s.line.records)
      ∧ (s.radio.sync = .init → t.radio.sync = .init ∧ t.radio.tuned = s.radio.tuned)
      ∧ (∀ r, s.radio.sync ≠ .init → t.line.records[i]? = some r →
          t.radio.tuned = some r.cell
          ∧ (s.radio.tuned = some r.cell → t.radio.sync = s.radio.sync ∧ t.radio.grant = s.radio.grant
              ∧ t.radio.chsel = s.radio.chsel ∧ t.radio.holdover = s.radio.holdover)
          ∧ (s.radio.tuned ≠ some r.cell → t.radio.sync = .search ∧ t.radio.grant = none
              ∧ t.radio.chsel = s.radio.channels.getD r.cell 0 ∧ t.radio.holdover = none ∧ t.radio.miss = 0
              ∧ (∀ g, s.radio.grant = some g → t.radio.routes = s.radio.routes.set g.slot .off)
              ∧ t.radio.causes.getLsbD 4 = true ∧ t.link.flags.getLsbD (flagIndex .radioEvent) = true))
    ((∀ n, s.odo.nextUpper = some n → up * 1000 ≤ t.odo.pUm →
        crossed (c + 1) ∧ t.odo.lower = some up ∧ t.odo.upper = some n ∧ t.odo.nextLower = some lo
        ∧ t.odo.nextUpper = (s.line.records[c + 2]?).map (fun r => r.start + r.length))
      ∧ (∀ n, s.odo.nextLower = some n → t.odo.pUm < up * 1000 → t.odo.pUm < lo * 1000 →
          crossed (c - 1) ∧ t.odo.upper = some lo ∧ t.odo.lower = some n ∧ t.odo.nextUpper = some up
          ∧ t.odo.nextLower = (if c - 1 = 0 then none else (s.line.records[c - 2]?).map (·.start)))
      ∧ (lo * 1000 ≤ t.odo.pUm → t.odo.pUm < up * 1000 → ¬ heldAtTop → ¬ heldAtFoot →
          t.odo.cur = some c ∧ t.odo.lower = some lo ∧ t.odo.upper = some up
          ∧ t.odo.nextLower = s.odo.nextLower ∧ t.odo.nextUpper = s.odo.nextUpper ∧ t.odo.source = s.odo.source
          ∧ OnlyChanges [.odo, .restr, .brakes, .link] s t)
      ∧ (heldAtTop → t.odo.pUm = 67108863999) ∧ (heldAtFoot → t.odo.pUm = 0)
      ∧ (((s.odo.nextUpper = none ∧ up * 1000 ≤ t.odo.pUm) ∨ heldAtTop ∨ heldAtFoot
            ∨ (s.odo.nextLower = none ∧ t.odo.pUm < up * 1000 ∧ t.odo.pUm < lo * 1000)) →
          t.odo.state = .fault ∧ t.odo.cur = some c ∧ t.odo.lower = some lo ∧ t.odo.upper = some up
          ∧ OnlyChanges [.odo, .restr, .brakes, .link] s t
          ∧ (s.odo.state ≠ .fault →
              t.odo.fault = some .offLine ∧ t.brakes.odometry.emergency = .latched
              ∧ t.brakes.emergency = true ∧ t.brakes.effort = 100 ∧ t.brakes.tperm = false
              ∧ t.odo.causes.getLsbD 8 = true ∧ t.link.flags.getLsbD 6 = true)))

/-- The rack cross-check (R46, R47): which counts feed the accumulators, and the check a pinion count completes. The
movement of the same count is taken first: model's choice, log 6. -/
def Obligations.CrossChecks : Prop :=
  ∀ (sensor : Sensor) (x : Sense) (s t : State) (c : Nat) (r : SectionRec),
    exec (.quadratureCount sensor x) s = .next t →
    s.odo.cur = some c → s.line.records[c]? = some r → (s.odo.state = .valid ∨ s.odo.state = .degraded) →
    r.kind = .rack →
      let w := signedWeight sensor x s.params
      (sensor = .wheel → t.odo.accWhl = s.odo.accWhl + w ∧ t.odo.accPin = s.odo.accPin
        ∧ t.odo.lastDiff = s.odo.lastDiff)
      ∧ (sensor = .pinion → (s.odo.accPin + w).natAbs < 5000000 →
          t.odo.accPin = s.odo.accPin + w ∧ t.odo.accWhl = s.odo.accWhl ∧ t.odo.lastDiff = s.odo.lastDiff)
      ∧ (sensor = .pinion → 5000000 ≤ (s.odo.accPin + w).natAbs →
          t.odo.accPin = 0 ∧ t.odo.accWhl = 0 ∧ t.odo.lastDiff = (s.odo.accWhl - (s.odo.accPin + w)).natAbs
          ∧ ((s.odo.accPin + w).natAbs * s.params.xPpm / 1000000 + 200000
              < (s.odo.accWhl - (s.odo.accPin + w)).natAbs →
              t.odo.state = .fault ∧ t.brakes.odometry.emergency = .latched ∧ t.brakes.emergency = true))

/-- PHASE_ERROR, READ_ODOMETRY and READ_MARK_REPORT (R29, R43, R51, R200): the reference phase, count and cause of the
first, the answers of the two reads and the record each empties. An answer without a report carries zeros (log 18), and
widths the spec does not list are the model's (log 19). -/
def Obligations.OdometryReads : Prop :=
  ∀ s : State,
    (∀ sensor, ∃ t, exec (.phaseError sensor) s = .next t ∧ OnlyChanges [.odo, .link] s t
      ∧ t.link = flagged .odometry s.link
      ∧ t.odo = match sensor with
        | .pinion => { s.odo with
            pinPhase := ⟨!s.odo.pinPhase.a, !s.odo.pinPhase.b⟩, pinErr := min (s.odo.pinErr + 1) 65535,
            causes := s.odo.causes ||| 1#16 }
        | .wheel => { s.odo with
            whlPhase := ⟨!s.odo.whlPhase.a, !s.odo.whlPhase.b⟩, whlErr := min (s.odo.whlErr + 1) 65535,
            causes := s.odo.causes ||| 1#16 })
    ∧ (∃ t, exec .readOdometry s = .next t ∧ OnlyChanges [.odo, .link] s t
      ∧ t.odo = { s.odo with causes := 0#16 }
      ∧ Answered .readOdometry .accepted
          (u8 (odoStateCode s.odo.state) ++ u8 (odoFaultCode s.odo.fault)
            ++ u32 (s.odo.pUm / 1000 : Nat) ++ u32 ((s.odo.uUm + 999) / 1000 : Nat) ++ u32 s.odo.uUm
            ++ speed16 s.odo.sample.v ++ flag8 s.odo.sample.standstill ++ u8 (motionCode s.odo.sample.motion)
            ++ flagged8 s.odo.cur ++ flagged16 ((s.odo.cur.bind (s.line.records[·]?)).map (·.number))
            ++ u8 (sourceCode s.odo.source)
            ++ none32 (s.odo.lower.map (fun n => (n : Int))) ++ none32 (s.odo.upper.map (fun n => (n : Int)))
            ++ none32 (s.odo.nextLower.map (fun n => (n : Int))) ++ none32 (s.odo.nextUpper.map (fun n => (n : Int)))
            ++ u32 s.params.wPin ++ u32 s.params.wWhl ++ bits32 s.odo.pinRaw ++ bits32 s.odo.whlRaw
            ++ u16 s.odo.pinErr ++ u16 s.odo.whlErr ++ u32 s.odo.lastDiff ++ u16 s.odo.causes.toNat) s.link t)
    ∧ (∃ t, exec .readMarkReport s = .next t ∧ OnlyChanges [.odo, .link] s t
      ∧ t.odo = { s.odo with report := none }
      ∧ (s.odo.report = none → Answered .readMarkReport .none (noRecord 17) s.link t)
      ∧ (∀ r, s.odo.report = some r → Answered .readMarkReport .accepted
          (flagged16 r.number ++ u32 r.captured ++ i32 r.correction ++ flag8 r.applied ++ flagged32 r.clock)
          s.link t))

/-- POSITION_SAMPLE: the sample's fields, standstill, and the records of the next period, whatever the blocks that take
the sample do with it (R33, R34); the restrictions it retires by passage (R63); and what it does to the doors: each
release in force re-tested against the checks of R136 with the withdrawal's cause and the close request to the side's
leaves (R138), the DOORS level rewritten (R140), and the DOOR_MOTION latch of a car that moves without being closed
(R141). The order of the takers is the model's choice (log 4). -/
def Obligations.PositionSamples : Prop :=
  ∀ s : State, ∃ t, exec .positionSample s = .next t
    ∧ OnlyChanges [.odo, .sup, .line, .window, .staging, .tele, .link, .radio, .brakes, .doors, .restr] s t
    ∧ (let v : Int := s.odo.travel.tdiv s.odo.period
      let quiet := min (s.odo.quiet + 1) s.params.nStill
      let still := if v.natAbs < s.params.vStill then s.odo.standstill || quiet == s.params.nStill else false
      t.odo = { s.odo with
        sample := { p := s.odo.pUm / 1000, u := (s.odo.uUm + 999) / 1000, v := v, travel := s.odo.travel,
                    motion := if 0 < s.odo.travel then .up else if s.odo.travel < 0 then .down else .none,
                    standstill := still, state := s.odo.state, cur := s.odo.cur },
        standstill := still, quiet := if v.natAbs < s.params.vStill then quiet else 0,
        travel := 0, period := s.params.tOdo, sampleTimer := s.params.tOdo })
    ∧ (s.restr.table.length = 32 → ∀ k < 32, t.restr.table[k]? =
        match s.restr.table[k]? with
        | some (some e) =>
          if (s.odo.state = .valid ∨ s.odo.state = .degraded) ∧ (e.issuer = .valley ∨ e.issuer = .car)
              ∧ (e.kind = .speed ∨ e.kind = .door)
              ∧ ((s.sup.dir = .up ∧ e.dir ≠ .down
                    ∧ (e.hi : Int) < (s.odo.pUm / 1000 : Nat) - (s.params.L : Int) - ((s.odo.uUm + 999) / 1000 : Nat))
                ∨ (s.sup.dir = .down ∧ e.dir ≠ .up
                    ∧ s.odo.pUm / 1000 + (s.odo.uUm + 999) / 1000 < e.lo)) then
            some none
          else some (some e)
        | x => x)
    ∧ (∀ side : Side, side ≠ .both → ReleaseRetested side s t)
    ∧ t.brakes.doors.level = (if t.odo.standstill = true ∧ t.doors.closed = false then s.params.sHold else 0)
    ∧ (t.odo.standstill = false → t.doors.closed = false → t.brakes.doors.emergency = .latched
        ∧ t.brakes.emergency = true ∧ t.brakes.effort = 100
        ∧ (s.brakes.doors.emergency ≠ .latched →
            t.doors.causes.getLsbD 3 = true ∧ t.link.flags.getLsbD (flagIndex .doorEvent) = true))
    ∧ (t.odo.standstill = true ∨ t.doors.closed = true → t.brakes.doors.emergency = s.brakes.doors.emergency)

/-- SET_POSITION: the checks in their order, and the position, uncertainty, section, compares and source it sets
(R35, R50). -/
def Obligations.SetPosition : Prop :=
  ∀ (p u : Nat) (s : State), ∃ t, exec (.setPosition p u) s = .next t
    ∧ (if s.odo.standstill = false then AnsweredOnly .setPosition .moving [] s t
      else if s.sup.mode ≠ .standby ∧ s.sup.mode ≠ .depot then AnsweredOnly .setPosition .mode [] s t
      else if s.line.state ≠ .sealed then AnsweredOnly .setPosition .noLine [] s t
      else if p < lineStart s ∨ lineEnd s ≤ p then AnsweredOnly .setPosition .badPosition [] s t
      else if u < s.params.markTol ∨ s.params.uMax < u then AnsweredOnly .setPosition .badValue [] s t
      else
        ∀ c r, s.line.records[c]? = some r → r.start ≤ p → p < r.start + r.length →
          (∀ k y, k < c → s.line.records[k]? = some y → ¬ (y.start ≤ p ∧ p < y.start + y.length)) →
            OnlyChanges [.odo, .window, .line, .radio, .restr, .link] s t
            ∧ t.odo = { s.odo with
                pUm := p * 1000, uUm := u * 1000, carry := 0, state := .valid, fault := none, cur := some c,
                lower := some r.start, upper := some (r.start + r.length),
                nextLower := if c = 0 then none else (s.line.records[c - 1]?).map (·.start),
                nextUpper := (s.line.records[c + 1]?).map (fun y => y.start + y.length),
                source := if r.kind = .rack then .pinion else .wheel, accPin := 0, accWhl := 0, cal := none }
            ∧ t.window = derivedWindow t
            ∧ (s.radio.sync ≠ .init → t.radio.tuned = some r.cell)
            ∧ (∃ n, Answered .setPosition .done [] { s.link with flags := n } t))

/-- MARK_DETECTION (R39 to R42): among the marks of the sections the window names, the nearest to the captured position
and of those the one of lowest table index is chosen, within `u` plus `mark_window`. A detection is ignored in UNSET,
reported when unmatched or in FAULT, and applied in VALID and DEGRADED, where the position becomes the mark's and the
uncertainty `mark_tol`. -/
def Obligations.MarkDetections : Prop :=
  ∀ s : State,
    (∀ c, c ∈ candidates s ↔ ∃ e r, some e ∈ s.window ∧ s.line.records[e.index]? = some r ∧ r.mark = some c.mark
        ∧ c.index = e.index ∧ c.number = r.number)
    ∧ (∀ c, matchedMark s = some c → c ∈ candidates s
        ∧ markDistance s.odo.pUm c ≤ ((s.odo.uUm + 999) / 1000 + s.params.markWindow) * 1000
        ∧ ∀ d ∈ candidates s, markDistance s.odo.pUm c < markDistance s.odo.pUm d
            ∨ (markDistance s.odo.pUm c = markDistance s.odo.pUm d ∧ c.index ≤ d.index))
    ∧ (matchedMark s = none → ∀ d ∈ candidates s,
        ((s.odo.uUm + 999) / 1000 + s.params.markWindow) * 1000 < markDistance s.odo.pUm d)
    ∧ ∃ t, exec .markDetection s = .next t
    ∧ OnlyChanges [.odo, .params, .restr, .brakes, .link, .line, .window, .staging, .radio, .tele] s t
    ∧ (s.odo.state = .unset → t = s)
    ∧ (t.odo.state = s.odo.state ∨ t.odo.state = .valid → t.brakes = s.brakes)
    ∧ (s.odo.state ≠ .unset → t.odo.capture = s.odo.pUm
        ∧ t.odo.travel = s.odo.travel
        ∧ (t.odo.cur = s.odo.cur → t.odo.accPin = s.odo.accPin ∧ t.odo.accWhl = s.odo.accWhl)
        ∧ (t.odo.cur ≠ s.odo.cur → t.window = derivedWindow t
            ∧ (∀ i r, s.radio.sync ≠ .init → t.odo.cur = some i → t.line.records[i]? = some r →
                t.radio.tuned = some r.cell))
        ∧ t.odo.sample = s.odo.sample ∧ t.odo.standstill = s.odo.standstill
        ∧ (∀ r, s.odo.report = some r → t.odo.report = some r)
        ∧ (matchedMark s = none →
            OnlyChanges [.odo, .link] s t ∧ t.odo.pUm = s.odo.pUm ∧ t.odo.uUm = s.odo.uUm
            ∧ t.odo.state = s.odo.state ∧ t.odo.cal = s.odo.cal ∧ t.odo.causes.getLsbD 2 = true
            ∧ t.link.flags.getLsbD 6 = true
            ∧ (s.odo.report = none → t.odo.causes.getLsbD 1 = true
                ∧ t.odo.report = some ⟨none, s.odo.pUm / 1000, 0, false, s.restr.clock⟩))
        ∧ (∀ c, matchedMark s = some c → s.odo.state = .fault →
            OnlyChanges [.odo, .link] s t ∧ t.odo.pUm = s.odo.pUm ∧ t.odo.uUm = s.odo.uUm
            ∧ t.odo.state = s.odo.state ∧ t.odo.cal = s.odo.cal
            ∧ (s.odo.report = none → t.odo.report =
                some ⟨some c.number, s.odo.pUm / 1000, (c.mark * 1000 : Nat) - (s.odo.pUm : Int), false,
                  s.restr.clock⟩))
        ∧ (∀ c, matchedMark s = some c → (s.odo.state = .valid ∨ s.odo.state = .degraded) →
            t.odo.pUm = c.mark * 1000 ∧ t.odo.uUm = s.params.markTol * 1000 ∧ t.odo.carry = 0
            ∧ (s.odo.state = .degraded → t.odo.causes.getLsbD 3 = true ∧ t.link.flags.getLsbD 6 = true)
            ∧ (∃ b, t.odo.cal = some ⟨c.mark, 0, b⟩ ∧ (b = true ↔ t.odo.source = .wheel))
            ∧ (t.odo.state = .valid
                ∨ (t.odo.state = .fault ∧ ((s.odo.nextUpper = none ∧ s.odo.upper.any (· ≤ c.mark))
                    ∨ (s.odo.nextLower = none ∧ s.odo.lower.any (c.mark < ·)))))
            ∧ (s.odo.report = none → t.odo.report =
                some ⟨some c.number, s.odo.pUm / 1000, (c.mark * 1000 : Nat) - (s.odo.pUm : Int), true,
                  s.restr.clock⟩)))

/-- Wheel calibration (R44, R45): outliers, the measured weight rounded halves upward, the 5 % band, and the weight
adopted; at an applied mark the evaluation of a reference that was on WHEEL throughout and lies at least 100,000 mm away,
with the weight written, the cause and the ODOMETRY flag; and no command but SET_PARAMETER, power-on reset and a mark
detection, which moves `w_whl` alone, changes a car parameter (R197). A weight adopted past its range is stored as it is:
log 37. -/
def Obligations.WheelCalibration : Prop :=
  (∀ (w : Nat) (d n : Int), d ≠ 0 →
    ((n = 0 ∨ (0 < d ∧ n < 0) ∨ (d < 0 ∧ 0 < n)) → calibratedWeight w d n = none)
    ∧ ((0 < d ∧ 0 < n) ∨ (d < 0 ∧ n < 0) →
        let measured : Int := ⌊|(d : ℚ)| / |(n : ℚ)| + 1 / 2⌋
        (|measured - w| * 100 ≤ 5 * w → ∃ a, calibratedWeight w d n = some a ∧ (a : Int) = (3 * w + measured + 2) / 4)
        ∧ (5 * w < |measured - w| * 100 → calibratedWeight w d n = none)))
  ∧ (∀ (s t : State) (c : Candidate), exec .markDetection s = .next t → matchedMark s = some c →
      (s.odo.state = .valid ∨ s.odo.state = .degraded) →
      (s.odo.cal = none → t.params = s.params)
      ∧ (∀ y, s.odo.cal = some y →
          let wheelOnly := y.throughout = true ∧ (t.odo.source = .wheel ∨ s.odo.source = .pinion)
          let d : Int := (c.mark : Int) - y.pos
          (¬ (wheelOnly ∧ 100000 ≤ d.natAbs) → t.params = s.params)
          ∧ (wheelOnly → 100000 ≤ d.natAbs →
              (∀ w, calibratedWeight s.params.wWhl (d * 1000) y.net = some w →
                t.params = { s.params with wWhl := w } ∧ t.odo.causes.getLsbD 4 = true ∧ t.link.flags.getLsbD 6 = true)
              ∧ (calibratedWeight s.params.wWhl (d * 1000) y.net = none →
                t.params = s.params ∧ t.odo.causes.getLsbD 5 = true ∧ t.link.flags.getLsbD 6 = true))))
  ∧ (∀ (c : Instr) (s t : State), exec c s = .next t → t.params ≠ s.params →
      c = .powerOnReset ∨ (∃ n v, c = .setParameter n v)
        ∨ (c = .markDetection ∧ t.params = { s.params with wWhl := t.params.wWhl }))

/-- The position stays sound at every step: the line is well laid and ends at 67,108,864 mm at most (R6), the compares are
those of the current section, the position is tracked, the uncertainty and the quiet-sample count stay within their
bounds and UNSET holds nothing (R27, R31, R32, R34, R35, R36, R38).
The parameters are in their ranges, and the weights are at most 10,000 mm, so that a count is shorter than a section
(R36). -/
def Obligations.PositionStaysSound : Prop :=
  ∀ s t : State, step s = .next t → PositionSound s → ParamsSound s.params → WeightsShort s.params →
    PositionSound t ∧ ParamsSound t.params ∧ PositionInSection t

/-- A fault of the odometry is lifted only by RELEASE_TRIP at standstill, SET_POSITION, LINE_LOAD_BEGIN and power-on
reset; nothing else, coming back inside the line and a soft reset included, ends it (R27, R38, R48, R49, R50). -/
def Obligations.OdometryFaultHeld : Prop :=
  ∀ (c : Instr) (s t : State), exec c s = .next t → s.odo.state = .fault → t.odo.state ≠ .fault →
    c = .powerOnReset ∨ c = .lineLoadBegin ∨ (∃ p u, c = .setPosition p u)
      ∨ (c = .releaseTrip ∧ s.odo.standstill = true ∧ insideLine (s.odo.pUm / 1000) s = true)

/-! ### Restrictions -/

/-- A put by the car or the valley (R54, R55), with the checks in their order: the entry inserted at the lowest FREE
index, updated in its index, left unchanged, or ended by an expiry already past. PUT_RESTRICTION is the car's put. -/
def Obligations.PutRestriction : Prop :=
  (∀ (issuer : Issuer) (w : PutWire) (s : State),
    let res := (putRestriction issuer w s).1
    let t := (putRestriction issuer w s).2
    if s.line.state ≠ .sealed then res = .noLine ∧ t = s
    else if w.id = 0 ∨ 65519 < w.id ∨ w.kind = 0 ∨ 3 < w.kind ∨ w.direction = 0 ∨ 3 < w.direction
        ∨ (w.kind = 3 ∧ (w.limit = 0 ∨ 3 < w.limit)) then res = .badValue ∧ t = s
    else if w.lo < lineStart s ∨ lineEnd s ≤ w.lo ∨ w.hi < lineStart s ∨ lineEnd s ≤ w.hi ∨ w.hi < w.lo
        ∨ (w.kind = 2 ∧ (w.lo ≠ w.hi ∨ w.direction = 3)) ∨ (w.kind = 1 ∧ 600 < w.limit)
        ∨ (w.activation.any (fun a => w.expiry.any (· ≤ a))) = true then res = .badRange ∧ t = s
    else if (w.expiry.any (fun x => s.restr.clock.any (x ≤ ·))) = true then
      res = .expired
      ∧ (findEntry issuer w.id s.restr = none → t = s)
      ∧ (∀ i e, findEntry issuer w.id s.restr = some i → s.restr.table[i]? = some (some e) →
          EntryChanged .retired (some .expired) i e none s t)
    else
      ∃ e : Restriction,
        e.issuer = issuer ∧ e.id = w.id ∧ rkindCode e.kind = w.kind ∧ rdirCode e.dir = w.direction
        ∧ e.lo = w.lo ∧ e.hi = w.hi ∧ e.limit = (if w.kind = 2 then 0 else w.limit)
        ∧ e.activation = w.activation ∧ e.expiry = w.expiry
        ∧ (e.active = true ↔ ∀ a, w.activation = some a → ∃ c, s.restr.clock = some c ∧ a ≤ c)
        ∧ (findEntry issuer w.id s.restr = none →
            (∀ i < 30, s.restr.table[i]? = some none → (∀ k < i, s.restr.table[k]? ≠ some none) →
              res = .accepted ∧ EntryChanged .inserted none i e (some e) s t)
            ∧ ((∀ i < 30, s.restr.table[i]? ≠ some none) → res = .tableFull ∧ t = s))
        ∧ (∀ i old, findEntry issuer w.id s.restr = some i → s.restr.table[i]? = some (some old) →
            ({ old with active := e.active } = e → res = .unchanged ∧ t = s)
            ∧ ({ old with active := e.active } ≠ e →
                res = .updated ∧ EntryChanged .updated none i e (some e) s t)))
  ∧ (∀ (w : PutWire) (s : State), ∃ t, exec (.putRestriction w) s = .next t
      ∧ OnlyChanges [.restr, .link] s t ∧ t.restr = (putRestriction .car w s).2.restr
      ∧ Answered .putRestriction (putRestriction .car w s).1 [] (putRestriction .car w s).2.link t)

/-- An issuer withdraws its own entry by id, and no other issuer's (R56, R57). RETIRE_RESTRICTION is the car's. -/
def Obligations.WithdrawRestriction : Prop :=
  (∀ (issuer : Issuer) (cause : RetireCause) (id : Nat) (s : State),
    let res := (withdrawEntry issuer cause id s).1
    let t := (withdrawEntry issuer cause id s).2
    (∀ i e, findEntry issuer id s.restr = some i → s.restr.table[i]? = some (some e) →
        res = .done ∧ EntryChanged .retired (some cause) i e none s t)
    ∧ (findEntry issuer id s.restr = none → t = s
        ∧ ((∃ e, some e ∈ s.restr.table ∧ e.id = id) → res = .notOwner)
        ∧ ((∀ e, some e ∈ s.restr.table → e.id ≠ id) → res = .notFound))
    ∧ (∀ i, findEntry issuer id s.restr = some i ↔
        (∃ e, s.restr.table[i]? = some (some e) ∧ e.issuer = issuer ∧ e.id = id)
          ∧ ∀ k < i, ∀ e, s.restr.table[k]? = some (some e) → ¬ (e.issuer = issuer ∧ e.id = id)))
  ∧ (∀ (id : Nat) (s : State), ∃ t, exec (.retireRestriction id) s = .next t
      ∧ OnlyChanges [.restr, .link] s t ∧ t.restr = (withdrawEntry .car .withdrawn id s).2.restr
      ∧ Answered .retireRestriction (withdrawEntry .car .withdrawn id s).1 []
          (withdrawEntry .car .withdrawn id s).2.link t)

/-- The line clock takes a value, by TIME, SET_TIME or its own advance, and every entry is evaluated against it: expiry
before activation, the records of all changes in index order, one flag (R58, R60, R61, R68). While the clock is UNSET an
expiry of its timer changes nothing but the timer, which runs on (log 39). -/
def Obligations.LineClock : Prop :=
  (∀ (v : Nat) (s : State), s.restr.table.length = 32 → LogBounded s →
    let t := setClock v s
    let expired := fun e : Restriction => e.expiry.any (· ≤ v)
    let activated := fun e : Restriction => !expired e && !e.active && e.activation.any (· ≤ v)
    let records := (List.range 32).filterMap fun k =>
      match s.restr.table[k]? with
      | some (some e) =>
        if expired e then some (⟨.retired, some .expired, some (e.issuer, e.id, e.kind, k), some v⟩ : ChangeRec)
        else if activated e then some ⟨.activated, none, some (e.issuer, e.id, e.kind, k), some v⟩
        else none
      | _ => none
    OnlyChanges [.restr, .link] s t
    ∧ t.restr.clock = some v ∧ t.restr.second = 1000
    ∧ (∀ k < 32, ∀ o, s.restr.table[k]? = some o →
        t.restr.table[k]? = some (o.bind fun e =>
          if expired e then none else if activated e then some { e with active := true } else some e))
    ∧ t.restr.log = (s.restr.log ++ records).drop ((s.restr.log ++ records).length - 8)
    ∧ t.restr.overflow = min 255 (s.restr.overflow + ((s.restr.log ++ records).length - 8))
    ∧ t.link = if records = [] then s.link else flagged .restrictionChanged s.link)
  ∧ (∀ (v : Nat) (s : State), ∃ t, exec (.setTime v) s = .next t
      ∧ (∀ c, s.restr.clock = some c → AnsweredOnly .setTime .badState [] s t)
      ∧ (s.restr.clock = none → OnlyChanges [.restr, .link] s t ∧ t.restr = (setClock v s).restr
          ∧ Answered .setTime .done [] (setClock v s).link t))
  ∧ (∀ s : State, ∃ t, exec .lineClockAdvance s = .next t
      ∧ (s.restr.clock = none → OnlyChanges [.restr] s t ∧ t.restr = { s.restr with second := 1000 })
      ∧ (∀ c, s.restr.clock = some c → t = setClock (if c < 4294967295 then c + 1 else 4294967295) s))

/-- The reads of the Restriction Table and its cursor (R69 to R74, R201): what each answers, and that each moves nothing
but the cursor or the log it owns. Where an answer carries no entry its bytes are 0 (log 18), and the fields of a
TABLE_CLEARED record are sent as log 20 states. -/
def Obligations.RestrictionReads : Prop :=
  ∀ s : State,
    let entry := fun (i : Nat) (e : Restriction) =>
      u8 i ++ u8 (issuerCode e.issuer) ++ u8 (if e.active then 2 else 1)
        ++ (u16 e.id ++ u8 (rkindCode e.kind) ++ u8 (rdirCode e.dir) ++ u32 e.lo ++ u32 e.hi ++ u16 e.limit
          ++ u8 ((if e.activation.isSome then 1 else 0) + (if e.expiry.isSome then 2 else 0))
          ++ u32 (e.activation.getD 0) ++ u32 (e.expiry.getD 0))
    (∀ code id, ∃ t, exec (.lookupRestriction code id) s = .next t
      ∧ ((code = 0 ∨ 3 < code) → AnsweredOnly .lookupRestriction .badValue (noRecord 26) s t)
      ∧ (∀ x, issuerCode x = code →
          (∀ i e, findEntry x id s.restr = some i → s.restr.table[i]? = some (some e) →
            AnsweredOnly .lookupRestriction .accepted (entry i e) s t)
          ∧ (findEntry x id s.restr = none → AnsweredOnly .lookupRestriction .notFound (noRecord 26) s t)))
    ∧ (∀ i, ∃ t, exec (.readRestriction i) s = .next t
      ∧ (31 < i → AnsweredOnly .readRestriction .badValue (noRecord 26) s t)
      ∧ (∀ e, i ≤ 31 → s.restr.table[i]? = some (some e) →
          AnsweredOnly .readRestriction .accepted (entry i e) s t)
      ∧ (i ≤ 31 → s.restr.table[i]? = some none → AnsweredOnly .readRestriction .free (noRecord 26) s t))
    ∧ (∃ t, exec .nextRestriction s = .next t ∧ OnlyChanges [.link] s t
      ∧ (∀ i e, s.link.resCursor ≤ i → i < 32 → s.restr.table[i]? = some (some e) →
          (∀ k, s.link.resCursor ≤ k → k < i → s.restr.table[k]? = some none) →
          Answered .nextRestriction .accepted (entry i e) { s.link with resCursor := i + 1 } t)
      ∧ ((∀ k e, s.link.resCursor ≤ k → k < 32 → s.restr.table[k]? ≠ some (some e)) →
          Answered .nextRestriction .endOfWalk (noRecord 26) { s.link with resCursor := 32 } t))
    ∧ (∀ i, ∃ t, exec (.setRestrictionCursor i) s = .next t ∧ OnlyChanges [.link] s t
      ∧ (i ≤ 32 → Answered .setRestrictionCursor .accepted [] { s.link with resCursor := i } t)
      ∧ (32 < i → Answered .setRestrictionCursor .badValue [] s.link t))
    ∧ (∃ t, exec .readRestrictionStatus s = .next t
      ∧ AnsweredOnly .readRestrictionStatus .accepted
          (u8 (if s.restr.clock.isSome then 1 else 0) ++ flagged32 s.restr.clock
            ++ u8 (countEntries .valley false s.restr) ++ u8 (countEntries .valley true s.restr)
            ++ u8 (countEntries .car false s.restr) ++ u8 (countEntries .car true s.restr)
            ++ u8 (countEntries .part false s.restr) ++ u8 (countEntries .part true s.restr)
            ++ u8 ((s.restr.table.take 30).countP (·.isNone)) ++ u8 s.restr.log.length ++ u8 s.restr.overflow
            ++ u8 s.link.resCursor) s t)
    ∧ (∃ t, exec .readRestrictionLog s = .next t ∧ OnlyChanges [.restr, .link] s t
      ∧ t.restr = { s.restr with log := s.restr.log.drop 1, overflow := 0 }
      ∧ (s.restr.log = [] → Answered .readRestrictionLog .none
          (noRecord 12 ++ u8 0 ++ u8 s.restr.overflow) s.link t)
      ∧ (∀ c rest, s.restr.log = c :: rest → Answered .readRestrictionLog .accepted
          (changeBytes c ++ u8 rest.length ++ u8 s.restr.overflow) s.link t))

/-- The Restriction Table stays sound at every step: its places hold what R53 gives them, the part-issued entries stand
for exactly the causes that hold on a sealed line and the table is empty on one that is not, and the log stays within
its bounds (R53, R65, R66, R68). -/
def Obligations.RestrictionsStaySound : Prop :=
  ∀ s t : State, step s = .next t → RestrictionsSound s → RestrictionsSound t

/-- The table never holds two entries with the same issuer and id (R54). -/
def Obligations.EntriesStayDistinct : Prop :=
  ∀ s t : State, step s = .next t → TablePlaced s → EntriesDistinct s → TablePlaced t ∧ EntriesDistinct t

/-! ### Speed Supervision -/

/-- SET_MODE and SET_DIRECTION (R77, R78, R79, R80): the checks in their order, and what a change does to the
supervisor's records, its brake entry, a held commit, the window and the permit. At every accepted change of mode each
side release in force is tested again against the last sample (R138). A latch in the SUPERVISOR entry stays until
RELEASE_TRIP (log 36). -/
def Obligations.ModeAndDirection : Prop :=
  (∀ (code : Nat) (s : State), ∃ t, exec (.setMode code) s = .next t
    ∧ (2 < code → AnsweredOnly .setMode .badValue [] s t)
    ∧ (∀ m : Mode, modeCode m = code → code ≤ 2 →
        if s.odo.standstill = false then AnsweredOnly .setMode .moving [] s t
        else if s.sup.mode = m then AnsweredOnly .setMode .done [] s t
        else if s.sup.mode = .tripped ∨ (s.sup.mode = .standby ∧ m = .line)
            ∨ (s.sup.mode = .depot ∧ m = .line
                ∧ ¬ (s.line.state = .sealed ∧ (s.odo.state = .valid ∨ s.odo.state = .degraded))) then
          AnsweredOnly .setMode .refusedMode [] s t
        else
          OnlyChanges [.sup, .line, .window, .staging, .tele, .link, .radio, .brakes, .doors] s t
          ∧ t.sup = { s.sup with
              mode := m, dir := if m = .standby then .neutral else s.sup.dir,
              rollback := if m = .standby then 0 else s.sup.rollback,
              retained := if m = .standby then none else s.sup.retained }
          ∧ (m = .standby → t.brakes.supervisor = ⟨100, .held⟩ ∧ t.brakes.emergency = true ∧ t.brakes.tperm = false
              ∧ t.doors.left.inForce = false ∧ t.doors.right.inForce = false)
          ∧ (∀ side : Side, side ≠ .both → ReleaseRetested side s t)
          ∧ (m ≠ .standby → s.brakes.supervisor.emergency ≠ .latched →
              t.brakes.supervisor = ⟨if s.sup.level = .service then s.params.sFull else 0, .none⟩)
          ∧ (m ≠ .line → ∀ u n, s.staging = .held u n → t.staging = .idle)
          ∧ t.link.flags.getLsbD (flagIndex .modeChanged) = true
          ∧ (∃ n, Answered .setMode .done [] { s.link with flags := n } t)))
  ∧ (∀ (code : Nat) (s : State), ∃ t, exec (.setDirection code) s = .next t
    ∧ (2 < code → AnsweredOnly .setDirection .badValue [] s t)
    ∧ (∀ d : Dir, dirCode d = code →
        if s.odo.standstill = false then AnsweredOnly .setDirection .moving [] s t
        else if s.sup.mode = .standby then AnsweredOnly .setDirection .mode [] s t
        else if s.sup.dir = d then AnsweredOnly .setDirection .done [] s t
        else
          OnlyChanges [.sup, .line, .window, .staging, .tele, .link, .radio, .brakes] s t
          ∧ t.sup = { s.sup with dir := d, rollback := 0, retained := none }
          ∧ t.window = derivedWindow t
          ∧ (∀ u n, s.staging = .held u n →
              ((∃ r, some r ∈ u.records ∧ inLockedSpan t r.number = true) → t.staging = .held u n)
              ∧ ((∀ r, some r ∈ u.records → inLockedSpan t r.number = false) → t.staging = .idle))
          ∧ t.brakes = { s.brakes with tperm := permitHolds t.sup s.doors.closed s.brakes }
          ∧ t.link.flags.getLsbD (flagIndex .modeChanged) = true
          ∧ (∃ n, Answered .setDirection .done [] { s.link with flags := n } t)))

/-- What a position sample does to the supervisor but for the permitted speed of LINE (R82, R84, R86, R87, R95, R96):
the rollback accumulator, the trip of stages 1 and 2 with the first cause found, the level, the SUPERVISOR entry's
service level (R80), and the trip of stage 6. The trip record's position is the present one (log 30). -/
def Obligations.SampleSupervision : Prop :=
  ∀ s t : State, exec .positionSample s = .next t →
    let v := (s.odo.travel.tdiv s.odo.period).natAbs
    let rollback := if s.sup.mode = .standby then s.sup.rollback else match s.sup.dir with
      | .up => ((s.sup.rollback : Int) - s.odo.travel).toNat
      | .down => ((s.sup.rollback : Int) + s.odo.travel).toNat
      | .neutral => s.sup.rollback + s.odo.travel.natAbs
    let least : Int := if s.sup.dir = .down then (s.odo.pUm / 1000 : Nat) - (s.params.L : Int) else (s.odo.pUm / 1000 : Nat)
    let overrun := s.sup.mode = .line ∧ t.odo.standstill = false ∧ (s.odo.state = .valid ∨ s.odo.state = .degraded)
      ∧ ∃ x, some x ∈ s.restr.table ∧ x.active = true ∧ x.kind = .stop
          ∧ ((s.sup.dir = .up ∧ x.dir = .up ∧ (x.lo : Int) < least)
              ∨ (s.sup.dir = .down ∧ x.dir = .down ∧ least < (x.lo : Int)))
    let rolled := s.params.rollbackLimit * 1000 < rollback
    let runs := s.sup.mode = .depot ∨ s.sup.mode = .line
    let early := runs ∧ (s.odo.state = .fault ∨ rolled ∨ overrun)
    t.sup.rollback = rollback ∧ t.sup.dir = s.sup.dir
    ∧ t.sup.level = (if t.sup.vPerm + s.params.dvEb < v then .emergency
        else if t.sup.vPerm + s.params.dvSb < v ∨ (s.sup.level = .service ∧ t.sup.vPerm < v) then .service
        else if t.sup.vPerm < v then .warning
        else if 0 < v ∧ t.sup.vPerm - s.params.dvInd ≤ v then .indication
        else .normal)
    ∧ (early → t.sup.mode = .tripped ∧ t.sup.modeBefore = s.sup.mode ∧ t.sup.vPerm = 0
        ∧ t.sup.trip = some ⟨if s.odo.state = .fault then .odometryFault
            else if rolled then .rollback else .stopOverrun,
          s.sup.mode, s.odo.pUm / 1000, s.restr.clock⟩)
    ∧ (runs → ¬ early →
        (if t.sup.level = .emergency then t.sup.mode = .tripped ∧ t.sup.modeBefore = s.sup.mode
            ∧ t.sup.trip = some ⟨.emergencySpeed, s.sup.mode, s.odo.pUm / 1000, s.restr.clock⟩
          else if t.sup.level = .service ∧ s.sup.sbView = true then t.sup.mode = .tripped
            ∧ t.sup.modeBefore = s.sup.mode
            ∧ t.sup.trip = some ⟨.serviceDeficit, s.sup.mode, s.odo.pUm / 1000, s.restr.clock⟩
          else t.sup.mode = s.sup.mode ∧ t.sup.trip = s.sup.trip ∧ t.sup.modeBefore = s.sup.modeBefore))
    ∧ (¬ runs → t.sup.mode = s.sup.mode ∧ t.sup.trip = s.sup.trip ∧ t.sup.vPerm = 0)
    ∧ (s.sup.mode = .depot → ¬ early → t.sup.vPerm = s.params.vDepot * 250 / 9)
    ∧ (s.sup.mode = .line → s.sup.dir = .neutral → t.sup.vPerm = 0)
    ∧ (t.odo.standstill = true → ¬ (s.sup.mode = .line ∧ s.sup.dir ≠ .neutral) → t.sup.retained = none)
    ∧ (t.sup.mode = .tripped → s.sup.mode ≠ .tripped → t.brakes.supervisor = ⟨100, .latched⟩
        ∧ t.brakes.emergency = true ∧ t.brakes.tperm = false)
    ∧ (t.sup.level ≠ s.sup.level → t.link.flags.getLsbD (flagIndex .interventionChanged) = true)
    ∧ (t.sup.mode = s.sup.mode → runs → t.sup.level ≠ s.sup.level →
        t.brakes.supervisor.level = if t.sup.level = .service then s.params.sFull else 0)
    ∧ (t.sup.mode = s.sup.mode → t.sup.level = s.sup.level → t.brakes.supervisor = s.brakes.supervisor)
    ∧ (t.sup.mode = s.sup.mode → ¬ (s.sup.mode = .line ∧ s.sup.dir ≠ .neutral) →
        t.sup.limiting = .mode ∧ t.sup.binding = none)

/-- In LINE with UP or DOWN selected the permitted speed of a sample is never above a static limit or a restriction over
the safe extent, is 0 without authority, and otherwise is the lowest of those limits and of the binding curve speed; with
the limiting element and the binding-target record that go with it, and the authority end retained from the nearest
VALLEY STOP (R87, R88, R91, R98). -/
def Obligations.PermittedSpeed : Prop :=
  ∀ s t : State, exec .positionSample s = .next t → s.sup.mode = .line → s.sup.dir ≠ .neutral →
    let p : Int := (s.odo.pUm / 1000 : Nat)
    let u : Int := ((s.odo.uUm + 999) / 1000 : Nat)
    let lo := p - s.params.L - u
    let hi := p + u
    let covers := fun (e : WinEntry) => some e ∈ s.window ∧ ∃ r, s.line.records[e.index]? = some r
      ∧ (r.start : Int) ≤ hi ∧ lo < ((r.start + r.length : Nat) : Int)
    let binds := fun (x : Restriction) => some x ∈ s.restr.table ∧ x.active = true ∧ x.kind = .speed
      ∧ (x.dir = .both ∨ (s.sup.dir = .up ∧ x.dir = .up) ∨ (s.sup.dir = .down ∧ x.dir = .down))
      ∧ (x.lo : Int) ≤ hi ∧ lo ≤ (x.hi : Int)
    let ahead := fun (x : Restriction) => some x ∈ s.restr.table ∧ x.active = true ∧ x.kind = .stop
      ∧ x.issuer = .valley ∧ ((s.sup.dir = .up ∧ x.dir = .up ∧ p ≤ (x.lo : Int))
          ∨ (s.sup.dir = .down ∧ x.dir = .down ∧ (x.lo : Int) ≤ p - s.params.L))
    (∀ e, covers e → t.sup.vPerm ≤ e.limit)
    ∧ (∀ x, binds x → t.sup.vPerm ≤ x.limit * 250 / 9)
    ∧ ((∀ x, ¬ ahead x) → (t.odo.standstill = true ∨ s.sup.retained = none) → t.sup.vPerm = 0)
    ∧ (t.sup.mode = .line → ∀ b, t.sup.binding = some b → t.sup.vPerm ≤ b.curve
        ∧ (t.sup.vPerm = b.curve ∨ (∃ e, covers e ∧ t.sup.vPerm = e.limit)
            ∨ ∃ x, binds x ∧ t.sup.vPerm = x.limit * 250 / 9))
    ∧ (t.sup.mode = .line →
        t.sup.limiting ≠ .mode
        ∧ (∀ n, t.sup.limiting = .static n → ∃ e r, some e ∈ s.window ∧ s.line.records[e.index]? = some r
            ∧ (r.start : Int) ≤ hi ∧ lo < ((r.start + r.length : Nat) : Int) ∧ r.number = n ∧ t.sup.vPerm = e.limit)
        ∧ (∀ i id, t.sup.limiting = .restriction i id →
            (∃ x, binds x ∧ x.issuer = i ∧ x.id = id ∧ t.sup.vPerm = x.limit * 250 / 9)
            ∧ ∀ e, covers e → t.sup.vPerm < e.limit)
        ∧ (t.sup.limiting = .target → (∀ e, covers e → t.sup.vPerm < e.limit)
            ∧ ∀ x, binds x → t.sup.vPerm < x.limit * 250 / 9)
        ∧ (∀ x, ahead x → (∀ y, ahead y → if s.sup.dir = .up then x.lo ≤ y.lo else y.lo ≤ x.lo) →
            t.sup.retained = some x.lo)
        ∧ ((∀ x, ¬ ahead x) → t.sup.retained = if t.odo.standstill = true then none else s.sup.retained)
        ∧ (let e := evalOf (issueSample s)
          t.sup.curve = some (along s.sup.dir e.curvePoint, e.dR)
          ∧ t.sup.binding = (bindingOf e (targets e (if t.odo.standstill = true then none else s.sup.retained))).map
            (fun x => ⟨x.kind, if s.sup.dir = .down then -x.at_ else x.at_, x.speed, curveSpeed e x,
              (x.at_ - e.curvePoint).toNat, x.ref⟩)))

/-- The curve speed of a target (R93): the target speed when the curve point has reached it, else the greatest whole
number whose square does not exceed the sum held at 2^40 - 1, over the pieces of the span in each section; and the
binding target is the one of lowest curve speed (R98), the nearest to the safe front by absolute distance where several
have it (log 23). And which targets an evaluation collects (R89 to R92), in coordinates that grow in the travel
direction. -/
def Obligations.CurveSpeeds : Prop :=
  (∀ (e : Eval) (x : Target),
    (x.at_ ≤ e.curvePoint → curveSpeed e x = x.speed)
    ∧ (e.curvePoint < x.at_ →
        let total := x.speed ^ 2 + 2 * (e.entries.map fun y =>
          y.2.1.aS * (min x.at_ (sectionExit e.dir y.2.2) - max e.curvePoint (sectionEntry e.dir y.2.2)).toNat).sum
        curveSpeed e x ^ 2 ≤ min total (2 ^ 40 - 1) ∧ min total (2 ^ 40 - 1) < (curveSpeed e x + 1) ^ 2))
  ∧ (∀ (e : Eval) (xs : List Target) (b : Target), bindingOf e xs = some b →
      b ∈ xs ∧ ∀ x ∈ xs, curveSpeed e b < curveSpeed e x
        ∨ (curveSpeed e b = curveSpeed e x ∧ (b.at_ - e.front).natAbs ≤ (x.at_ - e.front).natAbs))
  ∧ (∀ s : State, s.sup.dir ≠ .neutral →
    let e := evalOf s
    let down := s.sup.dir = .down
    let g := fun (y : Int) => if s.sup.dir = .down then -y else y
    let lo : Int := (s.odo.sample.p : Int) - s.params.L - s.odo.sample.u
    let hi : Int := (s.odo.sample.p : Int) + s.odo.sample.u
    let front : Int := if s.sup.dir = .down then -lo else hi
    let least : Int := if s.sup.dir = .down then -((s.odo.sample.p : Int) - s.params.L) else s.odo.sample.p
    let far := fun (r : SectionRec) => g (if s.sup.dir = .down then (r.start : Int) else (r.start + r.length : Nat))
    let near := fun (z : Restriction) => g (if s.sup.dir = .down then (z.hi : Int) else z.lo)
    let lineEndAt : Int := g (if s.sup.dir = .down then (lineStart s : Int) else (lineEnd s : Int))
    let inView := ∃ w r, some w ∈ s.window ∧ s.line.records[w.index]? = some r
      ∧ w.index = (if s.sup.dir = .down then 0 else s.line.records.length - 1)
    let edge := fun (w : WinEntry) (r : SectionRec) => s.window[31]? = some (some w) ∧ s.line.records[w.index]? = some r
    let within := fun (y : Int) => (inView ∧ y ≤ lineEndAt) ∨ (¬ inView ∧ ∃ w r, edge w r ∧ y ≤ far r)
    let own := fun (z : Restriction) => (s.sup.dir = .up ∧ z.dir = .up) ∨ (down ∧ z.dir = .down)
    let active := fun (z : Restriction) => some z ∈ s.restr.table ∧ z.active = true
    let ahead := fun (z : Restriction) => active z ∧ z.kind = .stop ∧ own z ∧ least ≤ g z.lo
    e.front = front ∧ e.dR = s.odo.sample.v.natAbs * s.params.tR / 1000 ∧ e.curvePoint = front + e.dR
    ∧ (∀ z, authorityStop e = some z → ahead z ∧ z.issuer = .valley
        ∧ ∀ y, ahead y → y.issuer = .valley → g z.lo ≤ g y.lo)
    ∧ (authorityStop e = none ↔ ∀ z, ahead z → z.issuer ≠ .valley)
    ∧ (∀ (retained : Option Nat) (y : Target), y ∈ targets e retained ↔
        (∃ j w r, 9 ≤ j ∧ s.window[j]? = some (some w) ∧ s.line.records[w.index]? = some r
          ∧ ¬ ((r.start : Int) ≤ hi ∧ lo < ((r.start + r.length : Nat) : Int))
          ∧ y = ⟨.sectionEntry, g (if s.sup.dir = .down then ((r.start + r.length : Nat) : Int) else r.start), w.limit,
              .section_ r.number⟩)
        ∨ (∃ z, active z ∧ z.kind = .speed ∧ (own z ∨ z.dir = .both) ∧ front < near z ∧ within (near z)
          ∧ y = ⟨.speedBegin, near z, z.limit * 250 / 9, .restriction z.issuer z.id⟩)
        ∨ (∃ z, ahead z ∧ (z.issuer = .valley ∨ z.issuer = .car) ∧ within (g z.lo)
          ∧ y = ⟨.stop, g z.lo, 0, .restriction z.issuer z.id⟩)
        ∨ (∃ z, authorityStop e = some z ∧ within (g z.lo)
          ∧ y = ⟨.authorityEnd, g z.lo, 0, .restriction z.issuer z.id⟩)
        ∨ (∃ k : Nat, authorityStop e = none ∧ retained = some k ∧ within (g k)
          ∧ y = ⟨.authorityRetained, g k, 0, .none⟩)
        ∨ (authorityStop e = none ∧ retained = none ∧ y = ⟨.noAuthority, front, 0, .none⟩)
        ∨ (inView ∧ y = ⟨.lineEnd, lineEndAt, 0, .none⟩)
        ∨ (¬ inView ∧ ∃ w r, edge w r ∧ y = ⟨.windowEdge, far r, min (s.params.vEdge * 250 / 9) w.limit, .none⟩)))

/-- TRIPPED is left only by RELEASE_TRIP at standstill and by a reset, and is entered only at a position sample or an
SB_DEFICIT notice from DEPOT or LINE, with the trip record, the mode before trip and the SUPERVISOR entry that go with it
(R77, R80, R81, R82, R83; the record's position: log 30). -/
def Obligations.TrippedHeld : Prop :=
  ∀ (c : Instr) (s t : State), exec c s = .next t →
    (s.sup.mode = .tripped → t.sup.mode ≠ .tripped →
      c = .powerOnReset ∨ (s.odo.standstill = true ∧ (c = .reset ∨ (c = .releaseTrip ∧ t.odo.state ≠ .fault))))
    ∧ (s.sup.mode ≠ .tripped → t.sup.mode = .tripped →
        (c = .positionSample ∨ c = .deficitTimerExpiry) ∧ (s.sup.mode = .depot ∨ s.sup.mode = .line)
        ∧ t.sup.modeBefore = s.sup.mode
        ∧ (∃ cause, t.sup.trip = some ⟨cause, s.sup.mode, s.odo.pUm / 1000, s.restr.clock⟩
            ∧ (c = .deficitTimerExpiry → cause = .serviceDeficit))
        ∧ t.brakes.supervisor = ⟨100, .latched⟩ ∧ t.brakes.tperm = false
        ∧ t.link.flags.getLsbD (flagIndex .modeChanged) = true)

/-! ### Brakes and Traction Permit -/

/-- BRAKE_DEMAND (R103, R105, R110, R116): the HOST entry with its level held to 100 and its latch kept, the combination
that follows, the rack brake told of an emergency that appears, the permit, judged at every combination (log 35), and
the answer. -/
def Obligations.BrakeDemand : Prop :=
  ∀ (level : Nat) (emergency : Bool) (s : State), ∃ t, exec (.brakeDemand level emergency) s = .next t
    ∧ OnlyChanges [.brakes, .link] s t
    ∧ t.brakes.host = ⟨min level 100, if emergency = true then .latched else s.brakes.host.emergency⟩
    ∧ t.brakes.supervisor = s.brakes.supervisor ∧ t.brakes.odometry = s.brakes.odometry
    ∧ t.brakes.doors = s.brakes.doors ∧ t.brakes.radio = s.brakes.radio ∧ t.brakes.brake = s.brakes.brake
    ∧ (t.brakes.emergency = true ↔ ∃ src, (getDemand t.brakes src).emergency ≠ .none)
    ∧ (t.brakes.emergency = true → t.brakes.effort = 100)
    ∧ (t.brakes.emergency = false → (∀ src, (getDemand t.brakes src).level ≤ t.brakes.effort)
        ∧ (t.brakes.effort = 0 ∨ ∃ src, (getDemand t.brakes src).level = t.brakes.effort))
    ∧ (t.brakes.emergency = s.brakes.emergency → t.brakes.rack = s.brakes.rack
        ∧ t.brakes.rackTimer = s.brakes.rackTimer)
    ∧ (s.brakes.emergency = false → t.brakes.emergency = true → s.brakes.rack = .releasing ∨ s.brakes.rack = .released →
        t.brakes.rack = .applying ∧ t.brakes.rackTimer = some s.params.tApp)
    ∧ (t.brakes.effort = s.brakes.effort → t.brakes.deficitTimer = s.brakes.deficitTimer)
    ∧ (t.brakes.effort ≠ s.brakes.effort →
        t.brakes.deficitTimer = s.brakes.deficitTimer.map (fun _ => s.params.tTrack))
    ∧ (t.brakes.tperm = true ↔ (s.sup.mode = .depot ∨ s.sup.mode = .line) ∧ (s.sup.dir = .up ∨ s.sup.dir = .down)
        ∧ (s.sup.level = .normal ∨ s.sup.level = .indication ∨ s.sup.level = .warning)
        ∧ t.brakes.emergency = false ∧ t.brakes.rack = .released ∧ s.doors.closed = true)
    ∧ t.brakes.rackFault = s.brakes.rackFault ∧ t.brakes.ain0 = s.brakes.ain0 ∧ t.brakes.ain1 = s.brakes.ain1
    ∧ t.brakes.sbDeficit = s.brakes.sbDeficit ∧ t.brakes.causes = s.brakes.causes
    ∧ Answered .brakeDemand .done
        (u8 (min level 100) ++ u8 (emergencyCode t.brakes.host.emergency)) s.link t

/-- RELEASE_TRIP (R49, R83, R107, R110): refused while moving; at standstill the odometry leaves a FAULT inside the line,
the supervisor leaves TRIPPED, each latch is cleared whose condition holds, and with no emergency left the rack brake
begins its release. A refused request's answer carries zeros (log 18). -/
def Obligations.ReleaseTrip : Prop :=
  ∀ s : State, ∃ t, exec .releaseTrip s = .next t
    ∧ (s.odo.standstill = false → AnsweredOnly .releaseTrip .moving (noRecord 6) s t)
    ∧ (s.odo.standstill = true →
        OnlyChanges [.brakes, .link, .odo, .restr, .sup, .line, .window, .staging, .tele, .radio, .doors] s t
        ∧ (if s.odo.state = .fault ∧ lineStart s ≤ s.odo.pUm / 1000 ∧ s.odo.pUm / 1000 < lineEnd s then
            t.odo.state = .degraded ∧ t.odo.uUm = s.params.uMax * 1000 ∧ t.odo.carry = 0 ∧ t.odo.accPin = 0
            ∧ t.odo.accWhl = 0 ∧ t.odo.cal = none ∧ t.odo.pUm = s.odo.pUm ∧ t.odo.cur = s.odo.cur
            ∧ t.odo.lower = s.odo.lower ∧ t.odo.upper = s.odo.upper ∧ t.odo.causes.getLsbD 6 = true
            ∧ t.link.flags.getLsbD 6 = true
          else t.odo = s.odo)
        ∧ (s.sup.mode = .tripped → t.odo.state ≠ .fault → s.sup.modeBefore = .depot ∨ s.sup.modeBefore = .line →
            t.sup = { s.sup with mode := s.sup.modeBefore, rollback := 0 }
            ∧ t.link.flags.getLsbD (flagIndex .modeChanged) = true)
        ∧ (s.sup.mode ≠ .tripped ∨ t.odo.state = .fault → t.sup = s.sup)
        ∧ t.brakes.radio = s.brakes.radio
        ∧ (s.brakes.host.emergency = .latched → t.brakes.host = ⟨s.brakes.host.level, .none⟩)
        ∧ (s.brakes.odometry.emergency = .latched →
            t.brakes.odometry = ⟨s.brakes.odometry.level, if t.odo.state = .fault then .latched else .none⟩)
        ∧ (s.brakes.brake.emergency = .latched → t.brakes.brake =
            ⟨s.brakes.brake.level, if s.brakes.rack = .faultNotApplied then .latched else .none⟩)
        ∧ (s.brakes.doors.emergency = .latched →
            t.brakes.doors.emergency = if t.doors.closed = true then .none else .latched)
        ∧ (s.brakes.supervisor.emergency = .latched → s.sup.modeBefore ≠ .standby →
            t.brakes.supervisor.emergency = if t.sup.mode = .tripped then .latched else .none)
        ∧ (s.brakes.emergency = true → t.brakes.emergency = false → s.brakes.rack = .applied →
            t.brakes.rack = .releasing ∧ t.brakes.rackTimer = some s.params.tRel)
        ∧ (∃ n, Answered .releaseTrip .done
            ([t.brakes.supervisor, t.brakes.odometry, t.brakes.doors, t.brakes.radio, t.brakes.host,
              t.brakes.brake].flatMap (fun d => u8 (emergencyCode d.emergency)))
            { s.link with flags := n } t))

/-- The expiries of `t_rel`, `t_app` and the deficit timer (R110, R112, R113, R115, R97). In a state for which R110 to
R113 give the expiry no row nothing happens, and neither with the deficit timer stopped, when it does not expire: the
model's choice (log 13). The trip record's position is the present one (log 30). -/
def Obligations.BrakeTimers : Prop :=
  (∀ s : State, ∃ t, exec .tRelExpiry s = .next t
    ∧ (s.brakes.rack ≠ .releasing → t = s)
    ∧ (s.brakes.rack = .releasing → OnlyChanges [.brakes, .link] s t
        ∧ t.brakes.rack = .faultNotReleased ∧ t.brakes.rackTimer = some s.params.tApp
        ∧ t.brakes.rackFault = some .releaseTimeout ∧ t.brakes.brake = ⟨s.brakes.brake.level, .latched⟩
        ∧ t.brakes.supervisor = s.brakes.supervisor ∧ t.brakes.odometry = s.brakes.odometry
        ∧ t.brakes.doors = s.brakes.doors ∧ t.brakes.radio = s.brakes.radio ∧ t.brakes.host = s.brakes.host
        ∧ t.brakes.emergency = true ∧ t.brakes.effort = 100 ∧ t.brakes.tperm = false
        ∧ t.brakes.causes = s.brakes.causes ||| 1#16 ∧ t.link = flagged .brakeFault s.link))
  ∧ (∀ s : State, ∃ t, exec .tAppExpiry s = .next t
    ∧ (s.brakes.rack ≠ .applying → s.brakes.rack ≠ .faultNotReleased → t = s)
    ∧ (s.brakes.rack = .applying ∨ s.brakes.rack = .faultNotReleased → OnlyChanges [.brakes, .link] s t
        ∧ t.brakes.rack = .faultNotApplied ∧ t.brakes.rackTimer = none
        ∧ t.brakes.rackFault = some .applyTimeout ∧ t.brakes.brake = ⟨100, .latched⟩
        ∧ t.brakes.supervisor = s.brakes.supervisor ∧ t.brakes.odometry = s.brakes.odometry
        ∧ t.brakes.doors = s.brakes.doors ∧ t.brakes.radio = s.brakes.radio ∧ t.brakes.host = s.brakes.host
        ∧ t.brakes.emergency = true ∧ t.brakes.effort = 100 ∧ t.brakes.tperm = false
        ∧ t.brakes.causes = s.brakes.causes ||| 4#16 ∧ t.link = flagged .brakeFault s.link))
  ∧ (∀ s : State, ∃ t, exec .deficitTimerExpiry s = .next t
    ∧ (s.brakes.deficitTimer = none → t = s)
    ∧ (s.brakes.deficitTimer ≠ none →
        t.brakes.sbDeficit = true ∧ t.brakes.deficitTimer = none ∧ t.sup.sbView = true
        ∧ t.brakes.causes = s.brakes.causes ||| 16#16 ∧ t.link.flags.getLsbD (flagIndex .brakeFault) = true
        ∧ (if s.sup.level = .service ∧ (s.sup.mode = .depot ∨ s.sup.mode = .line) then
            OnlyChanges [.brakes, .link, .sup, .line, .window, .staging, .tele, .radio, .doors] s t
            ∧ t.sup = { s.sup with
                sbView := true, mode := .tripped, modeBefore := s.sup.mode,
                trip := some ⟨.serviceDeficit, s.sup.mode, s.odo.pUm / 1000, s.restr.clock⟩ }
            ∧ t.brakes.supervisor = ⟨100, .latched⟩ ∧ t.brakes.emergency = true ∧ t.brakes.tperm = false
          else
            OnlyChanges [.brakes, .link, .sup] s t ∧ t.sup = { s.sup with sbView := true }
            ∧ t.brakes.rack = s.brakes.rack ∧ t.brakes.effort = s.brakes.effort
            ∧ t.brakes.tperm = s.brakes.tperm)))

/-- The brakes stay sound at every step: emergency present, effort level and traction permit are what they are computed
from, car closed is what the leaves say, the release coil is energised only without an emergency demand, the rack brake's
timer runs in the states that give it one, and the SUPERVISOR entry's emergency demand is the one of the mode (R80, R103,
R109, R116, R140). -/
def Obligations.BrakesStaySound : Prop :=
  ∀ s t : State, step s = .next t → BrakesSound s → BrakesSound t

/-- A latched demand stays until RELEASE_TRIP at standstill clears it, or a reset; the RADIO latch until STOP_RELEASE, or
a reset (R102, R106, R107). The SUPERVISOR entry is the one the mode calls for, which every step keeps (R80). -/
def Obligations.LatchesHeld : Prop :=
  ∀ (c : Instr) (s t : State) (src : BrakeSource), exec c s = .next t → SupervisorEntry s →
    (getDemand s.brakes src).emergency = .latched → (getDemand t.brakes src).emergency ≠ .latched →
      c = .powerOnReset ∨ (c = .reset ∧ s.odo.standstill = true)
        ∨ (src = .radio ∧ ∃ h, c = .stopRelease h)
        ∨ (src ≠ .radio ∧ c = .releaseTrip ∧ s.odo.standstill = true)

/-! ### Doors -/

/-- RELEASE_SIDE (R122, R136, R137): the checks in their order against the last sample's position, the record put in
force with the first qualifying platform in offset order, and the grant to each leaf of the side, which moves on at once
where the level it awaits already holds. -/
def Obligations.ReleaseSide : Prop :=
  ∀ (code : Nat) (auto : Bool) (s : State), ∃ t, exec (.releaseSide code auto) s = .next t
    ∧ (code = 0 ∨ 2 < code → AnsweredOnly .releaseSide .badValue [] s t)
    ∧ (∀ side : Side, side ≠ .both → sideCode side = code →
        let known := s.odo.state = .valid ∨ s.odo.state = .degraded
        let lo := (s.odo.sample.p : Int) - s.params.L - s.odo.sample.u
        let hi := (s.odo.sample.p : Int) + s.odo.sample.u
        let stands := fun (r : SectionRec) (q : Platform) =>
          (∃ e, some e ∈ s.window ∧ s.line.records[e.index]? = some r) ∧ r.platform = some q
            ∧ (q.lo : Int) ≤ lo ∧ hi ≤ (q.hi : Int)
        let serves := fun (q : Platform) => q.side = .both ∨ q.side = side
        let forbidden := ∃ x, some x ∈ s.restr.table ∧ x.active = true ∧ x.kind = .door
          ∧ (x.lo : Int) ≤ hi ∧ lo ≤ (x.hi : Int) ∧ (x.limit = 3 ∨ x.limit = code)
        (s.sup.mode ≠ .depot → s.sup.mode ≠ .line → AnsweredOnly .releaseSide .mode [] s t)
        ∧ (s.sup.mode = .depot ∨ s.sup.mode = .line →
          (s.odo.standstill = false → AnsweredOnly .releaseSide .notStill [] s t)
          ∧ (s.odo.standstill = true →
            (s.sup.mode = .line → ¬ known → AnsweredOnly .releaseSide .odometry [] s t)
            ∧ (s.sup.mode = .line → known → (∀ r q, ¬ stands r q) → AnsweredOnly .releaseSide .noPlatform [] s t)
            ∧ (s.sup.mode = .line → known → (∃ r q, stands r q) → (∀ r q, stands r q → ¬ serves q) →
                AnsweredOnly .releaseSide .wrongSide [] s t)
            ∧ ((s.sup.mode = .line → ∃ r q, stands r q ∧ serves q) → known → forbidden →
                AnsweredOnly .releaseSide .doorRestricted [] s t)
            ∧ ((s.sup.mode = .line → known ∧ ∃ r q, stands r q ∧ serves q) → ¬ (known ∧ forbidden) →
                OnlyChanges [.doors, .brakes, .link] s t
                ∧ (getRelease t.doors side).inForce = true ∧ (getRelease t.doors side).autoOpen = auto
                ∧ (getRelease t.doors side).cause = (getRelease s.doors side).cause
                ∧ (s.sup.mode = .depot → (getRelease t.doors side).platform = none)
                ∧ (s.sup.mode = .line → ∃ r q, stands r q ∧ serves q
                    ∧ (getRelease t.doors side).platform = some (q.id, r.number))
                ∧ (∀ (k : Nat) (e : WinEntry) (r : SectionRec) (q : Platform), s.sup.mode = .line →
                    s.window[k]? = some (some e) → s.line.records[e.index]? = some r →
                    stands r q → serves q →
                    (∀ j < k, ∀ (f : WinEntry) (r' : SectionRec) (q' : Platform), s.window[j]? = some (some f) →
                      s.line.records[f.index]? = some r' → stands r' q' → ¬ serves q') →
                    (getRelease t.doors side).platform = some (q.id, r.number))
                ∧ (∀ id, leafSide id ≠ side → getLeaf t.doors.leaves id = getLeaf s.doors.leaves id)
                ∧ (side = .left → t.doors.right = s.doors.right) ∧ (side = .right → t.doors.left = s.doors.left)
                ∧ (∀ id, leafSide id = side →
                    let l := getLeaf s.doors.leaves id
                    let m := getLeaf t.doors.leaves id
                    (l.state = .locked → l.lks = true → m = unboltedFrom l)
                    ∧ (l.state = .locked → l.lks = false → auto = false →
                        m = { l with state := .unlocked, timer := none })
                    ∧ (l.state = .locked ∧ l.lks = false ∨ l.state = .unlocked → auto = true → l.ops = false →
                        m = { l with state := .opening, timer := some (.tOpen, s.params.tOpen) })
                    ∧ (l.state = .locked ∧ l.lks = false ∨ l.state = .unlocked → auto = true → l.ops = true →
                        m = stoodOpen l)
                    ∧ (l.state = .unlocked → auto = false → m = l)
                    ∧ (l.state = .opened → m = { l with closePending := false, timer := none })
                    ∧ (l.state = .reopening → m = { l with closePending := false })
                    ∧ (l.state ∈ [.closing, .locking, .unlocking, .opening, .halted, .fault, .isolated] → m = l))
                ∧ t.doors.closed = carClosed t.doors.leaves
                ∧ (∃ n, Answered .releaseSide .done [] { s.link with flags := n } t)))))

/-- CLOSE_SIDE and CLOSE_ALL (R135): accepted in every mode at any speed, they withdraw the release of each side named
and give its leaves the close request. -/
def Obligations.CloseSides : Prop :=
  ∀ s : State,
    let closes := fun (side : Side) (t : State) =>
      ((getRelease s.doors side).inForce = true →
          getRelease t.doors side = ⟨false, false, none, .closeRequest⟩)
      ∧ ((getRelease s.doors side).inForce = false → getRelease t.doors side = getRelease s.doors side)
      ∧ (∀ id, leafSide id = side → CloseTaken s.params (getLeaf s.doors.leaves id) (getLeaf t.doors.leaves id))
    (∀ code, ∃ t, exec (.closeSide code) s = .next t
      ∧ (code = 0 ∨ 2 < code → AnsweredOnly .closeSide .badValue [] s t)
      ∧ (∀ side : Side, side ≠ .both → sideCode side = code →
          OnlyChanges [.doors, .brakes, .link] s t ∧ closes side t
          ∧ (side = .left → t.doors.right = s.doors.right) ∧ (side = .right → t.doors.left = s.doors.left)
          ∧ (∀ id, leafSide id ≠ side → getLeaf t.doors.leaves id = getLeaf s.doors.leaves id)
          ∧ t.doors.closed = carClosed t.doors.leaves
          ∧ (∃ n, Answered .closeSide .done [] { s.link with flags := n } t)))
    ∧ (∃ t, exec .closeAll s = .next t ∧ OnlyChanges [.doors, .brakes, .link] s t
      ∧ closes .left t ∧ closes .right t ∧ t.doors.closed = carClosed t.doors.leaves
      ∧ (∃ n, Answered .closeAll .done [] { s.link with flags := n } t))

/-- ISOLATE_LEAF, RESTORE_LEAF and READ_DOOR_FAULT (R122, R134, R139). A refused or NONE answer of the last carries
zeros (log 18). -/
def Obligations.LeafRequests : Prop :=
  (∀ (code : Nat) (s : State),
    (5 < code →
      (∃ t, exec (.isolateLeaf code) s = .next t ∧ AnsweredOnly .isolateLeaf .badValue [] s t)
      ∧ (∃ t, exec (.restoreLeaf code) s = .next t ∧ AnsweredOnly .restoreLeaf .badValue [] s t)
      ∧ (∃ t, exec (.readDoorFault code) s = .next t ∧ AnsweredOnly .readDoorFault .badValue (noRecord 6) s t)))
  ∧ (∀ (id : LeafId) (s : State),
    let code := match id with | .l1 => 0 | .l2 => 1 | .l3 => 2 | .r4 => 3 | .r5 => 4 | .r6 => 5
    let l := getLeaf s.doors.leaves id
    (∃ t, exec (.isolateLeaf code) s = .next t
      ∧ (l.state = .isolated → AnsweredOnly .isolateLeaf .done [] s t)
      ∧ (l.state ≠ .isolated → (l.cls = false ∨ l.lks = false) → AnsweredOnly .isolateLeaf .badState [] s t)
      ∧ (l.state ≠ .isolated → l.cls = true → l.lks = true →
          ∃ m, LeafMoved id { lockedAway l with state := .isolated } 0#16 s m
            ∧ OnlyChanges [.link] m t ∧ Answered .isolateLeaf .done [] m.link t))
    ∧ (∃ t, exec (.restoreLeaf code) s = .next t
      ∧ (l.state ≠ .isolated ∨ l.cls = false ∨ l.lks = false → AnsweredOnly .restoreLeaf .badState [] s t)
      ∧ (l.state = .isolated → l.cls = true → l.lks = true →
          ∃ m, (if (getRelease s.doors (leafSide id)).inForce = true then
                LeafPassed id (lockedAway l) (unboltedFrom (lockedAway l)) s m
              else LeafMoved id (lockedAway l) 0#16 s m)
            ∧ OnlyChanges [.link] m t ∧ Answered .restoreLeaf .done [] m.link t))
    ∧ (∃ t, exec (.readDoorFault code) s = .next t
      ∧ (l.fault = none → AnsweredOnly .readDoorFault .none (noRecord 6) s t)
      ∧ (∀ c clock, l.fault = some (c, clock) → OnlyChanges [.doors, .link] s t
          ∧ getLeaf t.doors.leaves id = { l with fault := none }
          ∧ (∀ j, j ≠ id → getLeaf t.doors.leaves j = getLeaf s.doors.leaves j)
          ∧ t.doors = { s.doors with leaves := t.doors.leaves }
          ∧ Answered .readDoorFault .accepted (u8 (leafCauseCode c) ++ flagged32 clock) s.link t)))

/-- The switches and the push button of a leaf, and the expiries of its motion timer (R121 to R133, R140): the
transition each state takes, the states that take none, and that no other leaf moves. A leaf that reaches LOCKED under a
release passes through it to UNLOCKING, and car closed is derived in both. A level already held, and an expiry of a time that
does not run, is no event (log 12, log 13). -/
def Obligations.LeafEvents : Prop :=
  ∀ (id : LeafId) (s : State),
    let l := getLeaf s.doors.leaves id
    let clock := s.restr.clock
    let released := (getRelease s.doors (leafSide id)).inForce
    let auto := (getRelease s.doors (leafSide id)).autoOpen
    (∃ t, exec (.clsChange id false) s = .next t ∧ (l.cls = false → t = s)
      ∧ (l.cls = true → l.state ∈ [.locked, .locking, .isolated] →
          LeafMoved id (faulted .switchDisagree clock { l with cls := false }) 1#16 s t)
      ∧ (l.cls = true → l.state ∉ [.locked, .locking, .isolated] → LeafMoved id { l with cls := false } 0#16 s t))
    ∧ (∃ t, exec (.clsChange id true) s = .next t ∧ (l.cls = true → t = s)
      ∧ (l.cls = false → l.state ≠ .closing → LeafMoved id { l with cls := true } 0#16 s t)
      ∧ (l.cls = false → l.state = .closing → l.lks = false →
          LeafMoved id { l with cls := true, state := .locking, timer := some (.tLock, 500) } 0#16 s t)
      ∧ (l.cls = false → l.state = .closing → l.lks = true → released = false →
          LeafMoved id (lockedAway { l with cls := true }) 0#16 s t)
      ∧ (l.cls = false → l.state = .closing → l.lks = true → released = true →
          LeafPassed id (lockedAway { l with cls := true }) (unboltedFrom (lockedAway { l with cls := true })) s t))
    ∧ (∃ t, exec (.lksChange id false) s = .next t ∧ (l.lks = false → t = s)
      ∧ (l.lks = true → l.state ∈ [.locked, .isolated] →
          LeafMoved id (faulted .switchDisagree clock { l with lks := false }) 1#16 s t)
      ∧ (l.lks = true → l.state = .unlocking → auto = false →
          LeafMoved id { l with lks := false, state := .unlocked, timer := none } 0#16 s t)
      ∧ (l.lks = true → l.state = .unlocking → auto = true → l.ops = false →
          LeafMoved id { l with lks := false, state := .opening, timer := some (.tOpen, s.params.tOpen) } 0#16 s t)
      ∧ (l.lks = true → l.state = .unlocking → auto = true → l.ops = true →
          LeafMoved id (stoodOpen { l with lks := false }) 0#16 s t)
      ∧ (l.lks = true → l.state ∉ [.locked, .isolated, .unlocking] → LeafMoved id { l with lks := false } 0#16 s t))
    ∧ (∃ t, exec (.lksChange id true) s = .next t ∧ (l.lks = true → t = s)
      ∧ (l.lks = false → l.state ≠ .locking → LeafMoved id { l with lks := true } 0#16 s t)
      ∧ (l.lks = false → l.state = .locking → released = false →
          LeafMoved id (lockedAway { l with lks := true }) 0#16 s t)
      ∧ (l.lks = false → l.state = .locking → released = true →
          LeafPassed id (lockedAway { l with lks := true }) (unboltedFrom (lockedAway { l with lks := true })) s t))
    ∧ (∀ on, ∃ t, exec (.opsChange id on) s = .next t ∧ (l.ops = on → t = s)
      ∧ (l.ops ≠ on → (on = true ∧ (l.state = .opening ∨ l.state = .reopening)) →
          LeafMoved id (stoodOpen { l with ops := true }) 0#16 s t)
      ∧ (l.ops ≠ on → ¬ (on = true ∧ (l.state = .opening ∨ l.state = .reopening)) →
          LeafMoved id { l with ops := on } 0#16 s t))
    ∧ (∀ on, ∃ t, exec (.pbPressed id on) s = .next t ∧ (l.pb = on → t = s)
      ∧ (l.pb ≠ on → on = true → l.state = .unlocked → l.ops = false →
          LeafMoved id { l with pb := true, state := .opening, timer := some (.tOpen, s.params.tOpen) } 0#16 s t)
      ∧ (l.pb ≠ on → on = true → l.state = .unlocked → l.ops = true →
          LeafMoved id (stoodOpen { l with pb := true }) 0#16 s t)
      ∧ (l.pb ≠ on → ¬ (on = true ∧ l.state = .unlocked) → LeafMoved id { l with pb := on } 0#16 s t))
    ∧ (∃ t, exec (.tLockExpiry id) s = .next t
      ∧ (∀ n, l.timer = some (.tLock, n) → (l.state = .unlocking ∨ l.state = .locking) →
          LeafMoved id (faulted .lockTimeout clock l) 1#16 s t)
      ∧ (((∀ n, l.timer ≠ some (.tLock, n)) ∨ ¬ (l.state = .unlocking ∨ l.state = .locking)) → LeafMoved id l 0#16 s t))
    ∧ (∃ t, exec (.tOpenExpiry id) s = .next t
      ∧ (∀ n, l.timer = some (.tOpen, n) → l.state = .opening → LeafMoved id (faulted .openTimeout clock l) 1#16 s t)
      ∧ (((∀ n, l.timer ≠ some (.tOpen, n)) ∨ ¬ l.state = .opening) → LeafMoved id l 0#16 s t))
    ∧ (∃ t, exec (.tCloseExpiry id) s = .next t
      ∧ (∀ n, l.timer = some (.tClose, n) → l.state = .closing → l.obstructions < s.params.obsLimit →
          (l.ops = false → LeafMoved id
            { l with obstructions := l.obstructions + 1, closePending := !released, state := .reopening,
                     timer := some (.tReopen, 1500) } 2#16 s t)
          ∧ (l.ops = true → LeafMoved id
            (stoodOpen { l with obstructions := l.obstructions + 1, closePending := !released }) 2#16 s t))
      ∧ (∀ n, l.timer = some (.tClose, n) → l.state = .closing → s.params.obsLimit ≤ l.obstructions →
          LeafMoved id (faulted .obstructionLimit clock l) 1#16 s t)
      ∧ (((∀ n, l.timer ≠ some (.tClose, n)) ∨ l.state ≠ .closing) → LeafMoved id l 0#16 s t))
    ∧ (∃ t, exec (.tReopenExpiry id) s = .next t
      ∧ (∀ n, l.timer = some (.tReopen, n) → l.state = .reopening → LeafMoved id (stoodOpen l) 0#16 s t)
      ∧ (((∀ n, l.timer ≠ some (.tReopen, n)) ∨ ¬ l.state = .reopening) → LeafMoved id l 0#16 s t))
    ∧ (∃ t, exec (.tPauseExpiry id) s = .next t
      ∧ (∀ n, l.timer = some (.tPause, n) → l.state = .opened → l.closePending = true → l.cls = false →
          LeafMoved id
            { l with state := .closing, timer := some (.tClose, s.params.tClose), overCurrent := 0,
                     closePending := false } 0#16 s t)
      ∧ (∀ n, l.timer = some (.tPause, n) → l.state = .opened → l.closePending = true → l.cls = true →
          l.lks = false →
          LeafMoved id
            { l with state := .locking, timer := some (.tLock, 500), overCurrent := 0, closePending := false }
            0#16 s t)
      ∧ (∀ n, l.timer = some (.tPause, n) → l.state = .opened → l.closePending = true → l.cls = true →
          l.lks = true →
          if released = true then LeafPassed id (lockedAway l) (unboltedFrom (lockedAway l)) s t
          else LeafMoved id (lockedAway l) 0#16 s t)
      ∧ (((∀ n, l.timer ≠ some (.tPause, n)) ∨ l.state ≠ .opened ∨ l.closePending = false) →
          LeafMoved id l 0#16 s t))

/-- The doors stay sound at every step: a leaf is unlocking, unlocked or opening only under its side's release, a release
is in force only at standstill in DEPOT or LINE, each leaf's motion timer fits its state, and no leaf waits for a level
that already holds (R121, R122, R137). -/
def Obligations.DoorsStaySound : Prop :=
  ∀ s t : State, step s = .next t → DoorsSound s → LeavesTimed s → LeavesSettled s →
    DoorsSound t ∧ LeavesTimed t ∧ LeavesSettled t

/-! ### Valley Radio: frames, slots and synchronisation -/

/-- SET_SLOT, RADIO_RESET and SET_CHANNEL (R146, R148, R149, R150, R157, R158): the checks in their order and what the
controller's records become. A new channel of the tuned cell counts as a handover in SEARCH too (log 33); RTXEN and RTXD
then stay as the slot in progress began (log 43). -/
def Obligations.RadioRequests : Prop :=
  (∀ (slot route : Nat) (s : State), ∃ t, exec (.setSlot slot route) s = .next t
    ∧ (if s.radio.sync = .init then AnsweredOnly .setSlot .busy [] s t
      else if slot = 0 ∨ 7 < slot ∨ route = 2 ∨ 3 < route then AnsweredOnly .setSlot .badValue [] s t
      else if ∃ g, s.radio.grant = some g ∧ g.slot = slot then AnsweredOnly .setSlot .badState [] s t
      else OnlyChanges [.radio, .link] s t ∧ Answered .setSlot .done [] s.link t
        ∧ ∃ x, routeCode x = route ∧ t.radio = { s.radio with routes := s.radio.routes.set slot x }))
  ∧ (∀ s : State, ∃ t, exec .radioReset s = .next t ∧ OnlyChanges [.radio, .restr, .link] s t
    ∧ t.radio = { Radio.reset with channels := s.radio.channels, chsel := s.radio.chsel, initQuiet := false }
    ∧ (s.line.state = .sealed → s.restr.table[30]? = some none →
        t.restr.table = s.restr.table.set 30 (some (partRestriction .radioLoss s))
        ∧ t.restr.clock = s.restr.clock ∧ t.restr.second = s.restr.second
        ∧ Logged ⟨.inserted, none, some (.part, 0xFFF0, .speed, 30), s.restr.clock⟩ s.restr t.restr
        ∧ Answered .radioReset .started [] (flagged .restrictionChanged s.link) t)
    ∧ (∀ e, s.line.state ≠ .sealed ∨ s.restr.table[30]? = some (some e) →
        t.restr = s.restr ∧ Answered .radioReset .started [] s.link t))
  ∧ (∀ (cell channel : Nat) (s : State), ∃ t, exec (.setChannel cell channel) s = .next t
    ∧ (if s.sup.mode ≠ .standby then AnsweredOnly .setChannel .mode [] s t
      else if 15 < cell ∨ 255 < channel then AnsweredOnly .setChannel .badValue [] s t
      else
        OnlyChanges [.radio, .link] s t
        ∧ (let stored : Radio := { s.radio with channels := s.radio.channels.set cell channel }
          if s.radio.tuned = some cell ∧ s.radio.channels.getD cell 0 ≠ channel ∧ s.radio.sync ≠ .init then
            t.radio = { soughtAnew stored with chsel := channel, causes := s.radio.causes ||| 16#16 }
            ∧ Answered .setChannel .done [] (flagged .radioEvent s.link) t
          else t.radio = stored ∧ Answered .setChannel .done [] s.link t)))

/-- SLOT_START (R144, R145, R146, R147, R154, R155, R160, R173 to R175): the slot clock, the end of slot 0, the guard window,
the transmit opportunity with the telegram it sends, and the self-test, which always passes with a car address of 20
bits. A telegram not complete when its slot ends is discarded in LOCKED and HOLDOVER (log 14). With `t_hold` at 0 the
holdover timer expires at its start (R156). RSTB is shown as the pulse of the last slot event (log 29), the guard count
grows in SEARCH too (log 25), and a REPORT carries the last sample's position and state whatever has happened to the
odometry since (log 42). -/
def Obligations.SlotStarts : Prop :=
  ∀ s : State, ∃ t, exec .slotStart s = .next t
    ∧ (s.radio.sync = .init → t = s)
    ∧ (s.radio.sync ≠ .init →
        let i := if s.radio.slotIndex % 8 = 7 then 0 else s.radio.slotIndex % 8 + 1
        let missed := s.radio.sync = .locked ∧ s.radio.slotIndex = 0 ∧ s.radio.beaconSeen = false
        let lost := missed ∧ 3 ≤ s.radio.miss + 1
        let guard := if s.params.guard = 0 then 24 else 12
        let opportunity := (t.radio.sync = .locked ∨ t.radio.sync = .holdover)
          ∧ ∃ g, s.radio.grant = some g ∧ i = g.slot ∧ ((t.radio.frame : Int) - g.phase) % g.period = 0
        let report := withCrc (u8 (64 + s.params.carAddress / 65536 % 16) ++ u16 s.params.carAddress ++ [0x21#8]
          ++ u8 s.tele.lastStation ++ [27#8]
          ++ padTo 40 (u32 s.params.carAddress ++ u32 s.odo.sample.p ++ u32 s.odo.sample.u ++ speed16 s.odo.sample.v
            ++ u8 (dirCode s.sup.dir) ++ u8 (modeCode s.sup.mode) ++ u8 (levelCode s.sup.level)
            ++ u8 (odoStateCode s.odo.sample.state) ++ flag8 s.doors.closed ++ u8 (rackCode s.brakes.rack)
            ++ u16 (if s.line.state = .sealed then s.line.check.toNat else 0)
            ++ u16 (match s.staging with | .idle => 0 | .filling u => u.id | .held u _ => u.id)
            ++ u8 (countEntries .valley true s.restr) ++ u8 (countEntries .car true s.restr)
            ++ u8 (countEntries .part true s.restr)))
        OnlyChanges [.radio, .tele, .link] s t
        ∧ t.radio.slotIndex = i ∧ t.radio.slotTimer = some 10 ∧ t.radio.rstb = true
        ∧ t.radio.collection = (if s.radio.sync = .search then s.radio.collection else none)
        ∧ t.radio.frame = (if i = 0 then (if s.radio.frame % 25 = 24 then 0 else s.radio.frame % 25 + 1)
            else s.radio.frame)
        ∧ t.radio.slotRoute = s.radio.routes.getD i .off ∧ t.radio.routes = s.radio.routes
        ∧ t.radio.grant = s.radio.grant ∧ t.radio.tuned = s.radio.tuned ∧ t.radio.chsel = s.radio.chsel
        ∧ t.radio.channels = s.radio.channels ∧ t.radio.link = s.radio.link ∧ t.radio.loss = s.radio.loss
        ∧ t.radio.source = s.radio.source
        ∧ t.radio.sync = (if lost then (if s.params.tHold = 0 then .search else .holdover) else s.radio.sync)
        ∧ t.radio.miss = (if lost then 0 else if missed then s.radio.miss + 1 else s.radio.miss)
        ∧ t.radio.holdover = (if lost then (if s.params.tHold = 0 then none else some s.params.tHold)
            else s.radio.holdover)
        ∧ (lost → s.params.tHold = 0 → t.radio.causes.getLsbD 3 = true)
        ∧ (lost → t.radio.causes.getLsbD 2 = true ∧ t.link.flags.getLsbD (flagIndex .radioEvent) = true)
        ∧ t.radio.beaconSeen = (if i = 0 then false else s.radio.beaconSeen)
        ∧ (if i = 0 ∧ s.radio.guardOpen = false then
            t.radio.guardCount = min (s.radio.guardCount + 1) guard
            ∧ (t.radio.guardOpen = true ↔ guard ≤ s.radio.guardCount + 1)
          else t.radio.guardCount = s.radio.guardCount ∧ t.radio.guardOpen = s.radio.guardOpen)
        ∧ (opportunity → t.radio.rtxen = true ∧ t.radio.rtxd.length = 48
            ∧ t.tele.queue = s.tele.queue.drop 1 ∧ t.tele.filters = s.tele.filters
            ∧ ((s.tele.queue = [] ∨ s.tele.queue.head? = some .report) → t.radio.rtxd = report
                ∧ t.tele.counts = { s.tele.counts with reportsSent := min (s.tele.counts.reportsSent + 1) 65535 })
            ∧ (∀ k n res st, s.tele.queue.head? = some (.ack k n res st) →
                t.radio.rtxd = withCrc (u8 (64 + s.params.carAddress / 65536 % 16) ++ u16 s.params.carAddress
                  ++ [0x20#8] ++ u8 st ++ [4#8] ++ padTo 40 (u8 (ackKindCode k) ++ u16 n ++ u8 (resultCode res)))
                ∧ t.tele.counts = { s.tele.counts with acksSent := min (s.tele.counts.acksSent + 1) 65535 }))
        ∧ (¬ opportunity → t.radio.rtxen = false ∧ t.radio.rtxd = [] ∧ t.tele = s.tele)
        ∧ (if ¬ opportunity ∧ t.radio.slotRoute = .loop ∧ s.sup.mode = .standby then
            s.params.carAddress < 1048576 →
              t.radio.loopPass = min (s.radio.loopPass + 1) 65535 ∧ t.radio.loopFail = s.radio.loopFail
              ∧ t.radio.causes.getLsbD 7 = true ∧ t.link.flags.getLsbD (flagIndex .radioEvent) = true
          else t.radio.loopPass = s.radio.loopPass ∧ t.radio.loopFail = s.radio.loopFail))

/-- The end of the init sequence and the expiries of the holdover and the radio-loss timer (R149, R156, R161, R66). In a
state that does not run the timer the event changes nothing (log 13). RTXEN and RTXD stay as the slot in progress began
where SEARCH is entered in mid-slot (log 43). -/
def Obligations.RadioTimers : Prop :=
  (∀ s : State, ∃ t, exec .initSequenceEnd s = .next t
    ∧ (s.radio.sync ≠ .init → t = s)
    ∧ (s.radio.sync = .init → OnlyChanges [.radio, .link] s t
        ∧ (∃ cell, t.radio = { s.radio with
              sync := .search, initTimer := none, tuned := some cell, chsel := s.radio.channels.getD cell 0,
              slotTimer := some 10, slotIndex := 0, frame := 0, slotRoute := .receive, rstb := false,
              causes := if s.radio.initQuiet = true then s.radio.causes else s.radio.causes ||| 8#16 }
            ∧ (∀ c r, s.line.state = .sealed → s.odo.cur = some c → s.line.records[c]? = some r → cell = r.cell)
            ∧ (s.line.state ≠ .sealed ∨ s.odo.cur = none → cell = 0))
        ∧ t.link = if s.radio.initQuiet = true then s.link else flagged .radioEvent s.link))
  ∧ (∀ s : State, ∃ t, exec .holdoverTimerExpiry s = .next t
    ∧ (s.radio.sync ≠ .holdover → t = s)
    ∧ (s.radio.sync = .holdover → OnlyChanges [.radio, .link] s t
        ∧ t.radio = { s.radio with sync := .search, holdover := none, causes := s.radio.causes ||| 8#16 }
        ∧ t.link = flagged .radioEvent s.link))
  ∧ (∀ s : State, ∃ t, exec .radioLossTimerExpiry s = .next t
    ∧ (s.radio.loss = none → t = s)
    ∧ (s.radio.loss ≠ none → s.radio.link = .lost → OnlyChanges [.radio] s t
        ∧ t.radio = { s.radio with loss := none })
    ∧ (s.radio.loss ≠ none → s.radio.link = .ok → OnlyChanges [.radio, .restr, .link] s t
        ∧ t.radio = { s.radio with loss := none, link := .lost, causes := s.radio.causes ||| 32#16 }
        ∧ t.link.flags.getLsbD (flagIndex .radioEvent) = true
        ∧ (s.line.state = .sealed → s.restr.table[30]? = some none →
            t.restr.table = s.restr.table.set 30 (some (partRestriction .radioLoss s))
            ∧ Logged ⟨.inserted, none, some (.part, 0xFFF0, .speed, 30), s.restr.clock⟩ s.restr t.restr)
        ∧ (s.line.state ≠ .sealed → t.restr = s.restr ∧ t.link = flagged .radioEvent s.link)))

/-- BEACON and TELEGRAM_DISCARDED (R144, R151 to R156, R161, R164, R176): which beacons are valid, acquisition,
confirmation, resync, a wrong frame number with the window closed, and the counts. The discard of a telegram names the
step that discarded it and counts where the state allows that step (log 14, log 15). RTXEN and RTXD stay as the slot in
progress began, also where an acquisition or a resync realigns it (log 43). And the reception of the bytes on RRXD (R145):
a start marker begins a collection and discards an open one, a byte with none open is discarded, the 48th byte completes
the telegram, which joins the queue of commands with the slot in progress (log 14, log 17), and INIT receives nothing. -/
def Obligations.BeaconsAndDiscards : Prop :=
  (∀ (came : Came) (frame cell source : Nat) (s : State), ∃ t, exec (.beacon frame cell ⟨source, came⟩) s = .next t
    ∧ OnlyChanges [.radio, .tele, .link] s t
    ∧ (¬ Hears came s → t = s)
    ∧ (Hears came s →
        let tunnel := ∃ c r, s.odo.cur = some c ∧ s.line.records[c]? = some r ∧ r.tunnel = true
        let valid := (s.radio.sync = .search ∨ came.slot = 0) ∧ frame ≤ 24 ∧ cell ≤ 15
          ∧ s.radio.tuned = some cell ∧ (source = 1 ∨ (source = 2 ∧ tunnel))
        let from_ : BeaconSource := if source = 1 then .valley else .repeater
        let aligned : Radio := { s.radio with
          frame := frame, slotIndex := 0, slotRoute := .receive, slotTimer := some 6, rstb := false, source := from_,
          guardOpen := false, guardCount := 0, miss := 0, beaconSeen := true, loss := some s.params.tLoss }
        let heard : Radio := { s.radio with miss := 0, beaconSeen := true, loss := some s.params.tLoss }
        t.tele = { s.tele with counts := { s.tele.counts with
          received := min (s.tele.counts.received + 1) 65535, beacons := min (s.tele.counts.beacons + 1) 65535 } }
        ∧ (¬ valid → t.radio = s.radio ∧ t.link = s.link)
        ∧ (valid → s.radio.sync ≠ .locked → t.link = flagged .radioEvent s.link
            ∧ t.radio = { aligned with
                holdover := none, sync := .locked, causes := s.radio.causes ||| 1#16 })
        ∧ (valid → s.radio.sync = .locked → frame ≠ s.radio.frame → s.radio.guardOpen = true →
            t.link = flagged .radioEvent s.link
            ∧ t.radio = { aligned with causes := s.radio.causes ||| 2#16 })
        ∧ (valid → s.radio.sync = .locked → frame = s.radio.frame → s.radio.guardOpen = true →
            t.link = s.link ∧ t.radio = { heard with guardOpen := false, guardCount := 0 })
        ∧ (valid → s.radio.sync = .locked → s.radio.guardOpen = false → t.link = s.link ∧ t.radio = heard)))
  ∧ (∀ (came : Came) (step : DiscardStep) (s : State), ∃ t, exec (.telegramDiscarded ⟨step, came⟩) s = .next t
    ∧ OnlyChanges [.tele] s t
    ∧ (¬ Hears came s ∨ step = .notHandedOn → t = s)
    ∧ (Hears came s →
        let counted := fun (c : Counts) =>
          t.tele = { s.tele with counts := { c with received := min (s.tele.counts.received + 1) 65535 } }
        (step = .check → counted { s.tele.counts with checkErrors := min (s.tele.counts.checkErrors + 1) 65535 })
        ∧ (step = .header → counted { s.tele.counts with headerErrors := min (s.tele.counts.headerErrors + 1) 65535 })
        ∧ (step = .direction → counted { s.tele.counts with foreign := min (s.tele.counts.foreign + 1) 65535 })
        ∧ (step = .sync → s.radio.sync = .search →
            counted { s.tele.counts with searchDiscards := min (s.tele.counts.searchDiscards + 1) 65535 })
        ∧ (∀ dest address, step = .address dest address → s.radio.sync ≠ .search →
            ¬ Passes ⟨dest, address, 0, came⟩ s →
            counted { s.tele.counts with foreign := min (s.tele.counts.foreign + 1) 65535 })))
  ∧ (∀ (b : Byte) (s : State),
    (∀ start, s.radio.sync = .init → rrxdByte start b s = s)
    ∧ (s.radio.sync ≠ .init → rrxdByte true b s = s.setRadio { s.radio with collection := some [b] })
    ∧ (s.radio.collection = none → rrxdByte false b s = s)
    ∧ (∀ bs, s.radio.sync ≠ .init → s.radio.collection = some bs →
        (bs.length < 47 → rrxdByte false b s = s.setRadio { s.radio with collection := some (bs ++ [b]) })
        ∧ (bs.length = 47 → OnlyChanges [.pending, .radio] s (rrxdByte false b s)
            ∧ (rrxdByte false b s).radio = { s.radio with collection := none }
            ∧ (∃ came, came.slot = s.radio.slotIndex ∧ (came.receive = true ↔ s.radio.slotRoute = .receive)
              ∧ (rrxdByte false b s).pending = s.pending ++ [telegramCommand came (bs ++ [b])]))))
  ∧ (∀ (bs : List Byte) (s : State), s.radio.sync ≠ .init → bs.length = 48 →
      let t := arriveAll (telegramArrivals bs) s
      OnlyChanges [.pending, .radio] s t ∧ t.radio = { s.radio with collection := none }
        ∧ (∃ came, came.slot = s.radio.slotIndex ∧ (came.receive = true ↔ s.radio.slotRoute = .receive)
          ∧ t.pending = s.pending ++ [telegramCommand came bs]))

/-- The radio stays sound at every step: the routes and the grant agree, the slot clock runs outside INIT alone with its
counters in range, holdover and misses are as R155 to R157 give them, the uplink queue holds at most 8 entries and one
REPORT, and the tables of fixed size keep their sizes (R144, R146, R149, R159, R171). -/
def Obligations.RadioStaysSound : Prop :=
  ∀ s t : State, step s = .next t → RadioSound s → UplinkSound s → TablesSized s →
    RadioSound t ∧ UplinkSound t ∧ TablesSized t

/-! ### Valley Radio: telegrams -/

/-- The ten downlink telegrams but BEACON (R164 to R172, R159, R106, R25): counted and dropped when not handed on, in
SEARCH or by the filters, and otherwise heard, given to their receiving block as the valley's, and acknowledged where
their kind is. What is handed on is judged by the slot the telegram came in, whatever slot is in progress when it is taken
(R178, log 14). -/
def Obligations.Telegrams : Prop :=
  (∀ (c : Instr) (h : TgHeader) (s : State), headerOf c = some h →
    ¬ (Hears h.came s ∧ s.radio.sync ≠ .search ∧ Passes h s) →
    ∃ t, exec c s = .next t
      ∧ (¬ Hears h.came s → t = s)
      ∧ (s.radio.sync = .search → OnlyChanges [.tele] s t ∧ t.tele = { s.tele with
          counts := { s.tele.counts with
            received := min (s.tele.counts.received + 1) 65535,
            searchDiscards := min (s.tele.counts.searchDiscards + 1) 65535 } })
      ∧ (Hears h.came s → s.radio.sync ≠ .search → OnlyChanges [.tele] s t ∧ t.tele = { s.tele with
          counts := { s.tele.counts with
            received := min (s.tele.counts.received + 1) 65535,
            foreign := min (s.tele.counts.foreign + 1) 65535 } }))
  ∧ (∀ (h : TgHeader) (s : State), Hears h.came s → s.radio.sync ≠ .search → Passes h s →
    ∃ u, Heard h s u
      ∧ (∀ v, exec (.time h v) s = .next (setClock v u))
      ∧ (∀ w, ∃ t, exec (.restrict h w) s = .next t
          ∧ Acked .restrict w.id (putRestriction .valley w u).1 h.station (putRestriction .valley w u).2 t)
      ∧ (∀ id, ∃ t, exec (.revoke h id) s = .next t
          ∧ Acked .revoke id (withdrawEntry .valley .revoked id u).1 h.station
              (withdrawEntry .valley .revoked id u).2 t)
      ∧ (∀ b, ∃ t, exec (.sectionBlock h b) s = .next t
          ∧ (if (stageBlock .valley b u).1 = .accepted then t = (stageBlock .valley b u).2
            else Acked .sectionBlock b.id (stageBlock .valley b u).1 h.station u t))
      ∧ (∀ id crc, ∃ t, exec (.sectionCommit h id crc) s = .next t
          ∧ (let r := commitUpdate .valley id crc u
            if r.1 = .held then t = r.2.setTele { r.2.tele with heldStation := some h.station }
            else Acked .sectionCommit id r.1 h.station r.2 t))
      ∧ (∀ id, ∃ t, exec (.sectionAbort h id) s = .next t
          ∧ (u.staging = .idle → Acked .sectionAbort id .notFound h.station u t)
          ∧ (∀ x, (u.staging = .filling x ∨ ∃ n, u.staging = .held x n) →
              (x.owner = .car → Acked .sectionAbort id .notOwner h.station u t)
              ∧ (x.owner = .valley → x.id ≠ id → Acked .sectionAbort id .notFound h.station u t)
              ∧ (x.owner = .valley → x.id = id → Acked .sectionAbort id .done h.station
                  ((u.setStaging .idle).setTele { u.tele with heldStation := none }) t)))
      ∧ (∀ slot period phase, ∃ t, exec (.slotGrant h slot period phase) s = .next t
          ∧ (if slot = 0 ∨ 7 < slot ∨ (period ≠ 1 ∧ period ≠ 5 ∧ period ≠ 25) ∨ period ≤ phase then
              Acked .slotGrant slot .badValue h.station u t
            else if u.radio.grant = some ⟨slot, period, phase⟩ then
              Acked .slotGrant slot .unchanged h.station u t
            else
              Acked .slotGrant slot .done h.station (u.setRadio { u.radio with
                grant := some ⟨slot, period, phase⟩,
                routes := (match u.radio.grant with
                  | none => u.radio.routes
                  | some g => u.radio.routes.set g.slot .off).set slot .transmit }) t))
      ∧ (∃ t, exec (.poll h) s = .next t
          ∧ (Uplink.report ∈ u.tele.queue → t = u)
          ∧ (Uplink.report ∉ u.tele.queue → u.tele.queue.length < 8 →
              t = u.setTele { u.tele with queue := u.tele.queue ++ [.report] })
          ∧ (Uplink.report ∉ u.tele.queue → 8 ≤ u.tele.queue.length → OnlyChanges [.tele, .radio, .link] u t
              ∧ t.tele = { u.tele with counts := { u.tele.counts with
                  uplinkDiscards := min (u.tele.counts.uplinkDiscards + 1) 65535 } }
              ∧ t.radio = { u.radio with causes := u.radio.causes ||| 1024#16 }
              ∧ t.link = flagged .radioEvent u.link))
      ∧ (∃ t, exec (.emergencyStop h) s = .next t
          ∧ (s.brakes.radio.emergency = .latched → Acked .emergencyStop 0 .unchanged h.station u t)
          ∧ (s.brakes.radio.emergency ≠ .latched →
              ∃ m, OnlyChanges [.brakes] u m ∧ Acked .emergencyStop 0 .done h.station m t
                ∧ m.brakes.radio = ⟨s.brakes.radio.level, .latched⟩
                ∧ (∀ src, src ≠ .radio → getDemand m.brakes src = getDemand s.brakes src)
                ∧ m.brakes.emergency = true ∧ m.brakes.effort = 100 ∧ m.brakes.tperm = false))
      ∧ (∃ t, exec (.stopRelease h) s = .next t
          ∧ (s.brakes.radio.emergency ≠ .latched → Acked .stopRelease 0 .notFound h.station u t)
          ∧ (s.brakes.radio.emergency = .latched →
              ∃ m, OnlyChanges [.brakes] u m ∧ Acked .stopRelease 0 .done h.station m t
                ∧ m.brakes.radio = ⟨s.brakes.radio.level, .none⟩
                ∧ (∀ src, src ≠ .radio → getDemand m.brakes src = getDemand s.brakes src)
                ∧ (m.brakes.emergency = true ↔ ∃ src, (getDemand m.brakes src).emergency ≠ .none))))

/-! ### Analog Sweep Unit and acceptance filters -/

/-- SET_SWEEP, SET_CALIBRATION, SET_WINDOW and SET_FILTER (R167, R182, R184, R185): the checks in their order and the
record each replaces. -/
def Obligations.SettingRequests : Prop :=
  (∀ (mode emphasis : Nat) (s : State), ∃ t, exec (.setSweep mode emphasis) s = .next t
    ∧ (if s.sup.mode ≠ .standby then AnsweredOnly .setSweep .mode [] s t
      else if 2 < mode ∨ (mode = 1 ∧ 1 < emphasis) then AnsweredOnly .setSweep .badValue [] s t
      else if s.analog.single = true then AnsweredOnly .setSweep .busy [] s t
      else
        OnlyChanges [.analog, .link] s t
        ∧ (mode = 2 → t.analog = { s.analog with single := true, restart := true }
            ∧ Answered .setSweep .started [] s.link t)
        ∧ (mode = 0 → Answered .setSweep .done [] s.link t
            ∧ t.analog = if s.analog.mode = .repeated then s.analog
              else { s.analog with mode := .repeated, restart := true })
        ∧ (mode = 1 → Answered .setSweep .done [] s.link t
            ∧ t.analog = if s.analog.mode = .emphasis ∧ s.analog.emphasis = emphasis then s.analog
              else { s.analog with mode := .emphasis, emphasis := emphasis, restart := true })))
  ∧ (∀ (c : CalWire) (s : State), ∃ t, exec (.setCalibration c) s = .next t
    ∧ (if s.sup.mode ≠ .standby then AnsweredOnly .setCalibration .mode [] s t
      else if 7 < c.channel ∨ 1023 < c.rawLo ∨ 1023 < c.rawHi ∨ 65535 < c.engLo ∨ 65535 < c.engHi ∨ c.rawHi ≤ c.rawLo then
        AnsweredOnly .setCalibration .badValue [] s t
      else
        OnlyChanges [.analog, .link] s t ∧ Answered .setCalibration .done [] s.link t
        ∧ t.analog = { s.analog with channels := t.analog.channels }
        ∧ (∀ k, k ≠ c.channel → t.analog.channels[k]? = s.analog.channels[k]?)
        ∧ (∀ x, s.analog.channels[c.channel]? = some x → t.analog.channels[c.channel]? = some { x with
            rawLo := c.rawLo, engLo := c.engLo, rawHi := c.rawHi, engHi := c.engHi, railCheck := c.railCheck })))
  ∧ (∀ (channel low high : Nat) (s : State), ∃ t, exec (.setWindow channel low high) s = .next t
    ∧ (if s.sup.mode ≠ .standby then AnsweredOnly .setWindow .mode [] s t
      else if 7 < channel ∨ 65535 < low ∨ 65535 < high ∨ high < low then AnsweredOnly .setWindow .badValue [] s t
      else
        OnlyChanges [.analog, .link] s t ∧ Answered .setWindow .done [] s.link t
        ∧ t.analog = { s.analog with channels := t.analog.channels }
        ∧ (∀ k, k ≠ channel → t.analog.channels[k]? = s.analog.channels[k]?)
        ∧ (∀ x, s.analog.channels[channel]? = some x →
            t.analog.channels[channel]? = some { x with low := low, high := high })))
  ∧ (∀ (index : Nat) (enable : Bool) (kind value mask : Nat) (s : State),
    ∃ t, exec (.setFilter index enable kind value mask) s = .next t
    ∧ (if s.sup.mode ≠ .standby then AnsweredOnly .setFilter .mode [] s t
      else if 5 < index ∨ kind = 0 ∨ 3 < kind ∨ 0xFFFFF < value ∨ 0xFFFFF < mask then
        AnsweredOnly .setFilter .badValue [] s t
      else
        OnlyChanges [.tele, .link] s t ∧ Answered .setFilter .done [] s.link t
        ∧ ∃ k, destCode k = kind
            ∧ t.tele = { s.tele with filters := s.tele.filters.set index ⟨enable, k, value, mask⟩ }))

/-- CONVERSION_COMPLETE (R110, R114, R129, R179 to R181, R183, R185, R186): the results entry of the channel at the sweep
position, the next position, and what the channel's owner does with a valid conversion; one that is not valid reaches no
owner. The command carries no channel: the sweep names it (log 27). -/
def Obligations.Conversions : Prop :=
  ∀ (raw : Nat) (s : State), ∃ t, exec (.conversionComplete raw) s = .next t
    ∧ (let sequence : SweepSeq → List Nat := fun x => match x with
        | .repeated => [0, 1, 2, 3, 4, 5, 6, 7]
        | .single => [0, 1, 2, 3, 4, 5, 6, 7]
        | .emphasis0 => [0, 1, 0, 2, 0, 3, 0, 4, 0, 5, 0, 6, 0, 7]
        | .emphasis1 => [1, 0, 1, 2, 1, 3, 1, 4, 1, 5, 1, 6, 1, 7]
      let held : SweepSeq := if s.analog.mode = .repeated then .repeated
        else if s.analog.emphasis = 1 then .emphasis1 else .emphasis0
      ∀ i c, (sequence s.analog.seq)[s.analog.pos]? = some i → s.analog.channels[i]? = some c →
        let quotient := (((raw : Int) - c.rawLo) * ((c.engHi : Int) - c.engLo)).tdiv ((c.rawHi : Int) - c.rawLo)
        let x := (max 0 (min 65535 (quotient + c.engLo))).toNat
        let valid := !(c.railCheck && (raw == 0 || raw == 1023))
        let place : WinState := if x < c.low then .below else if c.high < x then .above else .inside
        t.analog.channels = s.analog.channels.set i { c with
          raw := raw, calibrated := x, valid := valid, window := place,
          conversions := if c.conversions % 65536 = 65535 then 0 else c.conversions % 65536 + 1,
          invalid := if valid = true then c.invalid else min (c.invalid + 1) 65535 }
        ∧ t.analog.mode = s.analog.mode ∧ t.analog.emphasis = s.analog.emphasis
        ∧ (s.analog.restart = true → t.analog.pos = 0 ∧ t.analog.restart = false
            ∧ t.analog.seq = if s.analog.single = true then .single else held)
        ∧ (s.analog.restart = false → s.analog.pos + 1 < (sequence s.analog.seq).length →
            t.analog.pos = s.analog.pos + 1 ∧ t.analog.seq = s.analog.seq ∧ t.analog.single = s.analog.single
            ∧ t.analog.passes = s.analog.passes)
        ∧ (s.analog.restart = false → s.analog.pos + 1 = (sequence s.analog.seq).length →
            t.analog.pos = 0
            ∧ (s.analog.seq ≠ .single → t.analog.seq = s.analog.seq ∧ t.analog.passes = s.analog.passes)
            ∧ (s.analog.seq = .single → t.analog.seq = held ∧ t.analog.single = false
                ∧ t.analog.passes = (s.analog.passes + 1) % 65536))
        ∧ (valid = false → OnlyChanges [.analog] s t)
        ∧ (valid = true → i = 0 → OnlyChanges [.analog, .brakes, .link] s t ∧ t.brakes.ain0 = place
            ∧ (s.brakes.rack = .releasing → place = .above →
                t.brakes.rack = .released ∧ t.brakes.rackTimer = none)
            ∧ (s.brakes.rack = .released → place = .below →
                t.brakes.rack = .faultNotReleased ∧ t.brakes.rackTimer = some s.params.tApp
                ∧ t.brakes.rackFault = some .releaseLost ∧ t.brakes.brake = ⟨s.brakes.brake.level, .latched⟩
                ∧ t.brakes.emergency = true ∧ t.brakes.tperm = false ∧ t.brakes.causes.getLsbD 1 = true)
            ∧ (s.brakes.rack ∈ [.applying, .faultNotReleased, .faultNotApplied] → place = .below →
                if t.brakes.emergency = true then t.brakes.rack = .applied ∧ t.brakes.rackTimer = none
                else t.brakes.rack = .releasing ∧ t.brakes.rackTimer = some s.params.tRel)
            ∧ (s.brakes.rack = .faultNotApplied → place = .below → t.brakes.brake = { s.brakes.brake with level := 0 })
            ∧ (s.brakes.rack ∈ [.faultNotReleased, .faultNotApplied] → place = .below →
                t.brakes.causes.getLsbD 3 = true ∧ t.link.flags.getLsbD (flagIndex .brakeFault) = true)
            ∧ ((s.brakes.rack = .applied ∨ place = .inside ∨ (place = .above ∧ s.brakes.rack ≠ .releasing)
                  ∨ (place = .below ∧ s.brakes.rack = .releasing)) →
                t.brakes = { s.brakes with ain0 := place } ∧ t.link = s.link))
        ∧ (valid = true → i = 1 →
            let floor : Int := (s.brakes.effort * s.params.pFull / 100 : Nat) - (s.params.pTol : Int)
            OnlyChanges [.analog, .brakes, .sup, .link] s t ∧ t.brakes.ain1 = some x
            ∧ ((x : Int) < floor → s.brakes.deficitTimer = none → s.brakes.sbDeficit = false →
                t.brakes = { s.brakes with ain1 := some x, deficitTimer := some s.params.tTrack } ∧ t.sup = s.sup)
            ∧ ((x : Int) < floor → (s.brakes.deficitTimer ≠ none ∨ s.brakes.sbDeficit = true) →
                t.brakes = { s.brakes with ain1 := some x } ∧ t.sup = s.sup)
            ∧ (floor ≤ (x : Int) → s.brakes.deficitTimer ≠ none →
                t.brakes = { s.brakes with ain1 := some x, deficitTimer := none } ∧ t.sup = s.sup)
            ∧ (floor ≤ (x : Int) → s.brakes.deficitTimer = none → s.brakes.sbDeficit = true →
                t.brakes = { s.brakes with
                  ain1 := some x, sbDeficit := false, causes := s.brakes.causes ||| 32#16 }
                ∧ t.sup = { s.sup with sbView := false } ∧ t.link = flagged .brakeFault s.link)
            ∧ (floor ≤ (x : Int) → s.brakes.deficitTimer = none → s.brakes.sbDeficit = false →
                t.brakes = { s.brakes with ain1 := some x } ∧ t.sup = s.sup))
        ∧ (∀ id, valid = true →
            i = (match id with | .l1 => 2 | .l2 => 3 | .l3 => 4 | .r4 => 5 | .r5 => 6 | .r6 => 7) →
            ∃ m, OnlyChanges [.analog] s m ∧ m.analog = t.analog
              ∧ (let l := getLeaf s.doors.leaves id
                (l.state ≠ .closing → LeafMoved id l 0#16 m t)
                ∧ (l.state = .closing → place ≠ .above → LeafMoved id { l with overCurrent := 0 } 0#16 m t)
                ∧ (l.state = .closing → place = .above → l.overCurrent = 0 →
                    LeafMoved id { l with overCurrent := 1 } 0#16 m t)
                ∧ (l.state = .closing → place = .above → 1 ≤ l.overCurrent → l.obstructions < s.params.obsLimit →
                    l.ops = false →
                    LeafMoved id { l with
                      overCurrent := 0, obstructions := l.obstructions + 1,
                      closePending := !(getRelease s.doors (leafSide id)).inForce, state := .reopening,
                      timer := some (.tReopen, 1500) } 2#16 m t)
                ∧ (l.state = .closing → place = .above → 1 ≤ l.overCurrent → l.obstructions < s.params.obsLimit →
                    l.ops = true →
                    LeafMoved id (stoodOpen { l with
                      overCurrent := 0, obstructions := l.obstructions + 1,
                      closePending := !(getRelease s.doors (leafSide id)).inForce }) 2#16 m t)
                ∧ (l.state = .closing → place = .above → 1 ≤ l.overCurrent → s.params.obsLimit ≤ l.obstructions →
                    LeafMoved id (faulted .obstructionLimit s.restr.clock l) 1#16 m t))))

/-! ### The reads of the other blocks, and the reset state -/

/-- READ_SUPERVISION, READ_BRAKES, READ_DOORS, READ_RADIO, READ_CHANNEL, READ_FILTER, READ_TELEGRAMS, READ_UPLINK and
READ_ANALOG (R99, R117, R142, R162, R167, R177, R187, R200): what each answers, and the cause set that READ_BRAKES,
READ_DOORS and READ_RADIO empty. A record that is NONE, a timer that is stopped and the values a REPORT entry does not
have are sent as log 20 states, an answer without a record as log 18; the widths and encodings of speeds in mm/s without
a sign, the guard setting, a filter's value and mask and the READ_UPLINK entry type are log 19's; READ_BRAKES is one
page of 33 bytes (log 21). -/
def Obligations.BlockReads : Prop :=
  (∀ s : State,
    (∃ t, exec .readSupervision s = .next t
      ∧ AnsweredOnly .readSupervision .accepted
          (u8 (modeCode s.sup.mode) ++ u8 (dirCode s.sup.dir) ++ u8 (modeCode s.sup.modeBefore)
            ++ speed16 s.sup.vPerm ++ u8 (levelCode s.sup.level)
            ++ (match s.sup.limiting with
                | .mode => [0#8, 0#8, 0#8, 0#8]
                | .static n => [1#8, 4#8] ++ u16 n
                | .restriction i id => [2#8] ++ u8 (issuerCode i) ++ u16 id
                | .target => [3#8, 0#8, 0#8, 0#8])
            ++ (match s.sup.binding with
                | none => 0#8 :: List.replicate 12 0xFF#8 ++ [0#8, 0#8, 0#8]
                | some b => u8 (targetCode b.kind) ++ u32 b.position ++ speed16 b.speed ++ speed16 b.curve
                    ++ u32 b.span ++ refBytes b.ref)
            ++ none32 (s.sup.curve.map (·.1)) ++ none32 (s.sup.curve.map (fun y => (y.2 : Int)))
            ++ none32 (s.sup.retained.map (fun n => (n : Int))) ++ u32 s.sup.rollback ++ flag8 s.sup.sbView
            ++ (match s.sup.trip with
                | none => noRecord 11
                | some x => u8 (tripCode x.cause) ++ u8 (modeCode x.before) ++ u32 x.p ++ flagged32 x.clock)) s t)
    ∧ (∃ t, exec .readBrakes s = .next t ∧ OnlyChanges [.brakes, .link] s t
      ∧ t.brakes = { s.brakes with causes := 0#16 }
      ∧ Answered .readBrakes .accepted
          ([s.brakes.supervisor, s.brakes.odometry, s.brakes.doors, s.brakes.radio, s.brakes.host,
              s.brakes.brake].flatMap (fun d => u8 d.level ++ u8 (emergencyCode d.emergency))
            ++ u8 s.brakes.effort ++ flag8 s.brakes.emergency
            ++ u8 (rackCode s.brakes.rack) ++ u8 (rackFaultCode s.brakes.rackFault)
            ++ none32 (s.brakes.rackTimer.map (fun n => (n : Int))) ++ u8 (winStateCode s.brakes.ain0)
            ++ u16 (s.brakes.effort * s.params.pFull / 100) ++ none16 s.brakes.ain1
            ++ none32 (s.brakes.deficitTimer.map (fun n => (n : Int))) ++ flag8 s.brakes.sbDeficit
            ++ flag8 s.brakes.tperm ++ u16 s.brakes.causes.toNat) s.link t)
    ∧ (∃ t, exec .readDoors s = .next t ∧ OnlyChanges [.doors, .link] s t
      ∧ t.doors = { s.doors with causes := 0#16 }
      ∧ Answered .readDoors .accepted
          ([LeafId.l1, .l2, .l3, .r4, .r5, .r6].flatMap (fun id =>
              let l := getLeaf s.doors.leaves id
              u8 (leafStateCode l.state) ++ flag8 l.cls ++ flag8 l.lks ++ flag8 l.ops ++ flag8 l.pb
                ++ flag8 (l.state == .opening || l.state == .reopening) ++ flag8 (l.state == .closing)
                ++ flag8 (l.state == .unlocking || l.state == .unlocked || l.state == .opening || l.state == .opened
                  || l.state == .closing || l.state == .reopening)
                ++ (match l.timer with
                    | none => [0#8, 0xFF#8, 0xFF#8, 0xFF#8, 0xFF#8]
                    | some (x, n) => u8 (leafTimeCode x) ++ u32 n)
                ++ u8 l.obstructions ++ u8 l.overCurrent ++ flag8 l.closePending ++ flag8 l.fault.isSome)
            ++ [s.doors.left, s.doors.right].flatMap (fun r =>
              flag8 r.inForce ++ flag8 r.autoOpen ++ none8 (r.platform.map (·.1)) ++ flagged16 (r.platform.map (·.2))
                ++ u8 (withdrawalCode r.cause))
            ++ flag8 s.doors.closed ++ u8 s.brakes.doors.level ++ u8 (emergencyCode s.brakes.doors.emergency)
            ++ u16 s.doors.causes.toNat) s.link t))
  ∧ (∀ s : State,
    (∃ t, exec .readRadio s = .next t ∧ OnlyChanges [.radio, .link] s t
      ∧ t.radio = { s.radio with causes := 0#16 }
      ∧ Answered .readRadio .accepted
          (u8 (syncCode s.radio.sync) ++ u8 s.radio.slotIndex ++ u8 s.radio.frame
            ++ s.radio.routes.flatMap (fun x => u8 (routeCode x))
            ++ none8 (s.radio.grant.map (·.slot)) ++ none8 (s.radio.grant.map (·.period))
            ++ none8 (s.radio.grant.map (·.phase)) ++ none8 s.radio.tuned ++ u8 s.radio.chsel
            ++ u8 (beaconSourceCode s.radio.source) ++ flag8 s.radio.guardOpen ++ u8 s.radio.guardCount
            ++ u8 s.params.guard ++ u8 s.radio.miss ++ none32 (s.radio.holdover.map (fun n => (n : Int)))
            ++ u8 (linkCode s.radio.link) ++ none32 (s.radio.loss.map (fun n => (n : Int)))
            ++ u16 s.radio.loopPass ++ u16 s.radio.loopFail ++ u16 s.radio.causes.toNat) s.link t)
    ∧ (∀ cell, ∃ t, exec (.readChannel cell) s = .next t
      ∧ (15 < cell → AnsweredOnly .readChannel .badValue (noRecord 1) s t)
      ∧ (cell ≤ 15 → AnsweredOnly .readChannel .accepted (u8 (s.radio.channels.getD cell 0)) s t))
    ∧ (∀ i, ∃ t, exec (.readFilter i) s = .next t
      ∧ (5 < i → AnsweredOnly .readFilter .badValue (noRecord 10) s t)
      ∧ (∀ f, i ≤ 5 → s.tele.filters[i]? = some f → AnsweredOnly .readFilter .accepted
          (flag8 f.enabled ++ u8 (destCode f.kind) ++ u32 f.value ++ u32 f.mask) s t))
    ∧ (∃ t, exec .readTelegrams s = .next t
      ∧ AnsweredOnly .readTelegrams .accepted
          ([s.tele.counts.received, s.tele.counts.checkErrors, s.tele.counts.headerErrors, s.tele.counts.foreign,
              s.tele.counts.searchDiscards, s.tele.counts.beacons, s.tele.counts.accepted, s.tele.counts.acksSent,
              s.tele.counts.reportsSent, s.tele.counts.displaced, s.tele.counts.uplinkDiscards].flatMap u16
            ++ u32 s.params.carAddress ++ u8 s.tele.lastStation ++ u8 s.tele.queue.length
            ++ flag8 (s.tele.queue.contains .report)
            ++ u16 (match s.staging with
                | .held u _ => if u.owner = .valley then u.id else 0
                | _ => 0)) s t)
    ∧ (∀ k, ∃ t, exec (.readUplink k) s = .next t
      ∧ (7 < k → AnsweredOnly .readUplink .badValue (noRecord 6) s t)
      ∧ (k ≤ 7 → s.tele.queue.length ≤ k → AnsweredOnly .readUplink .none (noRecord 6) s t)
      ∧ (k ≤ 7 → s.tele.queue[k]? = some .report → AnsweredOnly .readUplink .accepted
          [0x21#8, 0#8, 0#8, 0#8, 0#8, 0#8] s t)
      ∧ (∀ x n res st, k ≤ 7 → s.tele.queue[k]? = some (.ack x n res st) → AnsweredOnly .readUplink .accepted
          ([0x20#8] ++ u8 (ackKindCode x) ++ u16 n ++ u8 (resultCode res) ++ u8 st) s t))
    ∧ (∀ i, ∃ t, exec (.readAnalog i) s = .next t
      ∧ (7 < i → AnsweredOnly .readAnalog .badValue (noRecord 29) s t)
      ∧ (∀ c, i ≤ 7 → s.analog.channels[i]? = some c → AnsweredOnly .readAnalog .accepted
          (u8 (if s.analog.single = true then 2 else sweepModeCode s.analog.mode) ++ u8 s.analog.emphasis
            ++ (if s.analog.single = true then u8 (sweepModeCode s.analog.mode) else [0xFF#8])
            ++ flag8 s.analog.single ++ u16 s.analog.passes
            ++ u16 c.raw ++ u16 c.calibrated ++ flag8 c.valid ++ u8 (winStateCode c.window) ++ u16 c.conversions
            ++ u16 c.invalid ++ u16 c.rawLo ++ u16 c.engLo ++ u16 c.rawHi ++ u16 c.engHi ++ flag8 c.railCheck
            ++ u16 c.low ++ u16 c.high) s t)))

/-- The reset state is sound in every block, and its queue is empty. Leaves HALTED with their inputs low, and the empty
cause sets, are the model's choice (log 8, log 9). -/
def Obligations.ResetIsSound : Prop :=
  BrakesSound State.reset ∧ RestrictionsSound State.reset ∧ EntriesDistinct State.reset ∧ DoorsSound State.reset
    ∧ LeavesTimed State.reset ∧ LeavesSettled State.reset ∧ RadioSound State.reset ∧ UplinkSound State.reset
    ∧ TablesSized State.reset ∧ PositionSound State.reset ∧ ParamsSound State.reset.params
    ∧ WeightsShort State.reset.params ∧ State.reset.pending = [] ∧ attention State.reset.link = true
end

