-- ==== Sys2Proof/Laws/State.lean ====
section
/-! SUPPORT. One lemma per block per update of State, and the blocks of the reset state. -/

namespace Sys2Proof.Machine

variable (s : State)

/-! ### State.setPending -/

@[simp] theorem State.setPending_pending (x : List Instr) : (s.setPending x).pending = x := rfl
@[simp] theorem State.setPending_params (x : List Instr) : (s.setPending x).params = s.params := rfl
@[simp] theorem State.setPending_link (x : List Instr) : (s.setPending x).link = s.link := rfl
@[simp] theorem State.setPending_line (x : List Instr) : (s.setPending x).line = s.line := rfl
@[simp] theorem State.setPending_window (x : List Instr) : (s.setPending x).window = s.window := rfl
@[simp] theorem State.setPending_staging (x : List Instr) : (s.setPending x).staging = s.staging := rfl
@[simp] theorem State.setPending_odo (x : List Instr) : (s.setPending x).odo = s.odo := rfl
@[simp] theorem State.setPending_restr (x : List Instr) : (s.setPending x).restr = s.restr := rfl
@[simp] theorem State.setPending_sup (x : List Instr) : (s.setPending x).sup = s.sup := rfl
@[simp] theorem State.setPending_brakes (x : List Instr) : (s.setPending x).brakes = s.brakes := rfl
@[simp] theorem State.setPending_doors (x : List Instr) : (s.setPending x).doors = s.doors := rfl
@[simp] theorem State.setPending_radio (x : List Instr) : (s.setPending x).radio = s.radio := rfl
@[simp] theorem State.setPending_tele (x : List Instr) : (s.setPending x).tele = s.tele := rfl
@[simp] theorem State.setPending_analog (x : List Instr) : (s.setPending x).analog = s.analog := rfl
theorem State.setPending_self : s.setPending s.pending = s := rfl
@[simp] theorem State.setPending_setPending (x y : List Instr) : (s.setPending x).setPending y = s.setPending y := rfl

/-! ### State.setParams -/

@[simp] theorem State.setParams_pending (x : Params) : (s.setParams x).pending = s.pending := rfl
@[simp] theorem State.setParams_params (x : Params) : (s.setParams x).params = x := rfl
@[simp] theorem State.setParams_link (x : Params) : (s.setParams x).link = s.link := rfl
@[simp] theorem State.setParams_line (x : Params) : (s.setParams x).line = s.line := rfl
@[simp] theorem State.setParams_window (x : Params) : (s.setParams x).window = s.window := rfl
@[simp] theorem State.setParams_staging (x : Params) : (s.setParams x).staging = s.staging := rfl
@[simp] theorem State.setParams_odo (x : Params) : (s.setParams x).odo = s.odo := rfl
@[simp] theorem State.setParams_restr (x : Params) : (s.setParams x).restr = s.restr := rfl
@[simp] theorem State.setParams_sup (x : Params) : (s.setParams x).sup = s.sup := rfl
@[simp] theorem State.setParams_brakes (x : Params) : (s.setParams x).brakes = s.brakes := rfl
@[simp] theorem State.setParams_doors (x : Params) : (s.setParams x).doors = s.doors := rfl
@[simp] theorem State.setParams_radio (x : Params) : (s.setParams x).radio = s.radio := rfl
@[simp] theorem State.setParams_tele (x : Params) : (s.setParams x).tele = s.tele := rfl
@[simp] theorem State.setParams_analog (x : Params) : (s.setParams x).analog = s.analog := rfl
theorem State.setParams_self : s.setParams s.params = s := rfl
@[simp] theorem State.setParams_setParams (x y : Params) : (s.setParams x).setParams y = s.setParams y := rfl

/-! ### State.setLink -/

@[simp] theorem State.setLink_pending (x : Link) : (s.setLink x).pending = s.pending := rfl
@[simp] theorem State.setLink_params (x : Link) : (s.setLink x).params = s.params := rfl
@[simp] theorem State.setLink_link (x : Link) : (s.setLink x).link = x := rfl
@[simp] theorem State.setLink_line (x : Link) : (s.setLink x).line = s.line := rfl
@[simp] theorem State.setLink_window (x : Link) : (s.setLink x).window = s.window := rfl
@[simp] theorem State.setLink_staging (x : Link) : (s.setLink x).staging = s.staging := rfl
@[simp] theorem State.setLink_odo (x : Link) : (s.setLink x).odo = s.odo := rfl
@[simp] theorem State.setLink_restr (x : Link) : (s.setLink x).restr = s.restr := rfl
@[simp] theorem State.setLink_sup (x : Link) : (s.setLink x).sup = s.sup := rfl
@[simp] theorem State.setLink_brakes (x : Link) : (s.setLink x).brakes = s.brakes := rfl
@[simp] theorem State.setLink_doors (x : Link) : (s.setLink x).doors = s.doors := rfl
@[simp] theorem State.setLink_radio (x : Link) : (s.setLink x).radio = s.radio := rfl
@[simp] theorem State.setLink_tele (x : Link) : (s.setLink x).tele = s.tele := rfl
@[simp] theorem State.setLink_analog (x : Link) : (s.setLink x).analog = s.analog := rfl
theorem State.setLink_self : s.setLink s.link = s := rfl
@[simp] theorem State.setLink_setLink (x y : Link) : (s.setLink x).setLink y = s.setLink y := rfl

/-! ### State.setLine -/

@[simp] theorem State.setLine_pending (x : LineTable) : (s.setLine x).pending = s.pending := rfl
@[simp] theorem State.setLine_params (x : LineTable) : (s.setLine x).params = s.params := rfl
@[simp] theorem State.setLine_link (x : LineTable) : (s.setLine x).link = s.link := rfl
@[simp] theorem State.setLine_line (x : LineTable) : (s.setLine x).line = x := rfl
@[simp] theorem State.setLine_window (x : LineTable) : (s.setLine x).window = s.window := rfl
@[simp] theorem State.setLine_staging (x : LineTable) : (s.setLine x).staging = s.staging := rfl
@[simp] theorem State.setLine_odo (x : LineTable) : (s.setLine x).odo = s.odo := rfl
@[simp] theorem State.setLine_restr (x : LineTable) : (s.setLine x).restr = s.restr := rfl
@[simp] theorem State.setLine_sup (x : LineTable) : (s.setLine x).sup = s.sup := rfl
@[simp] theorem State.setLine_brakes (x : LineTable) : (s.setLine x).brakes = s.brakes := rfl
@[simp] theorem State.setLine_doors (x : LineTable) : (s.setLine x).doors = s.doors := rfl
@[simp] theorem State.setLine_radio (x : LineTable) : (s.setLine x).radio = s.radio := rfl
@[simp] theorem State.setLine_tele (x : LineTable) : (s.setLine x).tele = s.tele := rfl
@[simp] theorem State.setLine_analog (x : LineTable) : (s.setLine x).analog = s.analog := rfl
theorem State.setLine_self : s.setLine s.line = s := rfl
@[simp] theorem State.setLine_setLine (x y : LineTable) : (s.setLine x).setLine y = s.setLine y := rfl

/-! ### State.setWindow -/

@[simp] theorem State.setWindow_pending (x : List (Option WinEntry)) : (s.setWindow x).pending = s.pending := rfl
@[simp] theorem State.setWindow_params (x : List (Option WinEntry)) : (s.setWindow x).params = s.params := rfl
@[simp] theorem State.setWindow_link (x : List (Option WinEntry)) : (s.setWindow x).link = s.link := rfl
@[simp] theorem State.setWindow_line (x : List (Option WinEntry)) : (s.setWindow x).line = s.line := rfl
@[simp] theorem State.setWindow_window (x : List (Option WinEntry)) : (s.setWindow x).window = x := rfl
@[simp] theorem State.setWindow_staging (x : List (Option WinEntry)) : (s.setWindow x).staging = s.staging := rfl
@[simp] theorem State.setWindow_odo (x : List (Option WinEntry)) : (s.setWindow x).odo = s.odo := rfl
@[simp] theorem State.setWindow_restr (x : List (Option WinEntry)) : (s.setWindow x).restr = s.restr := rfl
@[simp] theorem State.setWindow_sup (x : List (Option WinEntry)) : (s.setWindow x).sup = s.sup := rfl
@[simp] theorem State.setWindow_brakes (x : List (Option WinEntry)) : (s.setWindow x).brakes = s.brakes := rfl
@[simp] theorem State.setWindow_doors (x : List (Option WinEntry)) : (s.setWindow x).doors = s.doors := rfl
@[simp] theorem State.setWindow_radio (x : List (Option WinEntry)) : (s.setWindow x).radio = s.radio := rfl
@[simp] theorem State.setWindow_tele (x : List (Option WinEntry)) : (s.setWindow x).tele = s.tele := rfl
@[simp] theorem State.setWindow_analog (x : List (Option WinEntry)) : (s.setWindow x).analog = s.analog := rfl
theorem State.setWindow_self : s.setWindow s.window = s := rfl
@[simp] theorem State.setWindow_setWindow (x y : List (Option WinEntry)) : (s.setWindow x).setWindow y = s.setWindow y := rfl

/-! ### State.setStaging -/

@[simp] theorem State.setStaging_pending (x : Staging) : (s.setStaging x).pending = s.pending := rfl
@[simp] theorem State.setStaging_params (x : Staging) : (s.setStaging x).params = s.params := rfl
@[simp] theorem State.setStaging_link (x : Staging) : (s.setStaging x).link = s.link := rfl
@[simp] theorem State.setStaging_line (x : Staging) : (s.setStaging x).line = s.line := rfl
@[simp] theorem State.setStaging_window (x : Staging) : (s.setStaging x).window = s.window := rfl
@[simp] theorem State.setStaging_staging (x : Staging) : (s.setStaging x).staging = x := rfl
@[simp] theorem State.setStaging_odo (x : Staging) : (s.setStaging x).odo = s.odo := rfl
@[simp] theorem State.setStaging_restr (x : Staging) : (s.setStaging x).restr = s.restr := rfl
@[simp] theorem State.setStaging_sup (x : Staging) : (s.setStaging x).sup = s.sup := rfl
@[simp] theorem State.setStaging_brakes (x : Staging) : (s.setStaging x).brakes = s.brakes := rfl
@[simp] theorem State.setStaging_doors (x : Staging) : (s.setStaging x).doors = s.doors := rfl
@[simp] theorem State.setStaging_radio (x : Staging) : (s.setStaging x).radio = s.radio := rfl
@[simp] theorem State.setStaging_tele (x : Staging) : (s.setStaging x).tele = s.tele := rfl
@[simp] theorem State.setStaging_analog (x : Staging) : (s.setStaging x).analog = s.analog := rfl
theorem State.setStaging_self : s.setStaging s.staging = s := rfl
@[simp] theorem State.setStaging_setStaging (x y : Staging) : (s.setStaging x).setStaging y = s.setStaging y := rfl

/-! ### State.setOdo -/

@[simp] theorem State.setOdo_pending (x : Odometry) : (s.setOdo x).pending = s.pending := rfl
@[simp] theorem State.setOdo_params (x : Odometry) : (s.setOdo x).params = s.params := rfl
@[simp] theorem State.setOdo_link (x : Odometry) : (s.setOdo x).link = s.link := rfl
@[simp] theorem State.setOdo_line (x : Odometry) : (s.setOdo x).line = s.line := rfl
@[simp] theorem State.setOdo_window (x : Odometry) : (s.setOdo x).window = s.window := rfl
@[simp] theorem State.setOdo_staging (x : Odometry) : (s.setOdo x).staging = s.staging := rfl
@[simp] theorem State.setOdo_odo (x : Odometry) : (s.setOdo x).odo = x := rfl
@[simp] theorem State.setOdo_restr (x : Odometry) : (s.setOdo x).restr = s.restr := rfl
@[simp] theorem State.setOdo_sup (x : Odometry) : (s.setOdo x).sup = s.sup := rfl
@[simp] theorem State.setOdo_brakes (x : Odometry) : (s.setOdo x).brakes = s.brakes := rfl
@[simp] theorem State.setOdo_doors (x : Odometry) : (s.setOdo x).doors = s.doors := rfl
@[simp] theorem State.setOdo_radio (x : Odometry) : (s.setOdo x).radio = s.radio := rfl
@[simp] theorem State.setOdo_tele (x : Odometry) : (s.setOdo x).tele = s.tele := rfl
@[simp] theorem State.setOdo_analog (x : Odometry) : (s.setOdo x).analog = s.analog := rfl
theorem State.setOdo_self : s.setOdo s.odo = s := rfl
@[simp] theorem State.setOdo_setOdo (x y : Odometry) : (s.setOdo x).setOdo y = s.setOdo y := rfl

/-! ### State.setRestr -/

@[simp] theorem State.setRestr_pending (x : Restrictions) : (s.setRestr x).pending = s.pending := rfl
@[simp] theorem State.setRestr_params (x : Restrictions) : (s.setRestr x).params = s.params := rfl
@[simp] theorem State.setRestr_link (x : Restrictions) : (s.setRestr x).link = s.link := rfl
@[simp] theorem State.setRestr_line (x : Restrictions) : (s.setRestr x).line = s.line := rfl
@[simp] theorem State.setRestr_window (x : Restrictions) : (s.setRestr x).window = s.window := rfl
@[simp] theorem State.setRestr_staging (x : Restrictions) : (s.setRestr x).staging = s.staging := rfl
@[simp] theorem State.setRestr_odo (x : Restrictions) : (s.setRestr x).odo = s.odo := rfl
@[simp] theorem State.setRestr_restr (x : Restrictions) : (s.setRestr x).restr = x := rfl
@[simp] theorem State.setRestr_sup (x : Restrictions) : (s.setRestr x).sup = s.sup := rfl
@[simp] theorem State.setRestr_brakes (x : Restrictions) : (s.setRestr x).brakes = s.brakes := rfl
@[simp] theorem State.setRestr_doors (x : Restrictions) : (s.setRestr x).doors = s.doors := rfl
@[simp] theorem State.setRestr_radio (x : Restrictions) : (s.setRestr x).radio = s.radio := rfl
@[simp] theorem State.setRestr_tele (x : Restrictions) : (s.setRestr x).tele = s.tele := rfl
@[simp] theorem State.setRestr_analog (x : Restrictions) : (s.setRestr x).analog = s.analog := rfl
theorem State.setRestr_self : s.setRestr s.restr = s := rfl
@[simp] theorem State.setRestr_setRestr (x y : Restrictions) : (s.setRestr x).setRestr y = s.setRestr y := rfl

/-! ### State.setSup -/

@[simp] theorem State.setSup_pending (x : Supervisor) : (s.setSup x).pending = s.pending := rfl
@[simp] theorem State.setSup_params (x : Supervisor) : (s.setSup x).params = s.params := rfl
@[simp] theorem State.setSup_link (x : Supervisor) : (s.setSup x).link = s.link := rfl
@[simp] theorem State.setSup_line (x : Supervisor) : (s.setSup x).line = s.line := rfl
@[simp] theorem State.setSup_window (x : Supervisor) : (s.setSup x).window = s.window := rfl
@[simp] theorem State.setSup_staging (x : Supervisor) : (s.setSup x).staging = s.staging := rfl
@[simp] theorem State.setSup_odo (x : Supervisor) : (s.setSup x).odo = s.odo := rfl
@[simp] theorem State.setSup_restr (x : Supervisor) : (s.setSup x).restr = s.restr := rfl
@[simp] theorem State.setSup_sup (x : Supervisor) : (s.setSup x).sup = x := rfl
@[simp] theorem State.setSup_brakes (x : Supervisor) : (s.setSup x).brakes = s.brakes := rfl
@[simp] theorem State.setSup_doors (x : Supervisor) : (s.setSup x).doors = s.doors := rfl
@[simp] theorem State.setSup_radio (x : Supervisor) : (s.setSup x).radio = s.radio := rfl
@[simp] theorem State.setSup_tele (x : Supervisor) : (s.setSup x).tele = s.tele := rfl
@[simp] theorem State.setSup_analog (x : Supervisor) : (s.setSup x).analog = s.analog := rfl
theorem State.setSup_self : s.setSup s.sup = s := rfl
@[simp] theorem State.setSup_setSup (x y : Supervisor) : (s.setSup x).setSup y = s.setSup y := rfl

/-! ### State.setBrakes -/

@[simp] theorem State.setBrakes_pending (x : Brakes) : (s.setBrakes x).pending = s.pending := rfl
@[simp] theorem State.setBrakes_params (x : Brakes) : (s.setBrakes x).params = s.params := rfl
@[simp] theorem State.setBrakes_link (x : Brakes) : (s.setBrakes x).link = s.link := rfl
@[simp] theorem State.setBrakes_line (x : Brakes) : (s.setBrakes x).line = s.line := rfl
@[simp] theorem State.setBrakes_window (x : Brakes) : (s.setBrakes x).window = s.window := rfl
@[simp] theorem State.setBrakes_staging (x : Brakes) : (s.setBrakes x).staging = s.staging := rfl
@[simp] theorem State.setBrakes_odo (x : Brakes) : (s.setBrakes x).odo = s.odo := rfl
@[simp] theorem State.setBrakes_restr (x : Brakes) : (s.setBrakes x).restr = s.restr := rfl
@[simp] theorem State.setBrakes_sup (x : Brakes) : (s.setBrakes x).sup = s.sup := rfl
@[simp] theorem State.setBrakes_brakes (x : Brakes) : (s.setBrakes x).brakes = x := rfl
@[simp] theorem State.setBrakes_doors (x : Brakes) : (s.setBrakes x).doors = s.doors := rfl
@[simp] theorem State.setBrakes_radio (x : Brakes) : (s.setBrakes x).radio = s.radio := rfl
@[simp] theorem State.setBrakes_tele (x : Brakes) : (s.setBrakes x).tele = s.tele := rfl
@[simp] theorem State.setBrakes_analog (x : Brakes) : (s.setBrakes x).analog = s.analog := rfl
theorem State.setBrakes_self : s.setBrakes s.brakes = s := rfl
@[simp] theorem State.setBrakes_setBrakes (x y : Brakes) : (s.setBrakes x).setBrakes y = s.setBrakes y := rfl

/-! ### State.setDoors -/

@[simp] theorem State.setDoors_pending (x : Doors) : (s.setDoors x).pending = s.pending := rfl
@[simp] theorem State.setDoors_params (x : Doors) : (s.setDoors x).params = s.params := rfl
@[simp] theorem State.setDoors_link (x : Doors) : (s.setDoors x).link = s.link := rfl
@[simp] theorem State.setDoors_line (x : Doors) : (s.setDoors x).line = s.line := rfl
@[simp] theorem State.setDoors_window (x : Doors) : (s.setDoors x).window = s.window := rfl
@[simp] theorem State.setDoors_staging (x : Doors) : (s.setDoors x).staging = s.staging := rfl
@[simp] theorem State.setDoors_odo (x : Doors) : (s.setDoors x).odo = s.odo := rfl
@[simp] theorem State.setDoors_restr (x : Doors) : (s.setDoors x).restr = s.restr := rfl
@[simp] theorem State.setDoors_sup (x : Doors) : (s.setDoors x).sup = s.sup := rfl
@[simp] theorem State.setDoors_brakes (x : Doors) : (s.setDoors x).brakes = s.brakes := rfl
@[simp] theorem State.setDoors_doors (x : Doors) : (s.setDoors x).doors = x := rfl
@[simp] theorem State.setDoors_radio (x : Doors) : (s.setDoors x).radio = s.radio := rfl
@[simp] theorem State.setDoors_tele (x : Doors) : (s.setDoors x).tele = s.tele := rfl
@[simp] theorem State.setDoors_analog (x : Doors) : (s.setDoors x).analog = s.analog := rfl
theorem State.setDoors_self : s.setDoors s.doors = s := rfl
@[simp] theorem State.setDoors_setDoors (x y : Doors) : (s.setDoors x).setDoors y = s.setDoors y := rfl

/-! ### State.setRadio -/

@[simp] theorem State.setRadio_pending (x : Radio) : (s.setRadio x).pending = s.pending := rfl
@[simp] theorem State.setRadio_params (x : Radio) : (s.setRadio x).params = s.params := rfl
@[simp] theorem State.setRadio_link (x : Radio) : (s.setRadio x).link = s.link := rfl
@[simp] theorem State.setRadio_line (x : Radio) : (s.setRadio x).line = s.line := rfl
@[simp] theorem State.setRadio_window (x : Radio) : (s.setRadio x).window = s.window := rfl
@[simp] theorem State.setRadio_staging (x : Radio) : (s.setRadio x).staging = s.staging := rfl
@[simp] theorem State.setRadio_odo (x : Radio) : (s.setRadio x).odo = s.odo := rfl
@[simp] theorem State.setRadio_restr (x : Radio) : (s.setRadio x).restr = s.restr := rfl
@[simp] theorem State.setRadio_sup (x : Radio) : (s.setRadio x).sup = s.sup := rfl
@[simp] theorem State.setRadio_brakes (x : Radio) : (s.setRadio x).brakes = s.brakes := rfl
@[simp] theorem State.setRadio_doors (x : Radio) : (s.setRadio x).doors = s.doors := rfl
@[simp] theorem State.setRadio_radio (x : Radio) : (s.setRadio x).radio = x := rfl
@[simp] theorem State.setRadio_tele (x : Radio) : (s.setRadio x).tele = s.tele := rfl
@[simp] theorem State.setRadio_analog (x : Radio) : (s.setRadio x).analog = s.analog := rfl
theorem State.setRadio_self : s.setRadio s.radio = s := rfl
@[simp] theorem State.setRadio_setRadio (x y : Radio) : (s.setRadio x).setRadio y = s.setRadio y := rfl

/-! ### State.setTele -/

@[simp] theorem State.setTele_pending (x : Telegrams) : (s.setTele x).pending = s.pending := rfl
@[simp] theorem State.setTele_params (x : Telegrams) : (s.setTele x).params = s.params := rfl
@[simp] theorem State.setTele_link (x : Telegrams) : (s.setTele x).link = s.link := rfl
@[simp] theorem State.setTele_line (x : Telegrams) : (s.setTele x).line = s.line := rfl
@[simp] theorem State.setTele_window (x : Telegrams) : (s.setTele x).window = s.window := rfl
@[simp] theorem State.setTele_staging (x : Telegrams) : (s.setTele x).staging = s.staging := rfl
@[simp] theorem State.setTele_odo (x : Telegrams) : (s.setTele x).odo = s.odo := rfl
@[simp] theorem State.setTele_restr (x : Telegrams) : (s.setTele x).restr = s.restr := rfl
@[simp] theorem State.setTele_sup (x : Telegrams) : (s.setTele x).sup = s.sup := rfl
@[simp] theorem State.setTele_brakes (x : Telegrams) : (s.setTele x).brakes = s.brakes := rfl
@[simp] theorem State.setTele_doors (x : Telegrams) : (s.setTele x).doors = s.doors := rfl
@[simp] theorem State.setTele_radio (x : Telegrams) : (s.setTele x).radio = s.radio := rfl
@[simp] theorem State.setTele_tele (x : Telegrams) : (s.setTele x).tele = x := rfl
@[simp] theorem State.setTele_analog (x : Telegrams) : (s.setTele x).analog = s.analog := rfl
theorem State.setTele_self : s.setTele s.tele = s := rfl
@[simp] theorem State.setTele_setTele (x y : Telegrams) : (s.setTele x).setTele y = s.setTele y := rfl

/-! ### State.setAnalog -/

@[simp] theorem State.setAnalog_pending (x : Analog) : (s.setAnalog x).pending = s.pending := rfl
@[simp] theorem State.setAnalog_params (x : Analog) : (s.setAnalog x).params = s.params := rfl
@[simp] theorem State.setAnalog_link (x : Analog) : (s.setAnalog x).link = s.link := rfl
@[simp] theorem State.setAnalog_line (x : Analog) : (s.setAnalog x).line = s.line := rfl
@[simp] theorem State.setAnalog_window (x : Analog) : (s.setAnalog x).window = s.window := rfl
@[simp] theorem State.setAnalog_staging (x : Analog) : (s.setAnalog x).staging = s.staging := rfl
@[simp] theorem State.setAnalog_odo (x : Analog) : (s.setAnalog x).odo = s.odo := rfl
@[simp] theorem State.setAnalog_restr (x : Analog) : (s.setAnalog x).restr = s.restr := rfl
@[simp] theorem State.setAnalog_sup (x : Analog) : (s.setAnalog x).sup = s.sup := rfl
@[simp] theorem State.setAnalog_brakes (x : Analog) : (s.setAnalog x).brakes = s.brakes := rfl
@[simp] theorem State.setAnalog_doors (x : Analog) : (s.setAnalog x).doors = s.doors := rfl
@[simp] theorem State.setAnalog_radio (x : Analog) : (s.setAnalog x).radio = s.radio := rfl
@[simp] theorem State.setAnalog_tele (x : Analog) : (s.setAnalog x).tele = s.tele := rfl
@[simp] theorem State.setAnalog_analog (x : Analog) : (s.setAnalog x).analog = x := rfl
theorem State.setAnalog_self : s.setAnalog s.analog = s := rfl
@[simp] theorem State.setAnalog_setAnalog (x y : Analog) : (s.setAnalog x).setAnalog y = s.setAnalog y := rfl

/-! ### The reset state -/

@[simp] theorem State.reset_pending : State.reset.pending = [] := rfl
@[simp] theorem State.reset_params : State.reset.params = {} := rfl
@[simp] theorem State.reset_link : State.reset.link = Link.reset := rfl
@[simp] theorem State.reset_line : State.reset.line = LineTable.reset := rfl
@[simp] theorem State.reset_window : State.reset.window = List.replicate 32 none := rfl
@[simp] theorem State.reset_staging : State.reset.staging = .idle := rfl
@[simp] theorem State.reset_odo : State.reset.odo = Odometry.reset := rfl
@[simp] theorem State.reset_restr : State.reset.restr = Restrictions.reset := rfl
@[simp] theorem State.reset_sup : State.reset.sup = Supervisor.reset := rfl
@[simp] theorem State.reset_brakes : State.reset.brakes = Brakes.reset := rfl
@[simp] theorem State.reset_doors : State.reset.doors = Doors.reset := rfl
@[simp] theorem State.reset_radio : State.reset.radio = Radio.reset := rfl
@[simp] theorem State.reset_tele : State.reset.tele = Telegrams.reset := rfl
@[simp] theorem State.reset_analog : State.reset.analog = Analog.reset := rfl

end Sys2Proof.Machine
end

