-- ==== Sys2Proof/Laws/Frames.lean ====
section
/-! SUPPORT. Which blocks each shared operation may change: one lemma per operation, said once, so that a later proof
cites it and never unfolds the operation. `h .odo (by decide)` reads one block's equation off such a lemma. -/

namespace Sys2Proof.Machine

set_option Elab.async false

/-! ### The frame as a relation -/

theorem OnlyChanges.refl (bs : List Block) (s : State) : OnlyChanges bs s s := by
  intro b _; cases b <;> rfl

theorem sameBlock.trans {s t u : State} {b : Block} (h1 : sameBlock s t b) (h2 : sameBlock t u b) :
    sameBlock s u b := by
  cases b <;> exact Eq.trans h2 h1

theorem OnlyChanges.trans {bs : List Block} {s t u : State} (h1 : OnlyChanges bs s t) (h2 : OnlyChanges bs t u) :
    OnlyChanges bs s u := fun b hb => (h1 b hb).trans (h2 b hb)

theorem OnlyChanges.mono {bs cs : List Block} {s t : State} (h : OnlyChanges bs s t) (hsub : bs ⊆ cs := by decide) :
    OnlyChanges cs s t := fun b hb => h b (fun hm => hb (hsub hm))

/-- Two operations one after another. -/
theorem OnlyChanges.andThen {bs cs ds : List Block} {s t u : State} (h1 : OnlyChanges bs s t)
    (h2 : OnlyChanges cs t u) (hb : bs ⊆ ds := by decide) (hc : cs ⊆ ds := by decide) : OnlyChanges ds s u :=
  (h1.mono hb).trans (h2.mono hc)

/-! ### Updates of one block -/

theorem setPending_frame (x : List Instr) (s : State) : OnlyChanges [.pending] s (s.setPending x) := by
  intro b hb; cases b <;> first | rfl | simp at hb
theorem setParams_frame (x : Params) (s : State) : OnlyChanges [.params] s (s.setParams x) := by
  intro b hb; cases b <;> first | rfl | simp at hb
theorem setLink_frame (x : Link) (s : State) : OnlyChanges [.link] s (s.setLink x) := by
  intro b hb; cases b <;> first | rfl | simp at hb
theorem setLine_frame (x : LineTable) (s : State) : OnlyChanges [.line] s (s.setLine x) := by
  intro b hb; cases b <;> first | rfl | simp at hb
theorem setWindow_frame (x : List (Option WinEntry)) (s : State) : OnlyChanges [.window] s (s.setWindow x) := by
  intro b hb; cases b <;> first | rfl | simp at hb
theorem setStaging_frame (x : Staging) (s : State) : OnlyChanges [.staging] s (s.setStaging x) := by
  intro b hb; cases b <;> first | rfl | simp at hb
theorem setOdo_frame (x : Odometry) (s : State) : OnlyChanges [.odo] s (s.setOdo x) := by
  intro b hb; cases b <;> first | rfl | simp at hb
theorem setRestr_frame (x : Restrictions) (s : State) : OnlyChanges [.restr] s (s.setRestr x) := by
  intro b hb; cases b <;> first | rfl | simp at hb
theorem setSup_frame (x : Supervisor) (s : State) : OnlyChanges [.sup] s (s.setSup x) := by
  intro b hb; cases b <;> first | rfl | simp at hb
theorem setBrakes_frame (x : Brakes) (s : State) : OnlyChanges [.brakes] s (s.setBrakes x) := by
  intro b hb; cases b <;> first | rfl | simp at hb
theorem setDoors_frame (x : Doors) (s : State) : OnlyChanges [.doors] s (s.setDoors x) := by
  intro b hb; cases b <;> first | rfl | simp at hb
theorem setRadio_frame (x : Radio) (s : State) : OnlyChanges [.radio] s (s.setRadio x) := by
  intro b hb; cases b <;> first | rfl | simp at hb
theorem setTele_frame (x : Telegrams) (s : State) : OnlyChanges [.tele] s (s.setTele x) := by
  intro b hb; cases b <;> first | rfl | simp at hb
theorem setAnalog_frame (x : Analog) (s : State) : OnlyChanges [.analog] s (s.setAnalog x) := by
  intro b hb; cases b <;> first | rfl | simp at hb

/-! ### Flags, causes and answers -/

theorem setFlag_frame (f : EventFlag) (s : State) : OnlyChanges [.link] s (setFlag f s) := setLink_frame _ s

theorem addOdoCause_frame (c : OdoCause) (s : State) : OnlyChanges [.odo, .link] s (addOdoCause c s) :=
  (setOdo_frame _ s).andThen (setFlag_frame _ _)
theorem addBrakeCause_frame (c : BrakeCause) (s : State) : OnlyChanges [.brakes, .link] s (addBrakeCause c s) :=
  (setBrakes_frame _ s).andThen (setFlag_frame _ _)
theorem addDoorCause_frame (c : DoorCause) (s : State) : OnlyChanges [.doors, .link] s (addDoorCause c s) :=
  (setDoors_frame _ s).andThen (setFlag_frame _ _)
theorem addRadioCause_frame (c : RadioCause) (s : State) : OnlyChanges [.radio, .link] s (addRadioCause c s) :=
  (setRadio_frame _ s).andThen (setFlag_frame _ _)

theorem respond_frame (code : Nat) (res : Result) (data : List Byte) (s : State) :
    OnlyChanges [.link] s (respond code res data s) := setLink_frame _ s
theorem answer_frame (r : Req) (res : Result) (data : List Byte) (s : State) :
    OnlyChanges [.link] s (answer r res data s) := (setLink_frame _ s).trans (respond_frame _ _ _ _)
theorem answerResult_frame (r : Req) (x : Result × State) : OnlyChanges [.link] x.2 (answerResult r x) :=
  answer_frame _ _ _ _

/-! ### Restriction Table -/

theorem restrChanged_frame (r : Restrictions) (s : State) : OnlyChanges [.restr, .link] s (restrChanged r s) :=
  (setRestr_frame _ s).andThen (setFlag_frame _ _)

theorem changeAll_frame (f : Restriction → Option EntryChange) (s : State) :
    OnlyChanges [.restr, .link] s (changeAll f s) := by
  unfold changeAll; split
  · exact restrChanged_frame _ _
  · exact .refl _ _

theorem setClock_frame (v : Nat) (s : State) : OnlyChanges [.restr, .link] s (setClock v s) :=
  (setRestr_frame _ s).andThen (changeAll_frame _ _)

theorem retirePassed_frame (s : State) : OnlyChanges [.restr, .link] s (retirePassed s) := by
  unfold retirePassed; split
  · exact changeAll_frame _ _
  · exact .refl _ _

theorem putChecked_frame (e : Restriction) (s : State) : OnlyChanges [.restr, .link] s (putChecked e s).2 := by
  unfold putChecked; repeat' split
  all_goals first | exact restrChanged_frame _ _ | exact .refl _ _

theorem putRestriction_frame (i : Issuer) (w : PutWire) (s : State) :
    OnlyChanges [.restr, .link] s (putRestriction i w s).2 := by
  unfold putRestriction; repeat' split
  all_goals first | exact restrChanged_frame _ _ | exact .refl _ _ | exact putChecked_frame _ _

theorem withdrawEntry_frame (i : Issuer) (cause : RetireCause) (id : Nat) (s : State) :
    OnlyChanges [.restr, .link] s (withdrawEntry i cause id s).2 := by
  unfold withdrawEntry; repeat' split
  all_goals first | exact restrChanged_frame _ _ | exact .refl _ _

theorem judgePart_frame (w : PartEntry) (s : State) : OnlyChanges [.restr, .link] s (judgePart w s) := by
  unfold judgePart; repeat' split
  all_goals first | exact restrChanged_frame _ _ | exact .refl _ _

theorem relimitPart_frame (w : PartEntry) (s : State) : OnlyChanges [.restr, .link] s (relimitPart w s) := by
  unfold relimitPart; split
  · exact .refl _ _
  · exact restrChanged_frame _ _

theorem clearTable_frame (s : State) : OnlyChanges [.restr, .link] s (clearTable s) := by
  unfold clearTable; split
  · exact restrChanged_frame _ _
  · exact .refl _ _

/-! ### Radio and uplink queue -/

theorem queueAck_frame (k : AckKind) (n : Nat) (res : Result) (st : Nat) (s : State) :
    OnlyChanges [.tele, .radio, .link] s (queueAck k n res st s) := by
  unfold queueAck; dsimp only; repeat' split
  · exact (setTele_frame _ s).mono
  · exact (setTele_frame _ s).andThen (addRadioCause_frame _ _)
  · exact (setTele_frame _ s).andThen (addRadioCause_frame _ _)

theorem queueReport_frame (s : State) : OnlyChanges [.tele, .radio, .link] s (queueReport s) := by
  unfold queueReport; dsimp only; repeat' split
  · exact .refl _ _
  · exact (setTele_frame _ s).mono
  · exact (setTele_frame _ s).andThen (addRadioCause_frame _ _)

theorem radioCrossing_frame (cell : Nat) (s : State) : OnlyChanges [.radio, .link] s (radioCrossing cell s) := by
  unfold radioCrossing; split
  · exact .refl _ _
  · exact (setRadio_frame _ s).andThen (addRadioCause_frame _ _)

theorem radioCrossingCurrent_frame (s : State) : OnlyChanges [.radio, .link] s (radioCrossingCurrent s) := by
  unfold radioCrossingCurrent; split
  · exact .refl _ _
  · exact radioCrossing_frame _ _

theorem linkHeard_frame (s : State) : OnlyChanges [.radio, .restr, .link] s (linkHeard s) := by
  unfold linkHeard; split
  · exact (setRadio_frame _ s).mono
  · exact ((((setRadio_frame _ s).trans (setRadio_frame _ _)).mono).trans
      ((addRadioCause_frame .linkOk _).mono)).trans ((judgePart_frame _ _).mono)

theorem linkExpired_frame (s : State) : OnlyChanges [.radio, .restr, .link] s (linkExpired s) := by
  unfold linkExpired; split
  · exact (setRadio_frame _ s).mono
  · exact ((((setRadio_frame _ s).trans (setRadio_frame _ _)).mono).trans
      ((addRadioCause_frame .linkLost _).mono)).trans ((judgePart_frame _ _).mono)

theorem takeBeacon_frame (frame cell : Nat) (source : BeaconOrigin) (s : State) :
    OnlyChanges [.radio, .link] s (takeBeacon frame cell source s) := by
  unfold takeBeacon confirmOrResync acquire; dsimp only; repeat' split
  all_goals first
    | exact .refl _ _
    | exact (setRadio_frame _ s).mono
    | exact (setRadio_frame _ s).andThen (addRadioCause_frame _ _)

theorem holdoverExpired_frame (s : State) : OnlyChanges [.radio, .link] s (holdoverExpired s) := by
  unfold holdoverExpired; split
  · exact (setRadio_frame _ s).andThen (addRadioCause_frame _ _)
  · exact .refl _ _

theorem enterHoldover_frame (s : State) : OnlyChanges [.radio, .link] s (enterHoldover s) := by
  have h : OnlyChanges [.radio, .link] s (addRadioCause .holdover
      (s.setRadio { s.radio with miss := 0, sync := .holdover, holdover := some s.params.tHold })) :=
    (setRadio_frame _ s).andThen (addRadioCause_frame _ _)
  unfold enterHoldover; dsimp only; split
  · exact h.trans (holdoverExpired_frame _)
  · exact h

theorem endOfSlot0_frame (s : State) : OnlyChanges [.radio, .link] s (endOfSlot0 s) := by
  unfold endOfSlot0; repeat' split
  all_goals first
    | exact .refl _ _
    | exact (setRadio_frame _ s).mono
    | exact enterHoldover_frame s

theorem finishInit_frame (s : State) : OnlyChanges [.radio, .link] s (finishInit s) := by
  unfold finishInit; dsimp only; split
  · exact (setRadio_frame _ s).mono
  · exact (setRadio_frame _ s).andThen (addRadioCause_frame _ _)

/-! ### Window and Staging Buffer -/

theorem deriveWindow_frame (s : State) : OnlyChanges [.window, .line, .link] s (deriveWindow s) := by
  unfold deriveWindow; dsimp only; split
  · exact (setWindow_frame _ s).mono
  · exact ((setWindow_frame _ s).mono.trans ((setLine_frame _ _).mono)).trans ((setFlag_frame _ _).mono)

theorem dropStaging_frame (s : State) : OnlyChanges [.staging, .tele] s (dropStaging s) :=
  (setStaging_frame _ s).andThen (setTele_frame _ _)

theorem stageBlock_frame (o : Owner) (b : BlockWire) (s : State) : OnlyChanges [.staging] s (stageBlock o b s).2 := by
  unfold stageBlock; repeat' split
  all_goals first | exact .refl _ _ | exact setStaging_frame _ _

/-- The blocks an application of a staged update reaches (R22). -/
theorem applyUpdate_frame (u : StagedUpdate) (s : State) :
    OnlyChanges [.line, .window, .staging, .tele, .link, .radio] s (applyUpdate u s) := by
  have h : OnlyChanges [.line, .window, .staging, .tele, .link, .radio] s
      (dropStaging (setFlag .lineUpdate
        ((deriveWindow (s.setLine { s.line with records := appliedRecords u s.line.records,
                                                check := lineCheckOf (appliedRecords u s.line.records) })).setLine
          { (deriveWindow (s.setLine { s.line with
                records := appliedRecords u s.line.records,
                check := lineCheckOf (appliedRecords u s.line.records) })).line with
            update := some (.commitDone u.id) }))) :=
    ((((setLine_frame _ s).mono.trans ((deriveWindow_frame _).mono)).trans ((setLine_frame _ _).mono)).trans
      ((setFlag_frame _ _).mono)).trans ((dropStaging_frame _).mono)
  unfold applyUpdate; dsimp only; split
  · exact h
  · exact h.trans ((radioCrossingCurrent_frame _).mono)

theorem ackHeld_frame (u : StagedUpdate) (st : Option Nat) (res : Result) (s : State) :
    OnlyChanges [.tele, .radio, .link] s (ackHeld u st res s) := by
  unfold ackHeld; split
  · exact queueAck_frame _ _ _ _ _
  · exact .refl _ _

theorem retestHeld_frame (s : State) :
    OnlyChanges [.line, .window, .staging, .tele, .link, .radio] s (retestHeld s) := by
  unfold retestHeld; repeat' split
  · exact .refl _ _
  · exact (applyUpdate_frame _ s).trans ((ackHeld_frame _ _ _ _).mono)
  · exact .refl _ _

theorem commitUpdate_frame (o : Owner) (id crc : Nat) (s : State) :
    OnlyChanges [.line, .window, .staging, .tele, .link, .radio] s (commitUpdate o id crc s).2 := by
  unfold commitUpdate; repeat' split
  all_goals first
    | exact .refl _ _
    | exact (dropStaging_frame _).mono
    | exact (setStaging_frame _ _).mono
    | exact applyUpdate_frame _ _

theorem abortUpdate_frame (o : Owner) (id : Nat) (s : State) :
    OnlyChanges [.staging, .tele] s (abortUpdate o id s).2 := by
  unfold abortUpdate; repeat' split
  all_goals first | exact .refl _ _ | exact dropStaging_frame _

theorem holdExpired_frame (s : State) :
    OnlyChanges [.line, .staging, .tele, .link, .radio] s (holdExpired s) := by
  unfold holdExpired; split
  · exact (((setLine_frame _ s).mono.trans ((dropStaging_frame _).mono)).trans ((setFlag_frame _ _).mono)).trans
      ((ackHeld_frame _ _ _ _).mono)
  · exact .refl _ _

/-! ### Brakes -/

theorem judgePermit_frame (s : State) : OnlyChanges [.brakes] s (judgePermit s) := setBrakes_frame _ s
theorem combine_frame (s : State) : OnlyChanges [.brakes] s (combine s) :=
  (setBrakes_frame _ s).trans (judgePermit_frame _)
theorem writeDemand_frame (src : BrakeSource) (d : Demand) (s : State) :
    OnlyChanges [.brakes] s (writeDemand src d s) := (setBrakes_frame _ s).trans (combine_frame _)
theorem latchDemand_frame (src : BrakeSource) (s : State) : OnlyChanges [.brakes] s (latchDemand src s) :=
  writeDemand_frame _ _ s
theorem writeSupervisor_frame (s : State) : OnlyChanges [.brakes] s (writeSupervisor s) := writeDemand_frame _ _ s
theorem setRack_frame (x : RackState) (t : Option Nat) (s : State) : OnlyChanges [.brakes] s (setRack x t s) :=
  (setBrakes_frame _ s).trans (judgePermit_frame _)

theorem enterApplied_frame (s : State) : OnlyChanges [.brakes] s (enterApplied s) := by
  unfold enterApplied; split <;> exact setRack_frame _ _ _

theorem enterNotReleased_frame (f : RackFault) (c : BrakeCause) (s : State) :
    OnlyChanges [.brakes, .link] s (enterNotReleased f c s) :=
  ((setBrakes_frame _ s).trans (latchDemand_frame _ _)).andThen (addBrakeCause_frame _ _)

theorem enterNotApplied_frame (s : State) : OnlyChanges [.brakes, .link] s (enterNotApplied s) :=
  ((setBrakes_frame _ s).trans (writeDemand_frame _ _ _)).andThen (addBrakeCause_frame _ _)

theorem rackConversion_frame (w : WinState) (s : State) : OnlyChanges [.brakes, .link] s (rackConversion w s) := by
  unfold rackConversion; split
  · exact (setRack_frame _ _ _).mono
  · exact enterNotReleased_frame _ _ _
  · exact (enterApplied_frame _).mono
  · exact (enterApplied_frame _).andThen (addBrakeCause_frame _ _)
  · exact ((writeDemand_frame _ _ s).trans (enterApplied_frame _)).andThen (addBrakeCause_frame _ _)
  · exact .refl _ _

theorem takeAin0_frame (w : WinState) (s : State) : OnlyChanges [.brakes, .link] s (takeAin0 w s) :=
  (setBrakes_frame _ s).andThen (rackConversion_frame _ _)

theorem relExpired_frame (s : State) : OnlyChanges [.brakes, .link] s (relExpired s) := by
  unfold relExpired; split
  · exact enterNotReleased_frame _ _ _
  · exact .refl _ _

theorem appExpired_frame (s : State) : OnlyChanges [.brakes, .link] s (appExpired s) := by
  unfold appExpired; split
  · exact enterNotApplied_frame _
  · exact .refl _ _

theorem radioStop_frame (s : State) : OnlyChanges [.brakes] s (radioStop s).2 := by
  unfold radioStop; split
  · exact .refl _ _
  · exact latchDemand_frame _ _

theorem radioRelease_frame (s : State) : OnlyChanges [.brakes] s (radioRelease s).2 := by
  unfold radioRelease; split
  · exact writeDemand_frame _ _ _
  · exact .refl _ _

/-! ### Doors -/

theorem closedAnew_frame (s : State) : OnlyChanges [.doors, .brakes, .link] s (closedAnew s) := by
  unfold closedAnew; split
  · exact .refl _ _
  · exact ((setDoors_frame _ s).mono.trans ((addDoorCause_frame _ _).mono)).trans ((writeDemand_frame _ _ _).mono)

theorem addDoorCauses_frame (cs : List DoorCause) (s : State) : OnlyChanges [.doors, .link] s (addDoorCauses cs s) := by
  induction cs generalizing s with
  | nil => exact .refl _ _
  | cons c cs ih => exact (addDoorCause_frame c s).trans (ih _)

theorem settleLeaf_frame (id : LeafId) (l : Leaf) (cs : List DoorCause) (s : State) :
    OnlyChanges [.doors, .brakes, .link] s (settleLeaf id l cs s) :=
  ((setDoors_frame _ s).mono.trans ((addDoorCauses_frame _ _).mono)).trans (closedAnew_frame _)

theorem moveLeaf_frame (id : LeafId) (f : LeafEnv → Leaf → Leaf × List DoorCause) (s : State) :
    OnlyChanges [.doors, .brakes, .link] s (moveLeaf id f s) := by
  unfold moveLeaf; dsimp only; split
  · exact (settleLeaf_frame _ _ _ s).trans (settleLeaf_frame _ _ _ _)
  · exact settleLeaf_frame _ _ _ s

theorem moveSide_frame (side : Side) (f : LeafEnv → Leaf → Leaf) (s : State) :
    OnlyChanges [.doors, .brakes, .link] s (moveSide side f s) :=
  (setDoors_frame _ s).mono.trans (closedAnew_frame _)

theorem grantRelease_frame (side : Side) (auto : Bool) (s : State) :
    OnlyChanges [.doors, .brakes, .link] s (grantRelease side auto s) :=
  (setDoors_frame _ s).mono.trans (moveSide_frame _ _ _)

theorem closeSide_frame (side : Side) (s : State) : OnlyChanges [.doors, .brakes, .link] s (closeSide side s) := by
  unfold closeSide; dsimp only; split
  · exact (setDoors_frame _ s).mono.trans (moveSide_frame _ _ _)
  · exact moveSide_frame _ _ _

theorem retestRelease_frame (side : Side) (s : State) :
    OnlyChanges [.doors, .brakes, .link] s (retestRelease side s) := by
  unfold retestRelease; repeat' split
  · exact .refl _ _
  · exact ((setDoors_frame _ s).mono.trans ((addDoorCause_frame _ _).mono)).trans (moveSide_frame _ _ _)
  · exact .refl _ _

theorem retestReleases_frame (s : State) : OnlyChanges [.doors, .brakes, .link] s (retestReleases s) :=
  (retestRelease_frame _ s).trans (retestRelease_frame _ _)

theorem judgeInterlock_frame (s : State) : OnlyChanges [.doors, .brakes, .link] s (judgeInterlock s) := by
  unfold judgeInterlock; dsimp only; repeat' split
  · exact (writeDemand_frame _ _ s).mono
  · exact ((writeDemand_frame _ _ s).mono.trans ((latchDemand_frame _ _).mono)).trans ((addDoorCause_frame _ _).mono)
  · exact (writeDemand_frame _ _ s).mono

/-! ### Speed Supervisor -/

theorem selectDir_frame (d : Dir) (s : State) :
    OnlyChanges [.sup, .line, .window, .staging, .tele, .link, .radio, .brakes] s (selectDir d s) :=
  ((((setSup_frame _ s).mono.trans ((deriveWindow_frame _).mono)).trans ((retestHeld_frame _).mono)).trans
    ((judgePermit_frame _).mono)).trans ((setFlag_frame _ _).mono)

/-- The blocks told of a change of mode once the supervisor's own records are written (R78). -/
theorem toldOfMode_frame (s : State) :
    OnlyChanges [.line, .window, .staging, .tele, .link, .radio, .brakes, .doors] s
      (setFlag .modeChanged (judgePermit (retestReleases (retestHeld s)))) :=
  (((retestHeld_frame s).mono.trans ((retestReleases_frame _).mono)).trans ((judgePermit_frame _).mono)).trans
    ((setFlag_frame _ _).mono)

/-- The blocks a change of mode reaches (R78). -/
theorem changeMode_frame (m : Mode) (s : State) :
    OnlyChanges [.sup, .line, .window, .staging, .tele, .link, .radio, .brakes, .doors] s (changeMode m s) := by
  have h1 : OnlyChanges [.sup, .brakes] s (enterMode m s) := (setSup_frame _ s).andThen (writeSupervisor_frame _)
  have h2 : OnlyChanges [.sup, .line, .window, .staging, .tele, .link, .radio, .brakes] (enterMode m s)
      (neutralInStandby m (enterMode m s)) := by
    unfold neutralInStandby; split
    · exact selectDir_frame _ _
    · exact .refl _ _
  exact (h1.mono.trans h2.mono).trans ((toldOfMode_frame _).mono)

theorem trip_frame (c : TripCause) (s : State) :
    OnlyChanges [.sup, .line, .window, .staging, .tele, .link, .radio, .brakes, .doors] s (trip c s) :=
  (setSup_frame _ s).mono.trans (changeMode_frame _ _)

theorem tripIf_frame (b : Bool) (c : TripCause) (s : State) :
    OnlyChanges [.sup, .line, .window, .staging, .tele, .link, .radio, .brakes, .doors] s (tripIf b c s) := by
  unfold tripIf; split
  · exact trip_frame _ _
  · exact .refl _ _

theorem releaseSupervisor_frame (s : State) :
    OnlyChanges [.sup, .line, .window, .staging, .tele, .link, .radio, .brakes, .doors] s (releaseSupervisor s) := by
  unfold releaseSupervisor; split
  · exact (setSup_frame _ s).mono.trans (changeMode_frame _ _)
  · exact .refl _ _

theorem sbNotice_frame (b : Bool) (s : State) :
    OnlyChanges [.sup, .line, .window, .staging, .tele, .link, .radio, .brakes, .doors] s (sbNotice b s) :=
  (setSup_frame _ s).mono.trans (tripIf_frame _ _ _)

theorem evaluate_frame (s : State) : OnlyChanges [.sup] s (evaluate s) := by
  unfold evaluate; split <;> exact setSup_frame _ s

theorem stageRollback_frame (s : State) : OnlyChanges [.sup] s (stageRollback s) := by
  unfold stageRollback; split
  · exact .refl _ _
  · exact setSup_frame _ s

theorem stageTrip_frame (s : State) :
    OnlyChanges [.sup, .line, .window, .staging, .tele, .link, .radio, .brakes, .doors] s (stageTrip s) := by
  unfold stageTrip; split
  · exact .refl _ _
  · exact tripIf_frame _ _ _

theorem stageStandstill_frame (s : State) : OnlyChanges [.sup] s (stageStandstill s) := by
  unfold stageStandstill; split
  · exact setSup_frame _ s
  · exact .refl _ _

theorem stageLevel_frame (s : State) : OnlyChanges [.sup, .link] s (stageLevel s) := by
  unfold stageLevel; dsimp only; split
  · exact .refl _ _
  · exact (setSup_frame _ s).andThen (setFlag_frame _ _)

theorem stageAct_frame (s : State) :
    OnlyChanges [.sup, .line, .window, .staging, .tele, .link, .radio, .brakes, .doors] s (stageAct s) := by
  have h : OnlyChanges [.sup, .line, .window, .staging, .tele, .link, .radio, .brakes, .doors] s
      (stageIntervene (stageLevel s)) :=
    ((stageLevel_frame s).mono.trans (tripIf_frame _ _ _)).trans (tripIf_frame _ _ _)
  unfold stageAct; dsimp only; split
  · exact h
  · exact h.trans ((writeSupervisor_frame _).mono)

/-- The blocks the supervisor's part of a sample reaches (R86). -/
theorem superviseSample_frame (s : State) :
    OnlyChanges [.sup, .line, .window, .staging, .tele, .link, .radio, .brakes, .doors] s (superviseSample s) :=
  ((((stageRollback_frame s).mono.trans (stageTrip_frame _)).trans ((stageStandstill_frame _).mono)).trans
    ((evaluate_frame _).mono)).trans (stageAct_frame _)

theorem setDeficit_frame (b : Bool) (s : State) :
    OnlyChanges [.sup, .line, .window, .staging, .tele, .link, .radio, .brakes, .doors] s (setDeficit b s) :=
  ((setBrakes_frame _ s).mono.trans ((addBrakeCause_frame _ _).mono)).trans (sbNotice_frame _ _)

theorem deficitExpired_frame (s : State) :
    OnlyChanges [.sup, .line, .window, .staging, .tele, .link, .radio, .brakes, .doors] s (deficitExpired s) := by
  unfold deficitExpired; split
  · exact setDeficit_frame _ _
  · exact .refl _ _

/-- A notice that clears SB_DEFICIT never trips (R97). -/
theorem sbNotice_false (s : State) : sbNotice false s = s.setSup { s.sup with sbView := false } := by
  simp [sbNotice, tripIf]

/-- So clearing SB_DEFICIT reaches the supervisor's view alone (R97, R114). -/
theorem clearDeficit_frame (s : State) : OnlyChanges [.brakes, .sup, .link] s (setDeficit false s) := by
  unfold setDeficit; rw [sbNotice_false]
  exact ((setBrakes_frame _ s).mono.trans ((addBrakeCause_frame _ _).mono)).trans ((setSup_frame _ _).mono)

theorem trackPressure_frame (x : Nat) (s : State) : OnlyChanges [.brakes, .sup, .link] s (trackPressure x s) := by
  unfold trackPressure; repeat' split
  all_goals first
    | exact (setBrakes_frame _ s).mono
    | exact clearDeficit_frame _

theorem takeAin1_frame (x : Nat) (s : State) : OnlyChanges [.brakes, .sup, .link] s (takeAin1 x s) :=
  (setBrakes_frame _ s).mono.trans (trackPressure_frame _ _)

theorem releaseOdometry_frame (s : State) : OnlyChanges [.odo, .restr, .link] s (releaseOdometry s) := by
  unfold releaseOdometry; split
  · exact ((setOdo_frame _ s).mono.trans ((addOdoCause_frame _ _).mono)).trans ((judgePart_frame _ _).mono)
  · exact .refl _ _

theorem releaseTrip_frame (s : State) :
    OnlyChanges [.odo, .restr, .sup, .line, .window, .staging, .tele, .link, .radio, .brakes, .doors] s
      (releaseTrip s) :=
  (((releaseOdometry_frame s).mono.trans ((releaseSupervisor_frame _).mono)).trans ((setBrakes_frame _ _).mono)).trans
    ((combine_frame _).mono)

/-! ### Odometry Unit -/

theorem enterOdoFault_frame (f : OdoFault) (s : State) :
    OnlyChanges [.odo, .restr, .brakes, .link] s (enterOdoFault f s) := by
  unfold enterOdoFault; split
  · exact (((setOdo_frame _ s).mono.trans ((addOdoCause_frame _ _).mono)).trans ((latchDemand_frame _ _).mono)).trans
      ((judgePart_frame _ _).mono)
  · exact .refl _ _

theorem issueCrossing_frame (s : State) :
    OnlyChanges [.line, .window, .staging, .tele, .link, .radio] s (issueCrossing s) :=
  ((deriveWindow_frame s).mono.trans (retestHeld_frame _)).trans ((radioCrossingCurrent_frame _).mono)

/-- The blocks a count or a correction may reach past the odometry. -/
theorem takeCompares_frame (held : Option Sense) (s : State) :
    OnlyChanges [.odo, .restr, .brakes, .line, .window, .staging, .tele, .link, .radio] s (takeCompares held s) := by
  unfold takeCompares; split
  · exact .refl _ _
  · exact (setOdo_frame _ s).mono.trans ((issueCrossing_frame _).mono)
  · exact (setOdo_frame _ s).mono.trans ((issueCrossing_frame _).mono)
  · exact (enterOdoFault_frame _ _).mono

theorem degradeAtBound_frame (s : State) : OnlyChanges [.odo, .restr, .link] s (degradeAtBound s) := by
  unfold degradeAtBound; split
  · exact ((setOdo_frame _ s).mono.trans ((addOdoCause_frame _ _).mono)).trans ((judgePart_frame _ _).mono)
  · exact .refl _ _

theorem activeCount_frame (sensor : Sensor) (x : Sense) (s : State) :
    OnlyChanges [.odo, .restr, .brakes, .line, .window, .staging, .tele, .link, .radio] s
      (activeCount sensor x s) := by
  unfold activeCount; dsimp only; split
  · exact (setOdo_frame _ s).mono
  · exact ((((setOdo_frame _ s).trans (setOdo_frame _ _)).mono).trans ((degradeAtBound_frame _).mono)).trans
      (takeCompares_frame _ _)

theorem feedCheck_frame (sensor : Sensor) (x : Sense) (s : State) : OnlyChanges [.odo] s (feedCheck sensor x s) := by
  unfold feedCheck; split
  · cases sensor <;> exact setOdo_frame _ s
  · exact .refl _ _

theorem crossCheck_frame (s : State) : OnlyChanges [.odo, .restr, .brakes, .link] s (crossCheck s) := by
  unfold crossCheck; dsimp only; repeat' split
  · exact (setOdo_frame _ s).mono.trans (enterOdoFault_frame _ _)
  · exact (setOdo_frame _ s).mono
  · exact .refl _ _

theorem takeCount_frame (sensor : Sensor) (x : Sense) (s : State) :
    OnlyChanges [.odo, .restr, .brakes, .line, .window, .staging, .tele, .link, .radio] s (takeCount sensor x s) := by
  have h := ((setOdo_frame (feedCal sensor x (decodeCount sensor x s.odo)) s).trans (feedCheck_frame sensor x _)).mono
    (cs := [.odo, .restr, .brakes, .line, .window, .staging, .tele, .link, .radio])
  unfold takeCount; dsimp only; repeat' split
  · exact (h.trans (activeCount_frame _ _ _)).trans ((crossCheck_frame _).mono)
  · exact h.trans ((crossCheck_frame _).mono)
  · exact h.trans (activeCount_frame _ _ _)
  · exact h

theorem issueSample_frame (s : State) : OnlyChanges [.odo] s (issueSample s) := setOdo_frame _ s

/-- The blocks a position sample reaches: the odometry's own part, then the three takers. -/
theorem takeSample_frame (s : State) :
    OnlyChanges [.odo, .sup, .line, .window, .staging, .tele, .link, .radio, .brakes, .doors, .restr] s
      (takeSample s) :=
  ((((issueSample_frame s).mono.trans ((superviseSample_frame _).mono)).trans ((retirePassed_frame _).mono)).trans
    ((retestReleases_frame _).mono)).trans ((judgeInterlock_frame _).mono)

theorem setPosition_frame (p u : Nat) (s : State) :
    OnlyChanges [.odo, .window, .line, .radio, .restr, .link] s (setPosition p u s).2 := by
  unfold setPosition; repeat' split
  all_goals first
    | exact .refl _ _
    | exact (((setOdo_frame _ s).mono.trans ((deriveWindow_frame _).mono)).trans
        ((radioCrossingCurrent_frame _).mono)).trans ((judgePart_frame _ _).mono)

theorem offerReport_frame (r : MarkReport) (s : State) : OnlyChanges [.odo, .link] s (offerReport r s) := by
  unfold offerReport; split
  · exact .refl _ _
  · exact (setOdo_frame _ s).andThen (addOdoCause_frame _ _)

theorem evaluateCal_frame (m : Nat) (s : State) : OnlyChanges [.params, .odo, .link] s (evaluateCal m s) := by
  unfold evaluateCal; repeat' split
  all_goals first
    | exact .refl _ _
    | exact (addOdoCause_frame _ _).mono
    | exact (setParams_frame _ s).andThen (addOdoCause_frame _ _)

theorem correctPosition_frame (m : Nat) (s : State) : OnlyChanges [.odo, .restr, .link] s (correctPosition m s) := by
  unfold correctPosition; dsimp only; split
  · exact ((((setOdo_frame _ s).trans (setOdo_frame _ _)).mono).trans ((addOdoCause_frame _ _).mono)).trans
      ((judgePart_frame _ _).mono)
  · exact (setOdo_frame _ s).mono

theorem applyMark_frame (m : Nat) (s : State) :
    OnlyChanges [.params, .odo, .restr, .brakes, .line, .window, .staging, .tele, .link, .radio] s
      (applyMark m s) :=
  (((correctPosition_frame m s).mono.trans ((takeCompares_frame _ _).mono)).trans ((evaluateCal_frame _ _).mono)).trans
    ((setOdo_frame _ _).mono)

theorem detectMark_frame (s : State) :
    OnlyChanges [.params, .odo, .restr, .brakes, .line, .window, .staging, .tele, .link, .radio] s
      (detectMark s) := by
  unfold detectMark; dsimp only; repeat' split
  · exact .refl _ _
  · exact ((setOdo_frame _ s).mono.trans ((addOdoCause_frame _ _).mono)).trans ((offerReport_frame _ _).mono)
  · exact ((setOdo_frame _ s).mono.trans (applyMark_frame _ _)).trans ((offerReport_frame _ _).mono)
  · exact (setOdo_frame _ s).mono.trans ((offerReport_frame _ _).mono)

/-! ### Telegrams and analog -/

theorem setCounts_frame (f : Counts → Counts) (s : State) : OnlyChanges [.tele] s (setCounts f s) := setTele_frame _ s

theorem takeUplink_frame (s : State) : OnlyChanges [.tele] s (takeUplink s).2 := by
  unfold takeUplink; split
  · exact setCounts_frame _ _
  · exact (setTele_frame _ s).trans (setCounts_frame _ _)
  · exact (setTele_frame _ s).trans (setCounts_frame _ _)

theorem actInSlot_frame (s : State) : OnlyChanges [.radio, .tele, .link] s (actInSlot s) := by
  unfold actInSlot loopTest; repeat' split
  · exact (takeUplink_frame s).mono.trans ((setRadio_frame _ _).mono)
  · exact (setRadio_frame _ s).mono.trans ((addRadioCause_frame _ _).mono)
  · exact (setRadio_frame _ s).mono.trans ((addRadioCause_frame _ _).mono)
  · exact .refl _ _

theorem endReception_frame (s : State) : OnlyChanges [.radio] s (endReception s) := by
  unfold endReception; split
  · exact .refl _ _
  · exact setRadio_frame _ s

theorem startSlot_frame (s : State) : OnlyChanges [.radio, .tele, .link] s (startSlot s) := by
  unfold startSlot; dsimp only; split
  · exact .refl _ _
  · exact ((((endReception_frame s).mono.trans (endOfSlot0_frame _)).mono).trans
      ((setRadio_frame _ _).mono)).trans (actInSlot_frame _)

theorem discardTelegram_frame (d : Discard) (s : State) : OnlyChanges [.tele] s (discardTelegram d s) := by
  unfold discardTelegram; repeat' split
  all_goals first | exact .refl _ _ | exact (setCounts_frame _ s).trans (setCounts_frame _ _)

theorem receiveBeacon_frame (frame cell : Nat) (source : BeaconOrigin) (s : State) :
    OnlyChanges [.radio, .tele, .link] s (receiveBeacon frame cell source s) := by
  unfold receiveBeacon; split
  · exact ((setCounts_frame _ s).trans (setCounts_frame _ _)).mono.trans ((takeBeacon_frame _ _ _ _).mono)
  · exact .refl _ _

/-- A received telegram reaches the handler, the link state and whatever its receiving block reaches. -/
theorem receive_frame (h : TgHeader) (body : State → State) (s : State) (bs : List Block)
    (hbs : [.tele, .radio, .restr, .link] ⊆ bs) (hb : ∀ t, OnlyChanges bs t (body t)) :
    OnlyChanges bs s (receive h body s) := by
  have ht : [Block.tele] ⊆ bs := fun b hm => hbs (by simp_all)
  have hl : [Block.radio, .restr, .link] ⊆ bs := fun b hm => hbs (by simp only [List.mem_cons] at hm ⊢; tauto)
  unfold receive acceptTelegram; dsimp only; repeat' split
  · exact ((setCounts_frame _ s).trans (setCounts_frame _ _)).mono ht
  · exact (((((setCounts_frame _ s).trans (setCounts_frame _ _)).mono ht).trans
      ((linkHeard_frame _).mono hl)).trans ((setTele_frame _ _).mono ht)).trans (hb _)
  · exact ((setCounts_frame _ s).trans (setCounts_frame _ _)).mono ht
  · exact .refl _ _

theorem ackResult_frame (k : AckKind) (n : Nat) (h : TgHeader) (x : Result × State) :
    OnlyChanges [.tele, .radio, .link] x.2 (ackResult k n h x) := queueAck_frame _ _ _ _ _

/-- A completed conversion reaches the analog records and, when valid, its channel's owner (R186). -/
theorem completeConversion_frame (raw : Nat) (s : State) :
    OnlyChanges [.analog, .brakes, .sup, .doors, .link] s (completeConversion raw s) := by
  unfold completeConversion announce; dsimp only; repeat' split
  · exact (setAnalog_frame _ s).mono.trans ((takeAin0_frame _ _).mono)
  · exact (setAnalog_frame _ s).mono.trans ((takeAin1_frame _ _).mono)
  · exact (setAnalog_frame _ s).mono.trans ((moveLeaf_frame _ _ _).mono)
  · exact (setAnalog_frame _ s).mono
  · exact (setAnalog_frame _ s).mono

/-! ### The two ports -/

theorem csnFalls_frame (s : State) : OnlyChanges [.link] s (csnFalls s) := by
  unfold csnFalls; split
  · exact .refl _ _
  · exact setLink_frame _ s

theorem sckRises_frame (b : Bool) (s : State) : OnlyChanges [.link] s (sckRises b s) := by
  unfold sckRises; split
  · exact setLink_frame _ s
  · exact .refl _ _

theorem csnRises_frame (s : State) : OnlyChanges [.pending, .link] s (csnRises s) := by
  unfold csnRises; split
  · exact (setLink_frame _ s).mono.trans (setPending_frame _ _).mono
  · exact .refl _ _

theorem rrxdByte_frame (start : Bool) (b : Byte) (s : State) :
    OnlyChanges [.pending, .radio] s (rrxdByte start b s) := by
  unfold rrxdByte; repeat' split
  · exact .refl _ _
  · exact (setRadio_frame _ s).mono
  · exact .refl _ _
  · exact (setRadio_frame _ s).mono
  · exact (setRadio_frame _ s).mono.trans (setPending_frame _ _).mono

/-- An arrival reaches the frame in progress, the reception in progress and the queue of commands, and nothing else
before its command runs. -/
theorem arrive_frame (rstn : Bool) (e : PortEvent) (s : State) :
    OnlyChanges [.pending, .link, .radio] s (arrive rstn e s) := by
  unfold arrive; repeat' split
  · exact (csnFalls_frame s).mono
  · exact (sckRises_frame _ s).mono
  · exact (csnRises_frame s).mono
  · exact (rrxdByte_frame _ _ s).mono
  · exact .refl _ _

theorem arriveAll_frame (es : List PortEvent) (s : State) :
    OnlyChanges [.pending, .link, .radio] s (arriveAll es s) := by
  induction es generalizing s with
  | nil => exact .refl _ _
  | cons e es ih => exact (arrive_frame true e s).trans (ih _)

end Sys2Proof.Machine
end

