-- ==== Sys2Proof/Laws/Ops.lean ====
section
/-! SUPPORT. What each shared operation does, said once: the response, the flags and causes, the change log, the demand
table, the leaves, the handover, the square root and the lengths of runs of bytes. Later proofs cite these and unfold nothing. -/

namespace Sys2Proof.Machine

/-! ### Runs of bytes -/

@[simp] theorem u8_length (n : Nat) : (u8 n).length = 1 := rfl
@[simp] theorem u16_length (n : Nat) : (u16 n).length = 2 := rfl
@[simp] theorem bits32_length (w : BitVec 32) : (bits32 w).length = 4 := rfl
@[simp] theorem u32_length (n : Int) : (u32 n).length = 4 := by unfold u32; split <;> rfl
@[simp] theorem i32_length (n : Int) : (i32 n).length = 4 := by simp [i32]
@[simp] theorem i16_length (n : Int) : (i16 n).length = 2 := by simp [i16]
@[simp] theorem speed16_length (v : Int) : (speed16 v).length = 2 := by simp [speed16]
@[simp] theorem flag8_length (b : Bool) : (flag8 b).length = 1 := rfl
@[simp] theorem none8_length (o : Option Nat) : (none8 o).length = 1 := by cases o <;> rfl
@[simp] theorem none16_length (o : Option Nat) : (none16 o).length = 2 := by cases o <;> rfl
@[simp] theorem none32_length (o : Option Int) : (none32 o).length = 4 := by cases o <;> simp [none32]
@[simp] theorem flagged16_length (o : Option Nat) : (flagged16 o).length = 3 := by cases o <;> rfl
@[simp] theorem flagged32_length (o : Option Nat) : (flagged32 o).length = 5 := by
  cases o with
  | none => rfl
  | some n =>
    have h : flagged32 (some n) = 1#8 :: u32 n := rfl
    rw [h, List.length_cons, u32_length]
@[simp] theorem noRecord_length (n : Nat) : (noRecord n).length = n := by simp [noRecord]
@[simp] theorem padTo_length (n : Nat) (bs : List Byte) : (padTo n bs).length = n := by
  simp [padTo]; omega
@[simp] theorem withCrc_length (bs : List Byte) : (withCrc bs).length = bs.length + 2 := by simp [withCrc]
@[simp] theorem sectionBytes_length (r : SectionRec) : (sectionBytes r).length = 31 := by simp [sectionBytes]
@[simp] theorem restrictionBytes_length (i : Nat) (e : Restriction) : (restrictionBytes i e).length = 26 := by
  simp [restrictionBytes]

/-- A number is read back from the two bytes that carry it. -/
theorem wordAt_u16 (n : Nat) (h : n < 65536) : wordAt (u16 n) 0 = n := by
  simp [wordAt, byteAt, u16]; omega

/-! ### The response (R191, R192) -/

/-- Every response has 40 bytes. -/
theorem composeResponse_length (code : Nat) (res : Result) (data : List Byte) (s : State) :
    (composeResponse code res data s).length = 40 := by simp [composeResponse, summary]

/-- A response that leaves the answer store alone. -/
theorem respond_link (code : Nat) (res : Result) (data : List Byte) (s : State) :
    (respond code res data s).link = { s.link with response := responseOf code res data (respond code res data s) } :=
  rfl

theorem pageData_zero (a : Answer) : pageData a 0 = firstPage a.data := by
  simp [pageData, firstPage, pageCount]; split <;> rfl

/-- An executed request is answered and changes nothing else. -/
theorem answer_answered (r : Req) (res : Result) (data : List Byte) (s : State) :
    Answered r res data s.link (answer r res data s) := by
  simp only [Answered, answer, respond_link, State.setLink_link, pageData_zero]

theorem answer_only (r : Req) (res : Result) (data : List Byte) (s : State) :
    AnsweredOnly r res data s (answer r res data s) :=
  ⟨answer_frame r res data s, answer_answered r res data s⟩

/-! ### Flags and causes (R193, R51, R117, R142, R162) -/

@[simp] theorem setFlag_link (f : EventFlag) (s : State) : (setFlag f s).link = flagged f s.link := rfl
@[simp] theorem addOdoCause_odo (c : OdoCause) (s : State) :
    (addOdoCause c s).odo = { s.odo with causes := s.odo.causes ||| odoCauseBit c } := rfl
@[simp] theorem addOdoCause_link (c : OdoCause) (s : State) : (addOdoCause c s).link = flagged .odometry s.link := rfl
@[simp] theorem addBrakeCause_brakes (c : BrakeCause) (s : State) :
    (addBrakeCause c s).brakes = { s.brakes with causes := s.brakes.causes ||| brakeCauseBit c } := rfl
@[simp] theorem addBrakeCause_link (c : BrakeCause) (s : State) :
    (addBrakeCause c s).link = flagged .brakeFault s.link := rfl
@[simp] theorem addDoorCause_doors (c : DoorCause) (s : State) :
    (addDoorCause c s).doors = { s.doors with causes := s.doors.causes ||| doorCauseBit c } := rfl
@[simp] theorem addDoorCause_link (c : DoorCause) (s : State) : (addDoorCause c s).link = flagged .doorEvent s.link := rfl
@[simp] theorem addRadioCause_radio (c : RadioCause) (s : State) :
    (addRadioCause c s).radio = { s.radio with causes := s.radio.causes ||| radioCauseBit c } := rfl
@[simp] theorem addRadioCause_link (c : RadioCause) (s : State) :
    (addRadioCause c s).link = flagged .radioEvent s.link := rfl

theorem flagBit_getLsbD (f g : EventFlag) : (flagBit f).getLsbD (flagIndex g) = decide (f = g) := by
  cases f <;> cases g <;> rfl

/-- A set flag is set, and no flag is cleared by setting another. -/
theorem flagged_getLsbD (f g : EventFlag) (l : Link) :
    (flagged f l).flags.getLsbD (flagIndex g) = (l.flags.getLsbD (flagIndex g) || decide (f = g)) := by
  simp [flagged, flagBit_getLsbD]

theorem flagged_flagged (f : EventFlag) (l : Link) : flagged f (flagged f l) = flagged f l := by
  simp [flagged, BitVec.or_assoc]

/-! ### The change log and the table (R67, R68) -/

theorem logPush_logged (c : ChangeRec) (r : Restrictions) : Logged c r (logPush c r) := by
  unfold Logged logPush; split <;> simp

theorem logPush_rest (c : ChangeRec) (r : Restrictions) :
    (logPush c r).table = r.table ∧ (logPush c r).clock = r.clock ∧ (logPush c r).second = r.second := by
  unfold logPush; split <;> simp

/-- An entry retired, with its record and the flag. -/
theorem retireAt_changed (cause : RetireCause) (i : Nat) (e : Restriction) (s : State) :
    EntryChanged .retired (some cause) i e none s (restrChanged (retireAt cause i e s.restr) s) := by
  have h := logPush_rest ⟨.retired, some cause, some (e.issuer, e.id, e.kind, i), s.restr.clock⟩
    { s.restr with table := s.restr.table.set i none }
  exact ⟨restrChanged_frame _ s, h.1, h.2.1, h.2.2, logPush_logged _ { s.restr with table := s.restr.table.set i none },
    rfl⟩

/-- An entry stored, with its record and the flag. -/
theorem storeAt_changed (ch : ChangeKind) (i : Nat) (e : Restriction) (s : State) :
    EntryChanged ch none i e (some e) s (restrChanged (storeAt ch i e s.restr) s) := by
  have h := logPush_rest ⟨ch, none, some (e.issuer, e.id, e.kind, i), s.restr.clock⟩
    { s.restr with table := s.restr.table.set i (some e) }
  exact ⟨restrChanged_frame _ s, h.1, h.2.1, h.2.2,
    logPush_logged _ { s.restr with table := s.restr.table.set i (some e) }, rfl⟩

/-! ### The demand table (R102 to R104) -/

@[simp] theorem getDemand_putDemand (src : BrakeSource) (d : Demand) (b : Brakes) :
    getDemand (putDemand src d b) src = d := by cases src <;> rfl

theorem getDemand_putDemand_ne (src k : BrakeSource) (d : Demand) (b : Brakes) (h : k ≠ src) :
    getDemand (putDemand src d b) k = getDemand b k := by
  cases src <;> cases k <;> first | rfl | exact absurd rfl h

/-- Emergency present, by the entries (R103). -/
theorem emergencyOf_iff (b : Brakes) : emergencyOf b = true ↔ ∃ src, (getDemand b src).emergency ≠ .none := by
  constructor
  · intro h
    simp only [emergencyOf, allDemands, List.any_cons, List.any_nil, Bool.or_false, Bool.or_eq_true, bne_iff_ne] at h
    rcases h with h | h | h | h | h | h
    exacts [⟨.supervisor, h⟩, ⟨.odometry, h⟩, ⟨.doors, h⟩, ⟨.radio, h⟩, ⟨.host, h⟩, ⟨.brake, h⟩]
  · rintro ⟨src, h⟩
    simp only [emergencyOf, allDemands, List.any_cons, List.any_nil, Bool.or_false, Bool.or_eq_true, bne_iff_ne]
    cases src <;> simp only [getDemand] at h <;> simp [h]

theorem getDemand_le_highest (b : Brakes) (src : BrakeSource) : (getDemand b src).level ≤ highestLevel b := by
  simp only [highestLevel, allDemands, List.foldl]
  cases src <;> simp only [getDemand] <;> omega

theorem highest_is_held (b : Brakes) : highestLevel b = 0 ∨ ∃ src, (getDemand b src).level = highestLevel b := by
  simp only [highestLevel, allDemands, List.foldl]
  by_cases h : ∃ src, (getDemand b src).level =
      max (max (max (max (max (max 0 b.supervisor.level) b.odometry.level) b.doors.level) b.radio.level) b.host.level)
        b.brake.level
  · exact .inr h
  · exfalso
    apply h
    have hs : ∀ m : Nat, m = b.supervisor.level ∨ m = b.odometry.level ∨ m = b.doors.level ∨ m = b.radio.level
        ∨ m = b.host.level ∨ m = b.brake.level → ∃ src, (getDemand b src).level = m := by
      rintro m (h | h | h | h | h | h)
      exacts [⟨.supervisor, h.symm⟩, ⟨.odometry, h.symm⟩, ⟨.doors, h.symm⟩, ⟨.radio, h.symm⟩, ⟨.host, h.symm⟩,
        ⟨.brake, h.symm⟩]
    exact hs _ (by omega)

/-- The rack brake's answer to the combination touches no entry, and neither combined value (R110). -/
theorem rackTold_rest (p : Params) (b : Brakes) :
    (rackTold p b).emergency = b.emergency ∧ (rackTold p b).effort = b.effort
      ∧ ∀ src, getDemand (rackTold p b) src = getDemand b src := by
  unfold rackTold; split <;> exact ⟨rfl, rfl, fun src => by cases src <;> rfl⟩

theorem trackTold_rest (p : Params) (b : Brakes) :
    (trackTold p b).emergency = b.emergency ∧ (trackTold p b).effort = b.effort
      ∧ ∀ src, getDemand (trackTold p b) src = getDemand b src :=
  ⟨rfl, rfl, fun src => by cases src <;> rfl⟩

/-- The combination agrees with the entries, which it leaves alone (R103). -/
theorem combined_spec (p : Params) (b : Brakes) :
    (combined p b).emergency = emergencyOf b ∧ (combined p b).effort = effortOf b
      ∧ ∀ src, getDemand (combined p b) src = getDemand b src := by
  let b1 : Brakes := { b with emergency := emergencyOf b, effort := effortOf b }
  let b2 : Brakes := if b1.emergency = b.emergency then b1 else rackTold p b1
  have h2 : b2.emergency = emergencyOf b ∧ b2.effort = effortOf b ∧ ∀ src, getDemand b2 src = getDemand b src := by
    have hb : ∀ src, getDemand b1 src = getDemand b src := fun src => by cases src <;> rfl
    by_cases h : b1.emergency = b.emergency
    · have : b2 = b1 := if_pos h
      rw [this]; exact ⟨rfl, rfl, hb⟩
    · have : b2 = rackTold p b1 := if_neg h
      rw [this]
      obtain ⟨x, y, z⟩ := rackTold_rest p b1
      exact ⟨x, y, fun src => (z src).trans (hb src)⟩
  by_cases h : b1.effort = b.effort
  · have : combined p b = b2 := if_pos h
    rw [this]; exact h2
  · have : combined p b = trackTold p b2 := if_neg h
    rw [this]
    obtain ⟨x, y, z⟩ := trackTold_rest p b2
    exact ⟨x.trans h2.1, y.trans h2.2.1, fun src => (z src).trans (h2.2.2 src)⟩

/-- The permit looks at the entries, the rack brake, the supervisor and car closed alone (R116). -/
theorem permitHolds_tperm (sup : Supervisor) (closed : Bool) (b : Brakes) (x : Bool) :
    permitHolds sup closed { b with tperm := x } = permitHolds sup closed b := rfl

theorem permitHolds_not_closed (sup : Supervisor) (b : Brakes) : permitHolds sup false b = false := by
  simp [permitHolds]

theorem getDemand_tperm (b : Brakes) (x : Bool) (src : BrakeSource) :
    getDemand { b with tperm := x } src = getDemand b src := by cases src <;> rfl

/-- An entry written: the table, the combination and the permit after it (R103, R104, R116). -/
theorem writeDemand_spec (src : BrakeSource) (d : Demand) (s : State) :
    getDemand (writeDemand src d s).brakes src = d
      ∧ (∀ k, k ≠ src → getDemand (writeDemand src d s).brakes k = getDemand s.brakes k)
      ∧ (writeDemand src d s).brakes.emergency = emergencyOf (putDemand src d s.brakes)
      ∧ (writeDemand src d s).brakes.effort = effortOf (putDemand src d s.brakes)
      ∧ (writeDemand src d s).brakes.tperm = permitHolds s.sup s.doors.closed (writeDemand src d s).brakes := by
  obtain ⟨h1, h2, h3⟩ := combined_spec s.params (putDemand src d s.brakes)
  have hg : ∀ k, getDemand (writeDemand src d s).brakes k = getDemand (putDemand src d s.brakes) k :=
    fun k => (getDemand_tperm _ _ k).trans (h3 k)
  exact ⟨(hg src).trans (getDemand_putDemand _ _ _),
    fun k hk => (hg k).trans (getDemand_putDemand_ne _ _ _ _ hk), h1, h2, rfl⟩

/-! ### The leaves -/

@[simp] theorem getLeaf_putLeaf (id : LeafId) (l : Leaf) (ls : Leaves) : getLeaf (putLeaf id l ls) id = l := by
  cases id <;> rfl

theorem getLeaf_putLeaf_ne (id j : LeafId) (l : Leaf) (ls : Leaves) (h : j ≠ id) :
    getLeaf (putLeaf id l ls) j = getLeaf ls j := by
  cases id <;> cases j <;> first | rfl | exact absurd rfl h

theorem getLeaf_mapLeaves (f : Leaf → Leaf) (ls : Leaves) (id : LeafId) :
    getLeaf (mapLeaves f ls) id = f (getLeaf ls id) := by cases id <;> rfl

/-- The leaves of a side taken through a function: those of the side move, the others stand. -/
theorem getLeaf_mapSide (side : Side) (f : Leaf → Leaf) (ls : Leaves) (id : LeafId) :
    getLeaf (mapSide side f ls) id =
      if side = .both ∨ leafSide id = side then f (getLeaf ls id) else getLeaf ls id := by
  cases side <;> cases id <;> rfl

/-- The place of each door cause, as a set. -/
def causeBits (cs : List DoorCause) : BitVec 16 := cs.foldl (fun x c => x ||| doorCauseBit c) 0#16

/-- Car closed derived anew: nothing without a change; a change adds CLOSED_CHANGED and rewrites the DOORS level, with
the permit withdrawn while the car is open (R140). -/
theorem closedAnew_spec (s : State) :
    (carClosed s.doors.leaves = s.doors.closed → closedAnew s = s)
      ∧ (carClosed s.doors.leaves ≠ s.doors.closed →
          (closedAnew s).doors = { s.doors with closed := carClosed s.doors.leaves, causes := s.doors.causes ||| 16#16 }
          ∧ (closedAnew s).link = flagged .doorEvent s.link
          ∧ (closedAnew s).brakes.doors.level =
              (if s.odo.standstill = true ∧ carClosed s.doors.leaves = false then s.params.sHold else 0)
          ∧ (closedAnew s).brakes.doors.emergency = s.brakes.doors.emergency
          ∧ (carClosed s.doors.leaves = false → (closedAnew s).brakes.tperm = false)) := by
  unfold closedAnew
  refine ⟨fun h => if_pos h, fun h => ?_⟩
  rw [if_neg h]
  generalize hu : addDoorCause .closedChanged (s.setDoors { s.doors with closed := carClosed s.doors.leaves }) = u
  have hw := writeDemand_spec .doors { u.brakes.doors with level := doorsLevel u } u
  have hud : u.doors = { s.doors with closed := carClosed s.doors.leaves, causes := s.doors.causes ||| 16#16 } := by
    subst hu; rfl
  have hul : u.link = flagged .doorEvent s.link := by subst hu; rfl
  have hub : u.brakes = s.brakes := by subst hu; rfl
  have huo : u.odo = s.odo := by subst hu; rfl
  have hup : u.params = s.params := by subst hu; rfl
  have hd : (writeDoorsLevel u).brakes.doors = { u.brakes.doors with level := doorsLevel u } := hw.1
  have fr := writeDemand_frame .doors { u.brakes.doors with level := doorsLevel u } u
  have fd : (writeDoorsLevel u).doors = u.doors := fr .doors (by decide)
  have fl : (writeDoorsLevel u).link = u.link := fr .link (by decide)
  refine ⟨fd.trans hud, fl.trans hul, ?_, ?_, fun hc => ?_⟩
  · rw [hd]; simp only [doorsLevel, huo, hup, hud, Bool.and_eq_true, Bool.not_eq_true']
  · rw [hd, hub]
  · have ht : (writeDoorsLevel u).brakes.tperm = permitHolds u.sup u.doors.closed (writeDoorsLevel u).brakes :=
      hw.2.2.2.2
    rw [ht, hud]
    simp only [hc, permitHolds_not_closed]

theorem causeBits_cons (c : DoorCause) (cs : List DoorCause) : causeBits (c :: cs) = doorCauseBit c ||| causeBits cs := by
  have h : ∀ (l : List DoorCause) (x : BitVec 16),
      l.foldl (fun x c => x ||| doorCauseBit c) x = x ||| l.foldl (fun x c => x ||| doorCauseBit c) 0#16 := by
    intro l
    induction l with
    | nil => intro x; simp
    | cons d l ih => intro x; simp only [List.foldl_cons]; rw [ih (x ||| _), ih (0#16 ||| _)]; simp [BitVec.or_assoc]
  simp only [causeBits, List.foldl_cons]
  rw [h]; simp

theorem causeBits_eq_zero (cs : List DoorCause) : causeBits cs = 0#16 ↔ cs = [] := by
  cases cs with
  | nil => simp [causeBits]
  | cons c cs =>
    simp only [causeBits_cons, reduceCtorEq, iff_false]
    intro h
    have hc : doorCauseBit c = 0#16 := (BitVec.or_eq_zero_iff.mp h).1
    cases c <;> simp [doorCauseBit, doorCauseIndex] at hc

/-- Door causes added: the set, the flag when there is one, and nothing else (R142). -/
theorem addDoorCauses_spec (cs : List DoorCause) (s : State) :
    (addDoorCauses cs s).doors = { s.doors with causes := s.doors.causes ||| causeBits cs }
      ∧ (addDoorCauses cs s).link = if causeBits cs = 0#16 then s.link else flagged .doorEvent s.link := by
  induction cs generalizing s with
  | nil => simp [addDoorCauses, causeBits]
  | cons c cs ih =>
    obtain ⟨h1, h2⟩ := ih (addDoorCause c s)
    have hz : causeBits (c :: cs) ≠ 0#16 := fun h => by simp [causeBits_eq_zero] at h
    refine ⟨h1.trans ?_, h2.trans ?_⟩
    · simp [causeBits_cons, BitVec.or_assoc]
    · rw [if_neg hz]; split <;> simp [flagged_flagged]

/-- One leaf's record replaced: what `LeafMoved` says of the leaf and the causes added (R140, R142). -/
theorem settleLeaf_moved (id : LeafId) (l : Leaf) (cs : List DoorCause) (s : State) :
    LeafMoved id l (causeBits cs) s (settleLeaf id l cs s) := by
  have fr := settleLeaf_frame id l cs s
  let s1 := s.setDoors { s.doors with leaves := putLeaf id l s.doors.leaves }
  let u := addDoorCauses cs s1
  have hm : settleLeaf id l cs s = closedAnew u := rfl
  have hu := addDoorCauses_spec cs s1
  have fu := addDoorCauses_frame cs s1
  have hub : u.brakes = s.brakes := fu .brakes (by decide)
  have huo : u.odo = s.odo := fu .odo (by decide)
  have hup : u.params = s.params := fu .params (by decide)
  have hl : u.doors.leaves = putLeaf id l s.doors.leaves := by simp only [u, hu.1]; rfl
  have hc : u.doors.closed = s.doors.closed := by simp only [u, hu.1]; rfl
  have hk : u.doors.causes = s.doors.causes ||| causeBits cs := by simp only [u, hu.1]; rfl
  have hleft : u.doors.left = s.doors.left := by simp only [u, hu.1]; rfl
  have hright : u.doors.right = s.doors.right := by simp only [u, hu.1]; rfl
  have hlink : u.link = if causeBits cs = 0#16 then s.link else flagged .doorEvent s.link := hu.2
  obtain ⟨same, moved⟩ := closedAnew_spec u
  rw [hm] at fr ⊢
  by_cases h : carClosed u.doors.leaves = u.doors.closed
  · rw [same h] at fr ⊢
    exact ⟨fr, by rw [hl]; exact getLeaf_putLeaf _ _ _, fun j hj => by rw [hl]; exact getLeaf_putLeaf_ne _ _ _ _ hj,
      hleft, hright, h.symm, fun _ => ⟨hub, hk, hlink⟩,
      fun hn => absurd hc hn⟩
  · obtain ⟨m1, m2, m3, m4, m5⟩ := moved h
    have hl' : (closedAnew u).doors.leaves = u.doors.leaves := by rw [m1]
    have hcl : (closedAnew u).doors.closed = carClosed u.doors.leaves := by rw [m1]
    refine ⟨fr, by rw [hl', hl]; exact getLeaf_putLeaf _ _ _,
      fun j hj => by rw [hl', hl]; exact getLeaf_putLeaf_ne _ _ _ _ hj,
      by rw [m1]; exact hleft, by rw [m1]; exact hright, by rw [hcl, hl'], fun he => ?_, fun _ => ?_⟩
    · rw [hcl] at he; exact absurd (he.trans hc.symm) h
    · refine ⟨by rw [m1, hk], m2.trans ?_, ?_, ?_, fun hf => m5 (hcl ▸ hf)⟩
      · rw [hlink]; split <;> simp [flagged_flagged]
      · rw [m3, huo, hup, hcl]
      · rw [m4, hub]

/-- One leaf takes an event: one move, or, for a leaf that has entered LOCKED under a release, a move to LOCKED and one
to UNLOCKING (R122, R140). -/
theorem moveLeaf_moved (id : LeafId) (f : LeafEnv → Leaf → Leaf × List DoorCause) (s : State) :
    let e := leafEnv s (leafSide id)
    let l := getLeaf s.doors.leaves id
    let x := f e l
    (movesOn e l x.1 = false → LeafMoved id x.1 (causeBits x.2) s (moveLeaf id f s))
      ∧ (movesOn e l x.1 = true → ∃ u, LeafMoved id x.1 (causeBits x.2) s u
          ∧ LeafMoved id (enterUnlocking e x.1) 0#16 u (moveLeaf id f s)) := by
  refine ⟨fun h => ?_, fun h => ⟨_, settleLeaf_moved _ _ _ s, ?_⟩⟩ <;> unfold moveLeaf <;> dsimp only
  · rw [h]; exact settleLeaf_moved _ _ _ s
  · rw [if_pos h]; exact settleLeaf_moved _ _ [] _

/-! ### What the Radio Frame Controller is told (R22, R157) -/

/-- What a crossing told to the Radio Frame Controller does to it (R157). -/
theorem radioCrossing_handedOver (cell : Nat) (s : State) : HandedOver cell s (radioCrossing cell s) := by
  unfold radioCrossing
  constructor
  · intro h; rw [if_pos h]
  · intro h1 h2
    rw [if_neg (by tauto)]
    unfold addRadioCause enterSearchAnew clearGrant soughtAnew channelOf
    refine ⟨by simp only [setFlag, State.setLink_radio, State.setRadio_radio]; cases s.radio.grant <;> rfl, ?_⟩
    exact (flagged_getLsbD .radioEvent .radioEvent _).trans (by simp)

/-- The records of the line after a derivation of the window. -/
theorem deriveWindow_records (s : State) : (deriveWindow s).line.records = s.line.records := by
  unfold deriveWindow; dsimp only; split <;> rfl

/-- What an applied update tells the Radio Frame Controller (R22). -/
theorem applyUpdate_told (u : StagedUpdate) (s : State) : CellTold s (applyUpdate u s) := by
  have hw : ∀ x : State, (deriveWindow x).radio = x.radio ∧ (deriveWindow x).odo = x.odo := fun x =>
    ⟨deriveWindow_frame x .radio (by decide), deriveWindow_frame x .odo (by decide)⟩
  unfold applyUpdate
  extract_lets before rs l0 s1 l1 s2
  have hr : s2.radio = s.radio := (hw _).1
  have ho : s2.odo = s.odo := (hw _).2
  have hl : s2.line.records = rs := deriveWindow_records _
  have hc : currentRecord s2 = s.odo.cur.bind (fun i => rs[i]?) := by
    unfold currentRecord recordAt; rw [ho, hl]
  have hh : ∀ cell, HandedOver cell s (radioCrossing cell s2) := fun cell => by
    have h := radioCrossing_handedOver cell s2
    unfold HandedOver at h ⊢; rwa [hr] at h
  constructor
  · intro hn
    have : currentRecord s2 = none ∧ before = none := by
      rw [hc]
      cases hcur : s.odo.cur with
      | none => simp [before, currentRecord, hcur]
      | some c => simpa [before, currentRecord, recordAt, hcur, rs, appliedRecords] using hn c hcur
    rw [if_pos (by rw [this.1, this.2]; rfl)]; exact hr
  · intro c x y hcur hx hy
    have hb : before = some x.cell := by simp [before, currentRecord, recordAt, hcur, hx]
    have hrec : currentRecord s2 = some y := by
      rw [hc, hcur]
      split at hy
      · rwa [hl] at hy
      · rw [show (radioCrossingCurrent s2).line = s2.line from radioCrossingCurrent_frame s2 .line (by decide), hl] at hy
        exact hy
    rw [hrec, hb]
    constructor
    · intro h; rw [if_pos (by simp [h])]; exact hr
    · intro h
      rw [if_neg (by simpa using h)]
      have : radioCrossingCurrent s2 = radioCrossing y.cell s2 := by
        unfold radioCrossingCurrent; rw [hrec]
      rw [this]; exact hh _
/-! ### The square root (R93) -/

/-- One bit at a time keeps the root between `r` and `r + 2 ^ k`. -/
theorem sqrtFrom_spec (n : Nat) : ∀ k r : Nat, r * r ≤ n → n < (r + 2 ^ k) * (r + 2 ^ k) →
    sqrtFrom n k r * sqrtFrom n k r ≤ n ∧ n < (sqrtFrom n k r + 1) * (sqrtFrom n k r + 1)
  | 0, r, h1, h2 => ⟨h1, by simpa [sqrtFrom] using h2⟩
  | k + 1, r, h1, h2 => by
    unfold sqrtFrom
    split
    · next h => exact sqrtFrom_spec n k _ h (by rw [add_assoc, ← two_mul, ← pow_succ']; exact h2)
    · next h => exact sqrtFrom_spec n k r h1 (by omega)

/-- `floorSqrt` is the floor of the square root, below 2 ^ 40. -/
theorem floorSqrt_spec (n : Nat) (h : n < 2 ^ 40) :
    floorSqrt n ^ 2 ≤ n ∧ n < (floorSqrt n + 1) ^ 2 := by
  have := sqrtFrom_spec n 20 0 (by simp) (by norm_num; omega)
  simpa [floorSqrt, pow_two] using this

end Sys2Proof.Machine
end

