-- ==== Sys2Proof/Laws/PerInstr.lean ====
section
/-! SUPPORT. The per-command family `Operands`: the argument bytes of a host request fit the 37 bytes its frame has for
them (R190, section 11.2), said of every command. -/

namespace Sys2Proof

/-- The argument bytes of every sent record have the lengths of R201 and section 11.2. -/
theorem sectionWireBytes_length (r : SectionWire) : (sectionWireBytes r).length = 31 := by
  simp [sectionWireBytes]
theorem blockWireBytes_length (b : BlockWire) : (blockWireBytes b).length = 37 := by
  simp [blockWireBytes, sectionWireBytes_length]
theorem putWireBytes_length (w : PutWire) : (putWireBytes w).length = 23 := by
  simp [putWireBytes]

namespace Laws.Operands

set_option Elab.async false

/-- What the family says of a command: its argument bytes, if it is a host request, fit its frame. -/
def Statement (i : Instr) : Prop := ∀ r args, requestArgs i = some (r, args) → args.length ≤ 37

/-- A command that is no host request carries no argument bytes. -/
theorem of_none {i : Instr} (h : requestArgs i = none) : Statement i := fun r args e => by simp [h] at e

/-- A host request, by the length of the bytes it carries. -/
theorem of_some {i : Instr} {r : Req} {bs : List Byte} (h : requestArgs i = some (r, bs)) (n : Nat)
    (hn : bs.length = n := by simp) (hle : n ≤ 37 := by decide) : Statement i := fun r' args e => by
  rw [h] at e
  cases e
  omega

theorem powerOnReset : Statement .powerOnReset := of_none rfl
theorem hostFrameRefused (why : FrameFault) : Statement (.hostFrameRefused why) := of_none rfl
theorem nop : Statement .nop := of_some rfl 0
theorem readPage (page : Nat) : Statement (.readPage page) := of_some rfl 1
theorem ident : Statement .ident := of_some rfl 0
theorem readEvents : Statement .readEvents := of_some rfl 0
theorem clearEvents (set : BitVec 16) : Statement (.clearEvents set) := of_some rfl 2
theorem setEventMask (set : BitVec 16) : Statement (.setEventMask set) := of_some rfl 2
theorem readParameter (number : Nat) : Statement (.readParameter number) := of_some rfl 1
theorem setParameter (number value : Nat) : Statement (.setParameter number value) := of_some rfl 5
theorem reset : Statement .reset := of_some rfl 0
theorem lineLoadBegin : Statement .lineLoadBegin := of_some rfl 0
theorem appendSection (r : SectionWire) : Statement (.appendSection r) := of_some rfl 31 (sectionWireBytes_length r)
theorem lineLoadEnd : Statement .lineLoadEnd := of_some rfl 0
theorem readLine : Statement .readLine := of_some rfl 0
theorem readSection (index : Nat) : Statement (.readSection index) := of_some rfl 1
theorem readSectionNext : Statement .readSectionNext := of_some rfl 0
theorem setSectionCursor (index : Nat) : Statement (.setSectionCursor index) := of_some rfl 1
theorem readWindow (offset : Int) : Statement (.readWindow offset) := of_some rfl 1
theorem stageSection (b : BlockWire) : Statement (.stageSection b) := of_some rfl 37 (blockWireBytes_length b)
theorem commitStage (id crc : Nat) : Statement (.commitStage id crc) := of_some rfl 4
theorem abortStage (id : Nat) : Statement (.abortStage id) := of_some rfl 2
theorem readStage : Statement .readStage := of_some rfl 0
theorem setPosition (p u : Nat) : Statement (.setPosition p u) := of_some rfl 8
theorem readOdometry : Statement .readOdometry := of_some rfl 0
theorem readMarkReport : Statement .readMarkReport := of_some rfl 0
theorem putRestriction (w : PutWire) : Statement (.putRestriction w) := of_some rfl 23 (putWireBytes_length w)
theorem retireRestriction (id : Nat) : Statement (.retireRestriction id) := of_some rfl 2
theorem setTime (value : Nat) : Statement (.setTime value) := of_some rfl 4
theorem lookupRestriction (issuer id : Nat) : Statement (.lookupRestriction issuer id) := of_some rfl 3
theorem readRestriction (index : Nat) : Statement (.readRestriction index) := of_some rfl 1
theorem nextRestriction : Statement .nextRestriction := of_some rfl 0
theorem setRestrictionCursor (index : Nat) : Statement (.setRestrictionCursor index) := of_some rfl 1
theorem readRestrictionStatus : Statement .readRestrictionStatus := of_some rfl 0
theorem readRestrictionLog : Statement .readRestrictionLog := of_some rfl 0
theorem setMode (code : Nat) : Statement (.setMode code) := of_some rfl 1
theorem setDirection (code : Nat) : Statement (.setDirection code) := of_some rfl 1
theorem readSupervision : Statement .readSupervision := of_some rfl 0
theorem brakeDemand (level : Nat) (emergency : Bool) : Statement (.brakeDemand level emergency) := of_some rfl 2
theorem releaseTrip : Statement .releaseTrip := of_some rfl 0
theorem readBrakes : Statement .readBrakes := of_some rfl 0
theorem releaseSide (side : Nat) (autoOpen : Bool) : Statement (.releaseSide side autoOpen) := of_some rfl 2
theorem closeSide (side : Nat) : Statement (.closeSide side) := of_some rfl 1
theorem closeAll : Statement .closeAll := of_some rfl 0
theorem isolateLeaf (leaf : Nat) : Statement (.isolateLeaf leaf) := of_some rfl 1
theorem restoreLeaf (leaf : Nat) : Statement (.restoreLeaf leaf) := of_some rfl 1
theorem readDoors : Statement .readDoors := of_some rfl 0
theorem readDoorFault (leaf : Nat) : Statement (.readDoorFault leaf) := of_some rfl 1
theorem setSlot (slot route : Nat) : Statement (.setSlot slot route) := of_some rfl 2
theorem radioReset : Statement .radioReset := of_some rfl 0
theorem setChannel (cell channel : Nat) : Statement (.setChannel cell channel) := of_some rfl 2
theorem readRadio : Statement .readRadio := of_some rfl 0
theorem readChannel (cell : Nat) : Statement (.readChannel cell) := of_some rfl 1
theorem setFilter (index : Nat) (enable : Bool) (kind value mask : Nat) : Statement (.setFilter index enable kind value mask) := of_some rfl 11
theorem readFilter (index : Nat) : Statement (.readFilter index) := of_some rfl 1
theorem readTelegrams : Statement .readTelegrams := of_some rfl 0
theorem readUplink (position : Nat) : Statement (.readUplink position) := of_some rfl 1
theorem setSweep (mode emphasis : Nat) : Statement (.setSweep mode emphasis) := of_some rfl 2
theorem setCalibration (c : CalWire) : Statement (.setCalibration c) := of_some rfl 10
theorem setWindow (channel low high : Nat) : Statement (.setWindow channel low high) := of_some rfl 5
theorem readAnalog (channel : Nat) : Statement (.readAnalog channel) := of_some rfl 1
theorem quadratureCount (sensor : Sensor) (sense : Sense) : Statement (.quadratureCount sensor sense) := of_none rfl
theorem phaseError (sensor : Sensor) : Statement (.phaseError sensor) := of_none rfl
theorem markDetection : Statement .markDetection := of_none rfl
theorem clsChange (leaf : LeafId) (on : Bool) : Statement (.clsChange leaf on) := of_none rfl
theorem lksChange (leaf : LeafId) (on : Bool) : Statement (.lksChange leaf on) := of_none rfl
theorem opsChange (leaf : LeafId) (on : Bool) : Statement (.opsChange leaf on) := of_none rfl
theorem pbPressed (leaf : LeafId) (on : Bool) : Statement (.pbPressed leaf on) := of_none rfl
theorem conversionComplete (raw : Nat) : Statement (.conversionComplete raw) := of_none rfl
theorem positionSample : Statement .positionSample := of_none rfl
theorem lineClockAdvance : Statement .lineClockAdvance := of_none rfl
theorem holdTimerExpiry : Statement .holdTimerExpiry := of_none rfl
theorem tRelExpiry : Statement .tRelExpiry := of_none rfl
theorem tAppExpiry : Statement .tAppExpiry := of_none rfl
theorem deficitTimerExpiry : Statement .deficitTimerExpiry := of_none rfl
theorem tLockExpiry (leaf : LeafId) : Statement (.tLockExpiry leaf) := of_none rfl
theorem tOpenExpiry (leaf : LeafId) : Statement (.tOpenExpiry leaf) := of_none rfl
theorem tCloseExpiry (leaf : LeafId) : Statement (.tCloseExpiry leaf) := of_none rfl
theorem tReopenExpiry (leaf : LeafId) : Statement (.tReopenExpiry leaf) := of_none rfl
theorem tPauseExpiry (leaf : LeafId) : Statement (.tPauseExpiry leaf) := of_none rfl
theorem slotStart : Statement .slotStart := of_none rfl
theorem initSequenceEnd : Statement .initSequenceEnd := of_none rfl
theorem holdoverTimerExpiry : Statement .holdoverTimerExpiry := of_none rfl
theorem radioLossTimerExpiry : Statement .radioLossTimerExpiry := of_none rfl
theorem telegramDiscarded (step : Discard) : Statement (.telegramDiscarded step) := of_none rfl
theorem beacon (frame cell : Nat) (source : BeaconOrigin) : Statement (.beacon frame cell source) := of_none rfl
theorem time (h : TgHeader) (value : Nat) : Statement (.time h value) := of_none rfl
theorem restrict (h : TgHeader) (w : PutWire) : Statement (.restrict h w) := of_none rfl
theorem revoke (h : TgHeader) (id : Nat) : Statement (.revoke h id) := of_none rfl
theorem sectionBlock (h : TgHeader) (b : BlockWire) : Statement (.sectionBlock h b) := of_none rfl
theorem sectionCommit (h : TgHeader) (id crc : Nat) : Statement (.sectionCommit h id crc) := of_none rfl
theorem sectionAbort (h : TgHeader) (id : Nat) : Statement (.sectionAbort h id) := of_none rfl
theorem slotGrant (h : TgHeader) (slot period phase : Nat) : Statement (.slotGrant h slot period phase) := of_none rfl
theorem poll (h : TgHeader) : Statement (.poll h) := of_none rfl
theorem emergencyStop (h : TgHeader) : Statement (.emergencyStop h) := of_none rfl
theorem stopRelease (h : TgHeader) : Statement (.stopRelease h) := of_none rfl

end Laws.Operands

end Sys2Proof
end

