-- ==== Sys2Proof/Tests/Slice0.lean ====
section
/-! SUPPORT. The model's own tests: ill-formed commands refused, frames and telegrams written out from the spec's layouts,
values of the spec's worked examples, and for every statement with hypotheses a concrete state that meets them. -/

namespace Sys2Proof.Tests

set_option Elab.async false

open Machine

/-! ### Small states -/

/-- The five-section line of 01_the_line_description.md, "Worked example: loading a five-section line". -/
def sec10 : SectionRec :=
  { number := 10, start := 500000, length := 120000, gradient := 40, kind := .adhesion, limitUp := 300, limitDown := 300,
    cell := 2, tunnel := false, platform := none, mark := none }
def sec11 : SectionRec :=
  { sec10 with number := 11, start := 620000, length := 40000, gradient := 90, kind := .rackEntry, limitUp := 200,
               limitDown := 180 }
def sec12 : SectionRec :=
  { sec10 with number := 12, start := 660000, length := 300000, gradient := 220, kind := .rack, limitUp := 180,
               limitDown := 160, cell := 3 }
def sec13 : SectionRec :=
  { sec12 with number := 13, start := 960000, length := 250000, gradient := 310, limitUp := 160, limitDown := 120,
               tunnel := true }
def sec14 : SectionRec :=
  { sec12 with number := 14, start := 1210000, length := 90000, gradient := 150, cell := 4,
               platform := some ⟨7, .left, 1250000, 1290000⟩, mark := some 1260000 }

/-- Standing still in STANDBY after power-on. -/
def stands (s : State) : State := { s with odo := { s.odo with standstill := true, quiet := 5 } }
def still : State := stands State.reset

/-- The supervisor in a mode with a direction selected. -/
def inMode (m : Mode) (d : Dir) (s : State) : State := { s with sup := { s.sup with mode := m, dir := d } }

/-- The example line sealed, the radio lost and in SEARCH. -/
def laid : State :=
  let s : State := { still with
    line := { still.line with state := .sealed, records := [sec10, sec11, sec12, sec13, sec14] },
    radio := { still.radio with sync := .search, initTimer := none, tuned := some 0, slotTimer := some 3 } }
  s.setRestr { s.restr with table := resetTable s }

/-- A position set on the example line. -/
def placed (p u : Nat) : State := (setPosition p u laid).2

/-- A leaf closed and locked. -/
def shut : Leaf := { Leaf.reset with state := .locked, cls := true, lks := true }

/-- Running in LINE UP at 700,000 mm in section 12, every demand withdrawn, the doors locked, LOCKED to the valley. -/
def running : State :=
  let s := inMode .line .up (placed 700000 500)
  let t : State := { s with
    brakes := { s.brakes with supervisor := ⟨0, .none⟩, rack := .released, rackTimer := none },
    doors := { s.doors with leaves := mapLeaves (fun _ => shut) s.doors.leaves, closed := true },
    radio := { s.radio with sync := .locked, link := .ok, loss := some 9000, causes := 0#16 },
    restr := Restrictions.reset }
  combine t

/-- `s` with one restriction stored at an index. -/
def withEntry (i : Nat) (e : Restriction) (s : State) : State :=
  { s with restr := { s.restr with table := s.restr.table.set i (some e) } }

/-- A VALLEY restriction. -/
def speed512 : Restriction :=
  { issuer := .valley, id := 512, kind := .speed, dir := .both, lo := 600000, hi := 800000, limit := 100,
    activation := none, expiry := none, active := true }
def stopUp : Restriction := { speed512 with id := 7, kind := .stop, dir := .up, lo := 900000, hi := 900000, limit := 0 }

/-- The next state of a command, the state itself where there is none. -/
def after (c : Instr) (s : State) : State := match exec c s with | .next t => t | .fault _ => s | .refused _ => s

/-- The result code and echoed request of the response that is pending. -/
def answered (s : State) : List Nat := [byteAt s.link.response 2, byteAt s.link.response 3]

/-! ### Ill-formed commands -/

def wireOf (r : SectionRec) : SectionWire :=
  { number := r.number, start := r.start, length := r.length, gradient := r.gradient, kind := kindCode r.kind,
    side := r.platform.elim 0 (fun p => sideCode p.side), cell := r.cell, tunnel := r.tunnel,
    platformPresent := r.platform.isSome, markPresent := r.mark.isSome, limitUp := r.limitUp,
    limitDown := r.limitDown, platformId := r.platform.elim 0 (·.id), platformBegin := r.platform.elim 0 (·.lo),
    platformEnd := r.platform.elim 0 (·.hi), mark := r.mark.getD 0 }

def block14 : BlockWire := ⟨41, 13, 2, 1, wireOf sec14⟩
def put7 : PutWire := ⟨7, 1, 3, 600000, 700000, 150, none, some 36120⟩
/-- Slot 0, and slot 3 routed OFF or TRANSMIT. -/
def inSlot0 : Came := ⟨0, true⟩
def inOff : Came := ⟨3, false⟩
def toCar : TgHeader := ⟨.all, 0xFFFFF, 9, inSlot0⟩

/-- One ill-formed command for each width: a byte, two bytes, four bytes, 20 bits, and the signed fields. -/
theorem test_wf_refuses_widths :
    [Instr.readPage 256, .retireRestriction 65536, .setTime 4294967296, .poll { toCar with address := 1048576 },
     .readWindow 128, .readWindow (-129), .conversionComplete 1024, .hostFrameRefused (.unknown 0x01),
     .telegramDiscarded ⟨.address .car 1048576, inSlot0⟩, .poll { toCar with came := ⟨8, true⟩ },
     .telegramDiscarded ⟨.check, ⟨0, false⟩⟩, .setParameter 1 4294967296, .setFilter 0 true 1 4294967296 0,
     .beacon 256 0 ⟨1, inSlot0⟩, .slotGrant toCar 1 256 0, .sectionCommit toCar 65536 0, .readSection 256].all
      (fun i => !i.wf) = true := by decide

/-- One ill-formed command for each checked field of a section record and of a block. -/
theorem test_wf_refuses_records :
    [{ wireOf sec14 with number := 65536 }, { wireOf sec14 with start := 4294967296 },
     { wireOf sec14 with length := 4294967296 }, { wireOf sec14 with gradient := 32768 },
     { wireOf sec14 with gradient := -32769 }, { wireOf sec14 with kind := 4 }, { wireOf sec14 with side := 4 },
     { wireOf sec14 with cell := 16 }, { wireOf sec14 with limitUp := 65536 }, { wireOf sec14 with limitDown := 65536 },
     { wireOf sec14 with platformId := 256 }, { wireOf sec14 with platformBegin := 4294967296 },
     { wireOf sec14 with platformEnd := 4294967296 }, { wireOf sec14 with mark := 4294967296 }].all
      (fun r => !(Instr.appendSection r).wf) = true
    ∧ [{ block14 with id := 65536 }, { block14 with first := 65536 }, { block14 with count := 256 },
       { block14 with index := 256 }].all (fun b => !(Instr.stageSection b).wf) = true := by decide

/-- One ill-formed command for each checked field of a put, a calibration and a header. -/
theorem test_wf_refuses_fields :
    [{ put7 with id := 65536 }, { put7 with kind := 256 }, { put7 with direction := 256 },
     { put7 with lo := 4294967296 }, { put7 with hi := 4294967296 }, { put7 with limit := 65536 },
     { put7 with activation := some 4294967296 }, { put7 with expiry := some 4294967296 }].all
      (fun w => !(Instr.putRestriction w).wf) = true
    ∧ [(⟨256, 0, 0, 1, 1, false⟩ : CalWire), ⟨0, 65536, 0, 1, 1, false⟩, ⟨0, 0, 65536, 1, 1, false⟩,
       ⟨0, 0, 0, 65536, 1, false⟩, ⟨0, 0, 0, 1, 65536, false⟩].all (fun c => !(Instr.setCalibration c).wf) = true
    ∧ (Instr.stopRelease { toCar with station := 256 }).wf = false
    ∧ (Instr.appendSection (wireOf sec14)).wf = true ∧ (Instr.putRestriction put7).wf = true := by decide

/-! ### Frames and telegrams written out from the layouts (sections 11.2, 11.3 and 11.5, R202) -/

/-- The check value of the CRC of R3 over the characters 1 to 9, known for this polynomial and initial value. -/
theorem test_crc_check :
    crc16 [0x31#8, 0x32#8, 0x33#8, 0x34#8, 0x35#8, 0x36#8, 0x37#8, 0x38#8, 0x39#8] = 0x29B1#16 := by decide +kernel

/-- Bytes given as numbers. -/
def bytes (ns : List Nat) : List Byte := ns.map (BitVec.ofNat 8)

/-- A request frame: its bytes, padded to 38, with the CRC. -/
def frame (ns : List Nat) : List Byte := withCrc (padTo 38 (bytes ns))
/-- A telegram: header, payload padded to 40, with the CRC. -/
def telegram (header payload : List Nat) : List Byte := withCrc (bytes header ++ padTo 40 (bytes payload))

/-- BRAKE_DEMAND 50 with the emergency flag, every byte written out, its CRC 0xD1D3 computed apart from the model. -/
theorem test_frame_whole :
    hostFrameCommand (bytes ([0x40, 50, 1] ++ List.replicate 35 0 ++ [0xD1, 0xD3])) false = .brakeDemand 50 true
    ∧ hostFrameCommand (bytes ([0x40, 50, 1] ++ List.replicate 35 0 ++ [0xD1, 0xD2])) false
      = .hostFrameRefused .check := by decide +kernel

/-- EMERGENCY_STOP to the car at 0x002A from station 7, every byte written out, its CRC 0x9EF9 computed apart from the
model. -/
theorem test_telegram_whole :
    telegramCommand inSlot0 (bytes ([0x40, 0x00, 0x2A, 0x0A, 7, 0] ++ List.replicate 40 0 ++ [0x9E, 0xF9]))
      = .emergencyStop ⟨.car, 42, 7, inSlot0⟩ := by decide +kernel

theorem test_frames_link :
    hostFrameCommand (frame [0x01]) false = .nop
    ∧ hostFrameCommand (frame [0x05, 0x02, 0x01]) false = .clearEvents 0x0201#16
    ∧ hostFrameCommand (frame [0x08, 27, 0x00, 0x00, 0x03, 0xE8]) false = .setParameter 27 1000 := by decide +kernel

/-- The record of section 14 in the example line: byte 12 carries RACK, LEFT, cell 4, byte 13 platform and mark. -/
theorem test_frames_line :
    hostFrameCommand (frame ([0x11, 0x00, 14, 0x00, 0x12, 0x76, 0x90, 0x00, 0x01, 0x5F, 0x90, 0x00, 0x96, 0x94, 0x06,
      0x00, 0xB4, 0x00, 0xA0, 7, 0x00, 0x13, 0x12, 0xD0, 0x00, 0x13, 0xAF, 0x10, 0x00, 0x13, 0x39, 0xE0])) false
      = .appendSection (wireOf sec14)
    ∧ hostFrameCommand (frame [0x17, 0xF8]) false = .readWindow (-8)
    ∧ hostFrameCommand (frame [0x16, 5, 0x00]) false = .setSectionCursor 5 := by decide +kernel

theorem test_frames_odometry :
    hostFrameCommand (frame [0x20, 0x00, 0x0E, 0xC5, 0x40, 0x00, 0x00, 0x01, 0xF4]) false = .setPosition 968000 500
    ∧ hostFrameCommand (frame [0x22]) false = .readMarkReport := by decide +kernel

/-- Restriction 512, SPEED, DOWN, 1,020,000 to 1,060,000 at 100, active from 36,000 to 39,600. -/
theorem test_frames_restrictions :
    hostFrameCommand (frame [0x28, 0x02, 0x00, 1, 2, 0x00, 0x0F, 0x90, 0x60, 0x00, 0x10, 0x2C, 0xA0, 0x00, 100, 3,
      0x00, 0x00, 0x8C, 0xA0, 0x00, 0x00, 0x9A, 0xB0]) false
      = .putRestriction ⟨512, 1, 2, 1020000, 1060000, 100, some 36000, some 39600⟩
    ∧ hostFrameCommand (frame [0x2B, 1, 0x02, 0x00]) false = .lookupRestriction 1 512 := by decide +kernel

theorem test_frames_car :
    hostFrameCommand (frame [0x39, 2]) false = .setDirection 2
    ∧ hostFrameCommand (frame [0x48, 1, 0xFF]) false = .releaseSide 1 true
    ∧ hostFrameCommand (frame [0x4E, 5]) false = .readDoorFault 5
    ∧ hostFrameCommand (frame [0x41]) false = .releaseTrip := by decide +kernel

theorem test_frames_radio_and_sweep :
    hostFrameCommand (frame [0x52, 3, 41]) false = .setChannel 3 41
    ∧ hostFrameCommand (frame [0x58, 2, 1, 1, 0x00, 0x0A, 0xBC, 0xDE, 0x00, 0x0F, 0xFF, 0xFF]) false
      = .setFilter 2 true 1 0xABCDE 0xFFFFF
    ∧ hostFrameCommand (frame [0x61, 0, 0x00, 0x66, 0x00, 0x00, 0x03, 0x99, 0x03, 0xE8, 1]) false
      = .setCalibration ⟨0, 102, 0, 921, 1000, true⟩ := by decide +kernel

theorem test_telegrams :
    telegramCommand inSlot0 (telegram [0xC0, 0, 0, 0x01, 9, 3] [17, 3, 1]) = .beacon 17 3 ⟨1, inSlot0⟩
    ∧ telegramCommand inSlot0 (telegram [0xCF, 0xFF, 0xFF, 0x02, 9, 4] [0x00, 0x00, 0x8C, 0x96]) = .time toCar 35990
    ∧ telegramCommand inSlot0 (telegram [0xCF, 0xFF, 0xFF, 0x08, 9, 3] [3, 25, 2]) = .slotGrant toCar 3 25 2
    ∧ telegramCommand inSlot0 (telegram [0xCF, 0xFF, 0xFF, 0x06, 9, 4] [0, 41, 0x12, 0x34])
      = .sectionCommit toCar 41 0x1234 := by decide +kernel

/-- The tests of R190 and R164 at their boundaries: 39 and 41 bytes, a partial byte, code 0, a code after the last of a
chapter; a bad check, destination kind 0, a wrong length, and an uplink kind. -/
theorem test_refused_frames_and_telegrams :
    hostFrameCommand ((frame [0x01]).take 39) false = .hostFrameRefused .length
    ∧ hostFrameCommand (frame [0x01] ++ [0#8]) false = .hostFrameRefused .length
    ∧ hostFrameCommand (frame [0x01]) true = .hostFrameRefused .length
    ∧ hostFrameCommand (frame [0x00]) false = .hostFrameRefused (.unknown 0)
    ∧ hostFrameCommand (frame [0x0A]) false = .hostFrameRefused (.unknown 10)
    ∧ telegramCommand inSlot0 (bytes (List.replicate 48 0)) = .telegramDiscarded ⟨.check, inSlot0⟩
    ∧ telegramCommand inSlot0 (telegram [0x0F, 0xFF, 0xFF, 0x09, 9, 0] []) = .telegramDiscarded ⟨.header, inSlot0⟩
    ∧ telegramCommand inSlot0 (telegram [0xCF, 0xFF, 0xFF, 0x09, 9, 1] []) = .telegramDiscarded ⟨.header, inSlot0⟩
    ∧ telegramCommand inSlot0 (telegram [0xCF, 0xFF, 0xFF, 0x20, 9, 4] []) = .telegramDiscarded ⟨.direction, inSlot0⟩ := by decide +kernel

/-! ### The spec's worked examples -/

/-- The examples of R2, and the root checks of the first sample in 04_speed_supervision.md. -/
theorem test_conv_and_roots :
    conv 120 = 3333 ∧ conv 160 = 4444 ∧ conv 180 = 5000 ∧ floorSqrt 38267289 = 6186 ∧ floorSqrt 75598400 = 8694
    ∧ floorSqrt 41658400 = 6454 := by decide +kernel

/-- 01: the mistyped record is refused, the corrected one taken, and sealing puts RADIO_LOSS at index 30. -/
theorem test_example_line_load :
    let s := (beginLineLoad still).setLine { (beginLineLoad still).line with records := [sec10, sec11] }
    (appendSection { wireOf sec12 with start := 661000 } s).1 = .notContiguous
    ∧ (appendSection (wireOf sec12) s).1 = .accepted
    ∧ (appendSection (wireOf sec12) s).2.line.records = [sec10, sec11, sec12]
    ∧ ((sealLine s).2.restr.table.getD 30 none).any (fun e => e.limit == 150 && e.hi == 659999) = true
    ∧ (sealLine s).2.restr.table.getD 31 none = none := by decide +kernel

/-- 01: the window of the held update, DOWN from index 3 with `A_rack` 3,500. -/
theorem test_example_window :
    let s := inMode .line .down (placed 968000 500)
    ((derivedWindow { s with params := { s.params with aRack := 3500 } }).drop 7).take 5
      = [some ⟨4, 4444, 2028, false⟩, some ⟨3, 3333, 459, false⟩, some ⟨2, 4444, 1342, false⟩,
         some ⟨1, 5000, 117, false⟩, some ⟨0, 8333, 607, false⟩] := by decide +kernel

/-- 01: the update of the limits of 13 and 14. -/
def update41 : StagedUpdate :=
  { id := 41, first := 13, count := 2, owner := .valley,
    records := [some { sec13 with limitUp := 140, limitDown := 100 }, some { sec14 with limitUp := 150 }] }

/-- 01: held while section 13 lies in the locked span, and still at the first crossing; clear at the second. -/
theorem test_example_locked_span :
    spanBlocks update41 (inMode .line .down (placed 968000 500)) = true
    ∧ spanBlocks update41 (inMode .line .down (placed 959997 501)) = true
    ∧ spanBlocks update41 (inMode .line .down (placed 659997 531)) = false := by decide +kernel

/-- 01: the application changes the limits and nothing else. -/
theorem test_example_applied :
    appliedRecords update41 laid.line.records
      = [sec10, sec11, sec12, { sec13 with limitUp := 140, limitDown := 100 }, { sec14 with limitUp := 150 }] := by
  decide +kernel

/-- 02: sample speed, carry growth and cross-check tolerance as the chapter's examples state them. -/
theorem test_example_odometry :
    sampleSpeed { Odometry.reset with travel := -40000, period := 20 } = -2000
    ∧ growUncertainty 3000000 (2500 * 100) 500000 750000 = (500001, 0)
    ∧ growUncertainty 3000000 (2500 * 100) 500000 0 = (500000, 250000)
    ∧ checkFails 50000 5000000 5470000 = true ∧ checkFails 50000 5000000 5300000 = false
    ∧ calibratedWeight 1200 150000000 124000 = some 1203 := by decide +kernel

/-- 02, "a mark correction across a boundary": sections 29 to 32. -/
def rack31 : State :=
  let r (n lo hi : Nat) (k : Kind) (m : Option Nat) : SectionRec :=
    { sec10 with number := n, start := lo, length := hi - lo, kind := k, mark := m }
  let s : State := { still with
    line := { still.line with state := .sealed, records := [r 29 2380000 2400000 .adhesion none,
      r 30 2400000 2460000 .rackEntry none, r 31 2460000 2500000 .rack (some 2462000),
      r 32 2500000 2580000 .rack none] } }
  { s with params := { s.params with uMax := 5000 }, restr := { s.restr with table := resetTable s } }

/-- 02: the 401st count DOWN crosses into section 30, which the wheel measures. -/
theorem test_example_crossing :
    let s := inMode .line .down (setPosition 2460000 5000 rack31).2
    let t := after (.quadratureCount .pinion .down) s
    (t.odo.pUm = 2459997500 ∧ t.odo.cur = some 1 ∧ t.odo.source = .wheel)
    ∧ [t.odo.lower, t.odo.upper, t.odo.nextLower, t.odo.nextUpper]
      = [some 2400000, some 2460000, some 2380000, some 2500000] := by decide +kernel

/-- 02: the mark of section 31 matches at 4,402,500 µm and takes the car back over the boundary, VALID. -/
theorem test_example_mark :
    let s := inMode .line .down (setPosition 2457597 5000 rack31).2
    let t := after .markDetection { s with odo := { s.odo with pUm := 2457597500, state := .degraded } }
    (t.odo.pUm = 2462000000 ∧ t.odo.uUm = 200000 ∧ t.odo.state = .valid ∧ t.odo.cur = some 2 ∧ t.odo.source = .pinion)
    ∧ [t.odo.lower, t.odo.upper, t.odo.nextLower, t.odo.nextUpper]
      = [some 2460000, some 2500000, some 2400000, some 2580000]
    ∧ t.odo.report = some ⟨some 31, 2457597, 4402500, true, none⟩ ∧ t.odo.cal = some ⟨2462000, 0, false⟩ := by
  decide +kernel

/-- 03: the restrictions A and B of the chapter's example. -/
def valley512 : PutWire := ⟨512, 1, 2, 1020000, 1060000, 100, some 36000, some 39600⟩
def door512 : PutWire := ⟨512, 3, 3, 1250000, 1290000, 1, none, none⟩

/-- 03: A is PENDING at index 0 with the clock UNSET, B takes index 1 under the same id, and the left release is then
refused. -/
theorem test_example_restrictions :
    let s := inMode .line .down { placed 1280000 300 with restr := Restrictions.reset }
    let t := (putRestriction .car door512 (putRestriction .valley valley512 s).2).2
    (t.restr.table.getD 0 none).any (fun e => !e.active) = true
    ∧ (t.restr.table.getD 1 none).any (fun e => e.active && e.issuer == .car) = true
    ∧ t.restr.log = [⟨.inserted, none, some (.valley, 512, .speed, 0), none⟩,
        ⟨.inserted, none, some (.car, 512, .door, 1), none⟩]
    ∧ doorForbids 1 .left = true ∧ doorForbids 1 .right = false
    ∧ (setClock 35990 t).restr.log = t.restr.log ∧ clockChange 36000 { speed512 with active := false, activation := some 36000 }
      = some .activate := by decide +kernel

/-- 04: the three sections of "two samples on a steep rack descent", with more line below them. -/
def descentLine : State :=
  let r (n lo hi : Nat) (g : Int) (down : Nat) : SectionRec :=
    { sec12 with number := n, start := lo, length := hi - lo, gradient := g, limitUp := 180, limitDown := down }
  let s : State := { laid with line := { laid.line with records :=
    [r 17 900000 1120000 0 120, r 18 1120000 1150000 60 120, r 19 1150000 1200000 150 160, r 20 1200000 1260000 85 180] } }
  inMode .line .down s

/-- 04: a sample at `p` and `v` on that line, the VALLEY STOP at 1,130,000 in force. -/
def descent (p : Nat) (v : Int) : State :=
  let s := (setPosition p 300 { descentLine with sup := Supervisor.reset }).2
  let t := withEntry 0 { stopUp with dir := .down, lo := 1130000, hi := 1130000 }
    { inMode .line .down s with restr := Restrictions.reset }
  deriveWindow { t with odo := { t.odo with standstill := false, sample := { t.odo.sample with
    p := p, u := 300, v := v, state := .valid, standstill := false } } }

/-- 04: the first sample's permitted speed, limiting element, binding target and level. -/
theorem test_example_first_sample :
    let t := stageLevel (evaluate (descent 1214000 (-4200)))
    t.sup.vPerm = 4444 ∧ t.sup.limiting = .static 19 ∧ t.sup.retained = some 1130000 ∧ t.sup.level = .indication
    ∧ t.sup.curve = some (1191400, 6300)
    ∧ t.sup.binding = some ⟨.sectionEntry, 1150000, 3333, 6186, 41400, .section_ 18⟩ := by decide +kernel

/-- 04: the second sample, and the same with 3,700 mm/s. -/
theorem test_example_second_sample :
    let t := stageLevel (evaluate (descent 1168000 (-3000)))
    t.sup.vPerm = 3333 ∧ t.sup.limiting = .target ∧ t.sup.level = .indication
    ∧ t.sup.binding = some ⟨.sectionEntry, 1150000, 3333, 3333, 0, .section_ 18⟩
    ∧ (stageLevel (evaluate (descent 1168000 (-3700)))).sup.level = .service := by decide +kernel

/-- 04: authority revoked with the end retained, and the levels of the surge; the rollback accumulator of R84. -/
theorem test_example_revoked_and_surge :
    let s := descent 1167940 (-3000)
    let t := evaluate { s with restr := Restrictions.reset, sup := { s.sup with retained := some 1130000 } }
    (t.sup.vPerm = 3333 ∧ ((authority (evalOf t) t.sup.retained).1.map (fun x => (x.kind, curveSpeed (evalOf t) x)))
      = [(.authorityRetained, 6443)])
    ∧ (levelFor {} .indication 3500 3333 = .warning ∧ levelFor {} .warning 3700 3333 = .service
      ∧ levelFor {} .service 3500 3333 = .service ∧ levelFor {} .service 3300 3333 = .indication)
    ∧ (rollbackAfter .down 0 120000 = 120000 ∧ rollbackAfter .down 120000 (-50000) = 70000
      ∧ rollbackAfter .down 70000 240000 = 310000) := by decide +kernel

/-- 05: departure in DEPOT, UP selected, the rack brake RELEASING. -/
def departing : State :=
  let s := inMode .depot .up { running with sup := Supervisor.reset }
  { s with brakes := { s.brakes with rack := .releasing, rackTimer := some 0, tperm := false } }

/-- 05: `t_rel` expires, the brake recovers, and RELEASE_TRIP starts the release anew. -/
theorem test_example_sticking_valve :
    let t := relExpired departing
    let r := takeAin0 .below t
    (t.brakes.rack = .faultNotReleased ∧ t.brakes.rackTimer = some 800 ∧ t.brakes.brake = ⟨0, .latched⟩
      ∧ t.brakes.effort = 100 ∧ t.brakes.causes = 1#16)
    ∧ (r.brakes.rack = .applied ∧ r.brakes.rackTimer = none ∧ r.brakes.causes = 9#16 ∧ r.brakes.emergency = true)
    ∧ ((releaseTrip r).brakes.rack = .releasing ∧ (releaseTrip r).brakes.rackTimer = some 1500)
    ∧ (takeAin0 .above (releaseTrip r)).brakes.tperm = true := by decide +kernel

/-- 06: L2 closing with the left release withdrawn: two ABOVE conversions reopen it, close pending set; OPS brings the
pause, its expiry the closing, CLS the locking, LKS the lock. -/
theorem test_example_two_obstructions :
    let e : LeafEnv := ⟨false, true, 5000, 6000, 3, none⟩
    let l : Leaf := { Leaf.reset with state := .closing, timer := some (.tClose, 3900), lks := false }
    let one := (leafConversion e .above l).1
    let two := (leafConversion e .above one).1
    let open_ := leafOps { two with ops := true }
    (one.overCurrent = 1 ∧ two.state = .reopening ∧ two.timer = some (.tReopen, 1500) ∧ two.obstructions = 1
      ∧ two.closePending = true ∧ two.overCurrent = 0)
    ∧ (open_.state = .opened ∧ open_.timer = some (.tPause, 2000))
    ∧ (leafExpiry e .tPause open_).1.state = .closing
    ∧ (leafConversion e .inside one).1.overCurrent = 0
    ∧ (leafCls e { l with cls := true }).1.state = .locking
    ∧ (leafLks e { l with state := .locking, lks := true, obstructions := 2 }).1.obstructions = 0 := by decide +kernel

/-- 07: the example's controller: SEARCH on cell 3 after RADIO_RESET, in section 12. -/
def searching : State :=
  let s := inMode .depot .neutral (placed 700000 500)
  { s with radio := { s.radio with tuned := some 3, slotIndex := 6, frame := 9, guardCount := 5, causes := 0#16 } }

/-- 07: a REPEATER beacon outside a tunnel is not valid; the VALLEY beacon of frame 17 is an acquisition. -/
theorem test_example_acquisition :
    beaconValid 12 3 ⟨2, inOff⟩ searching = false ∧ beaconValid 17 3 ⟨1, inOff⟩ searching = true
    ∧ (let r := (takeBeacon 17 3 ⟨1, inOff⟩ searching).radio
      r.frame = 17 ∧ r.slotIndex = 0 ∧ r.slotTimer = some 6 ∧ r.source = .valley ∧ r.guardCount = 0 ∧ r.miss = 0
        ∧ r.loss = some 10000 ∧ r.link = .lost ∧ r.sync = .locked ∧ r.causes = 1#16) := by decide +kernel

/-- 07: the guard window opens at the 24th frame start; the third miss is HOLDOVER; the grant's opportunities. -/
theorem test_example_guard_misses_grant :
    let r : Radio := { running.radio with guardOpen := false, guardCount := 23, grant := some ⟨3, 5, 2⟩, slotIndex := 3 }
    ((guardFrame {} r).guardOpen = true ∧ (guardFrame {} { r with guardCount := 22 }).guardOpen = false)
    ∧ (endOfSlot0 { running with radio := { running.radio with miss := 1 } }).radio.miss = 2
    ∧ (let t := endOfSlot0 { running with radio := { running.radio with miss := 2 } }
      t.radio.sync = .holdover ∧ t.radio.miss = 0 ∧ t.radio.holdover = some 5000)
    ∧ (let t := endOfSlot0 { running with
        radio := { running.radio with miss := 2 }, params := { running.params with tHold := 0 } }
      t.radio.sync = .search ∧ t.radio.holdover = none ∧ t.radio.causes &&& 12#16 = 12#16)
    ∧ [22, 2, 7, 12].all (fun f => transmitOpportunity { r with frame := f }) = true
    ∧ [0, 3, 6, 21].all (fun f => !transmitOpportunity { r with frame := f }) = true := by decide +kernel

/-- 08: a full queue with its REPORT at the head gives it up for an ACK, then discards a REPORT and an ACK. -/
theorem test_example_burst :
    let ack (n : Nat) : Uplink := .ack .restrict n .accepted 9
    let q : List Uplink := [601, 602, 603, 604, 605, 606, 607].map ack
    let s : State := { running with tele := { running.tele with queue := .report :: q } }
    let t := queueAck .restrict 608 .accepted 9 s
    (t.tele.queue = q ++ [ack 608] ∧ t.tele.counts.displaced = 1 ∧ t.radio.causes = 512#16)
    ∧ ((queueReport t).tele.queue = t.tele.queue ∧ (queueReport t).tele.counts.uplinkDiscards = 1)
    ∧ (takeUplink t).2.tele.queue = (q ++ [ack 608]).drop 1 ∧ (takeUplink t).2.tele.counts.acksSent = 1 := by
  decide +kernel

/-- 09: the calibration table of R183, and the AIN0 entry of raw 118 and of raw 1,023 with the rail check set. -/
theorem test_example_calibration :
    let c : Channel := { Channel.reset with
      rawLo := 102, engLo := 0, rawHi := 921, engHi := 1000, railCheck := true, low := 80, high := 420 }
    [102, 512, 921, 50, 1010].map (calibrate c) = [0, 500, 1000, 0, 1108]
    ∧ (let x := convert 118 c
      x.raw = 118 ∧ x.calibrated = 19 ∧ x.valid = true ∧ x.window = .below ∧ x.conversions = 1)
    ∧ (let y := convert 1023 (convert 118 c)
      y.calibrated = 1124 ∧ y.valid = false ∧ y.window = .above ∧ y.conversions = 2 ∧ y.invalid = 1) := by decide +kernel

/-- 09: a conversion of AIN0 below the window confirms APPLIED, and AIN1 follows in the emphasis sequence. -/
theorem test_example_ain0_confirms :
    let s : State := { still with analog := { still.analog with
      channels := still.analog.channels.set 0 { Channel.reset with low := 80, high := 420 } } }
    let t := after (.conversionComplete 19) s
    t.brakes.rack = .applied ∧ t.brakes.rackTimer = none ∧ inProgress t.analog = 1 := by decide +kernel

/-- 10: IDENT answers the start-up state; after CLEAR_EVENTS {POWER_ON} ATTN is high; `t_app` expiring drives it low. -/
theorem test_example_power_on :
    let t := after .ident State.reset
    let u := after (.clearEvents 1#16) t
    t.link.response.take 10 = bytes [0x04, 0, 0x03, 0x02, 0x01, 0x57, 0x40, 0x28, 0, 3]
    ∧ attention t.link = true ∧ attention u.link = false
    ∧ (after .tAppExpiry u).brakes.rack = .faultNotApplied ∧ attention (after .tAppExpiry u).link = true := by
  decide +kernel

/-- 10: a refused frame replaces the response and leaves the answer store for READ_PAGE. -/
theorem test_example_lost_response :
    let s := after .readBrakes State.reset
    let t := after (.hostFrameRefused .length) s
    answered t = [0, 0x30] ∧ t.link.store = s.link.store ∧ answered (after (.readPage 0) t) = [0x42, 0x02] := by
  decide +kernel

/-! ### Witnesses: states and operands that meet the hypotheses of the statements, clause by clause -/

/-- A state that holds an answer of `n` bytes. -/
def holding (n : Nat) : State :=
  { still with link := { still.link with store := some ⟨0x63, .accepted, List.replicate n 7#8⟩ } }

theorem witness_StepRunsFrontCommand :
    (running.setPending [.nop, .ident]).pending = .nop :: [.ident] := rfl

theorem witness_EmptyQueueLetsTimePass :
    (State.reset.pending = [] ∧ dueCommands State.reset = [])
    ∧ dueCommands { still with odo := { still.odo with sampleTimer := 0 } } = [.positionSample]
    ∧ { still with staging := .held update41 5 }.staging = .held update41 5 := by decide +kernel

theorem witness_HostFrameRoundTrip :
    [Instr.setTime 4294967295, .readWindow (-128), .clearEvents 0xFFFF#16, .appendSection (wireOf sec14),
      .putRestriction put7, .nop].all (fun i => i.wf && (requestFrame i).isSome) = true := by decide +kernel

theorem witness_TelegramRoundTrip :
    [Instr.restrict toCar put7, .sectionBlock toCar block14, .poll ⟨.car, 1048575, 255, ⟨7, false⟩⟩, .beacon 255 15 ⟨2, inSlot0⟩].all
      (fun i => i.wf && (telegramFrame i).isSome) = true := by decide +kernel

theorem witness_RefusedFrames :
    ((frame [0x01]).length = 40 ∧ crc16 ((frame [0x01]).take 38) = 0xAAC4#16 ∧ wordAt (frame [0x01]) 38 = 0xAAC4)
    ∧ [0x01, 0x09, 0x10, 0x1B, 0x63].all codeKnown = true ∧ [0x00, 0x0A, 0x0F, 0x64, 0xFF].all (!codeKnown ·) = true
    ∧ wordAt (bytes (List.replicate 40 0)) 38 ≠ (crc16 ((bytes (List.replicate 40 0)).take 38)).toNat := by decide +kernel

/-- No answer held; one of 34 bytes at page 0 and page 1; one of 35 bytes at page 1 and page 2. -/
theorem witness_LinkRequests :
    State.reset.link.store = none ∧ (holding 34).link.store = some ⟨0x63, .accepted, List.replicate 34 7#8⟩
    ∧ [(holding 34, 0), (holding 34, 1), (holding 35, 1), (holding 35, 2)].map
        (fun x => answered (after (.readPage x.2) x.1)) = [[0x63, 2], [2, 0x0C], [0x63, 2], [2, 0x0C]] := by
  decide +kernel

/-- The result code of the response that a command leaves. -/
def code (c : Instr) (s : State) : Nat := byteAt (after c s).link.response 3

/-- Numbers 0 and 40 name none; each check at its boundary; a value kept and values changed, one for each owner that
acts at once. -/
theorem witness_Parameters :
    (paramRow 0 = none ∧ paramRow 40 = none ∧ paramRow 1 = some ⟨1, 5000, 40000, 16000⟩)
    ∧ [(9, 499), (9, 5001), (11, 1001), (24, 700), (25, 300)].map (fun x => code (.setParameter x.1 x.2) still)
      = [0x0C, 0x0C, 0x0C, 0x0C, 0x0C]
    ∧ code (.setParameter 40 1) running = 0x20 ∧ code (.setParameter 1 16000) running = 0x0A
    ∧ [(9, 3000), (9, 500), (9, 5000), (11, 1000), (24, 699), (25, 301), (13, 900), (17, 0), (18, 300), (1, 40000)].map
        (fun x => code (.setParameter x.1 x.2) laid) = List.replicate 10 0x01
    ∧ laid.restr.table[30]? = some (some (partRestriction .radioLoss laid)) ∧ paramGet 9 laid.params = 3000
    ∧ (after (.setParameter 9 500) (placed 700000 501)).odo.uUm = 500000
    ∧ (after (.setParameter 3 10) (after (.setParameter 3 3) still)).odo.quiet = 3 := by decide +kernel

/-- A sealed line with the odometry DEGRADED. -/
def degraded : State := { placed 700000 500 with odo := { (placed 700000 500).odo with state := .degraded } }

theorem witness_SoftReset :
    State.reset.odo.standstill = false ∧ degraded.odo.standstill = true ∧ degraded.line.state = .sealed
    ∧ degraded.odo.state = .degraded ∧ (getLeaf running.doors.leaves .l1).cls = true := by decide +kernel

theorem witness_FlagsStaySet :
    exec (.clearEvents 1#16) State.reset = .next (after (.clearEvents 1#16) State.reset)
    ∧ State.reset.link.flags.getLsbD (flagIndex .powerOn) = true
    ∧ (after (.clearEvents 1#16) State.reset).link.flags.getLsbD (flagIndex .powerOn) = false :=
  ⟨rfl, by decide +kernel, by decide +kernel⟩

/-- The line LOADING with two records. -/
def loading : State :=
  { still with line := { still.line with state := .loading, records := [sec10, sec11] } }

theorem witness_LineLoad :
    (running.sup.mode ≠ .standby ∧ laid.sup.mode = .standby)
    ∧ some (partRestriction .radioLoss laid) ∈ laid.restr.table ∧ (∀ o ∈ still.restr.table, o = none)
    ∧ [code .lineLoadEnd still, code .lineLoadEnd (inMode .depot .neutral loading), code .lineLoadEnd loading]
      = [0x1F, 0x0A, 0x01]
    ∧ loading.restr.table = List.replicate 32 none := by decide +kernel

/-- Each check of R6 at its boundary, in its order, and the record that passes. -/
theorem witness_AppendSection :
    ([{ wireOf sec14 with length := 9999 }, { wireOf sec14 with length := 2000001 }, { wireOf sec14 with gradient := 481 },
      { wireOf sec14 with kind := 3 }, { wireOf sec14 with side := 0 }, { wireOf sec14 with platformId := 0 },
      { wireOf sec14 with platformBegin := 1290000 }, { wireOf sec14 with mark := 1300000 },
      { wireOf sec14 with limitUp := 601 }].all (fun w => (sectionOfWire w).isNone) = true)
    ∧ sectionOfWire (wireOf sec14) = some sec14
    ∧ [(wireOf sec12, still), (wireOf sec12, inMode .depot .neutral loading),
        (wireOf sec12, { loading with line := { loading.line with records := List.replicate 256 sec10 } }),
        ({ wireOf sec12 with start := 661000 }, loading), ({ wireOf sec12 with number := 11 }, loading),
        (wireOf sec12, loading)].map (fun x => (appendSection x.1 x.2).1)
      = [.badState, .mode, .tableFull, .notContiguous, .badValue, .accepted] := by decide +kernel

theorem witness_LineReads :
    (laid.line.records[4]? = some sec14 ∧ laid.line.records.length ≤ 5)
    ∧ [code (.setSectionCursor 256) laid, code (.setSectionCursor 257) laid] = [0x02, 0x0C]
    ∧ [-9, -8, -2, 2, 3, 23, 24].map (fun k => code (.readWindow k) (placed 700000 500))
      = [0x0C, 0x00, 0x02, 0x02, 0x00, 0x00, 0x0C]
    ∧ laid.staging = .idle
    ∧ ({ laid with staging := .filling update41 }.staging = .filling update41
        ∧ { laid with staging := .held update41 5 }.staging = .held update41 5)
    ∧ { laid with link := { laid.link with secCursor := 4 } }.line.records[4]? = some sec14 := by decide +kernel

theorem witness_WindowDerived :
    laid.odo.cur = none ∧ (placed 700000 500).odo.cur = some 2 ∧ (placed 700000 500).line.records.length = 5
    ∧ [(-8 : Int), -3, -2, 2, 3, 23].map (fun k => (windowAt (placed 700000 500) k).map (·.index))
      = [none, none, some 0, some 4, none, none]
    ∧ (inMode .line .down (placed 700000 500)).sup.dir = .down := by decide +kernel

/-- The checks of R18 and the cases of R19, each at its boundary. -/
theorem witness_StagingBlocks :
    let filling : State := { laid with staging := .filling { update41 with owner := .car } }
    let held : State := { laid with staging := .held update41 5 }
    ([(block14, still), (block14, running), ({ block14 with id := 0 }, laid), ({ block14 with count := 17 }, laid),
      ({ block14 with index := 2 }, laid), ({ block14 with first := 12 }, laid), (block14, laid), (block14, held),
      ({ block14 with id := 42 }, filling), ({ block14 with count := 3 }, filling), (block14, filling)].map
        (fun x => (stageBlock .car x.1 x.2).1)
      = [.noLine, .mode, .badValue, .badValue, .badValue, .badValue, .accepted, .busy, .accepted, .badValue, .accepted])
    ∧ (stageBlock .valley block14 filling).1 = .busy ∧ sectionOfWire block14.record = some sec14 := by decide +kernel

/-- The five checks of R20, the hold, and the application. -/
theorem witness_Commits :
    let check : Nat := (lineCheckOf (update41.records.filterMap id)).toNat
    let filling (u : StagedUpdate) (s : State) : State := { s with staging := .filling u }
    let line := inMode .line .down (placed 968000 500)
    let far := inMode .line .down (placed 659997 531)
    let strange : StagedUpdate := { update41 with records := [some { sec13 with number := 99 }, some sec14] }
    let moved : StagedUpdate := { update41 with records := [some { sec13 with gradient := 1 }, some sec14] }
    let crcOf (u : StagedUpdate) : Nat := (lineCheckOf (u.records.filterMap id)).toNat
    [commitUpdate .valley 41 check laid, commitUpdate .valley 41 check { laid with staging := .held update41 5 },
      commitUpdate .car 41 check (filling update41 line), commitUpdate .car 41 check (filling update41 laid),
      commitUpdate .valley 40 check (filling update41 line),
      commitUpdate .valley 41 check (filling { update41 with records := [some sec13, none] } line),
      commitUpdate .valley 41 (check + 1) (filling update41 line),
      commitUpdate .valley 41 (crcOf strange) (filling strange line),
      commitUpdate .valley 41 (crcOf moved) (filling moved line), commitUpdate .valley 41 check (filling update41 line),
      commitUpdate .valley 41 check (filling update41 far)].map (·.1)
    = [.notFound, .busy, .mode, .busy, .notFound, .incomplete, .check, .unknownSection, .geometry, .held, .done] := by
  decide +kernel

theorem witness_StagingEnds :
    let own : StagedUpdate := { update41 with owner := .car }
    [code (.abortStage 41) laid, code (.abortStage 41) { laid with staging := .filling update41 },
      code (.abortStage 42) { laid with staging := .filling own }, code (.abortStage 41) { laid with staging := .held own 5 }]
      = [0x20, 0x12, 0x20, 0x01]
    ∧ (let s : State := { laid with staging := .held update41 0, tele := { laid.tele with heldStation := some 9 } }
      s.tele.queue.length < 8 ∧ update41.owner = .valley ∧ (after .holdTimerExpiry s).tele.queue.length = 1) := by
  decide +kernel

/-- The update of the example owned by the car, all blocks received, in STANDBY; its commit applies it. -/
def staged : State := { laid with staging := .filling { update41 with owner := .car } }
def commit41 : Instr := .commitStage 41 (lineCheckOf (update41.records.filterMap id)).toNat

theorem witness_GeometryKept :
    exec commit41 staged = .next (after commit41 staged) ∧ commit41 ≠ .powerOnReset ∧ commit41 ≠ .lineLoadBegin
    ∧ (∀ w, commit41 ≠ .appendSection w) ∧ (after commit41 staged).line.records ≠ staged.line.records :=
  ⟨rfl, by decide +kernel, by decide +kernel, by simp [commit41], by decide +kernel⟩

/-- The odometry of a placed car with its fine position at `um` µm. -/
def atUm (um : Nat) (s : State) : State := { s with odo := { s.odo with pUm := um } }
def pinUp : Instr := .quadratureCount .pinion .up
def pinDown : Instr := .quadratureCount .pinion .down
def whlUp : Instr := .quadratureCount .wheel .up
def whlDown : Instr := .quadratureCount .wheel .down

/-- A count in UNSET, a count that brings the uncertainty to its bound and one that stays below it, and a count of the
sensor that is not the active source. -/
theorem witness_QuadratureCounts :
    let bound : State := { placed 700000 500 with odo := { (placed 700000 500).odo with uUm := 2999999, carry := 750000 } }
    (laid.odo.source = .wheel ∧ laid.odo.state = .unset ∧ (after whlUp laid).odo.travel = 1200)
    ∧ ((placed 700000 500).odo.source = .pinion ∧ (placed 700000 500).odo.state = .valid
      ∧ (after pinUp (placed 700000 500)).odo.pUm = 700002500 ∧ (after pinUp (placed 700000 500)).odo.carry = 250000)
    ∧ ((after pinUp bound).odo.uUm = 3000000 ∧ (after pinUp bound).odo.state = .degraded)
    ∧ (after whlUp (placed 700000 500)).odo.pUm = 700000000 := by decide +kernel

/-- A count to UPPER exactly, one below LOWER, one that stays at LOWER, and one over each line end. -/
theorem witness_CountsCrossBoundaries :
    let mid := placed 700000 500
    let first := placed 600000 500
    let last := placed 1250000 500
    (mid.odo.source = .pinion ∧ mid.odo.cur = some 2 ∧ mid.odo.lower = some 660000 ∧ mid.odo.upper = some 960000
      ∧ mid.odo.nextUpper = some 1210000 ∧ mid.odo.nextLower = some 620000)
    ∧ ((after pinUp (atUm 959997500 mid)).odo.pUm = 960000000 ∧ (after pinUp (atUm 959997500 mid)).odo.cur = some 3)
    ∧ ((after pinDown (atUm 660000000 mid)).odo.pUm = 659997500 ∧ (after pinDown (atUm 660000000 mid)).odo.cur = some 1)
    ∧ ((after pinDown (atUm 660002500 mid)).odo.pUm = 660000000 ∧ (after pinDown (atUm 660002500 mid)).odo.cur = some 2)
    ∧ (last.odo.nextUpper = none ∧ last.odo.upper = some 1300000
      ∧ (after pinUp (atUm 1299997500 last)).odo.fault = some .offLine)
    ∧ (first.odo.nextLower = none ∧ first.odo.lower = some 500000 ∧ first.odo.source = .wheel
      ∧ (after whlDown (atUm 500000000 first)).odo.state = .fault) := by decide +kernel

/-- A line from 0 and a line to 67,108,864: a count to the bound exactly stays, one held back at it leaves the line. -/
theorem witness_CountsCrossBoundaries_held :
    let line (start length : Nat) : State := { laid with line := { laid.line with
      records := [{ sec10 with start := start, length := length }] } }
    let foot := (setPosition 60000 500 (line 0 120000)).2
    let top := (setPosition 67050000 500 (line 67000000 108864)).2
    (foot.odo.lower = some 0 ∧ foot.odo.nextLower = none ∧ top.odo.upper = some 67108864 ∧ top.odo.nextUpper = none)
    ∧ [after whlDown (atUm 1200 foot), after whlDown (atUm 1199 foot), after whlUp (atUm 67108862799 top),
        after whlUp (atUm 67108862800 top)].map (fun t => (t.odo.pUm, t.odo.state, t.odo.fault))
      = [(0, .valid, none), (0, .fault, some .offLine), (67108863999, .valid, none),
         (67108863999, .fault, some .offLine)] := by decide +kernel

theorem witness_counts_run :
    exec pinUp (placed 700000 500) = .next (after pinUp (placed 700000 500)) := rfl

/-- The check that fails and the check that passes at a span of exactly 5,000,000 µm, and one count short of it. -/
theorem witness_CrossChecks :
    let s (pin whl : Int) : State :=
      { placed 700000 500 with odo := { (placed 700000 500).odo with accPin := pin, accWhl := whl } }
    ((s 0 0).odo.cur = some 2 ∧ (s 0 0).line.records[2]? = some sec12 ∧ sec12.kind = .rack)
    ∧ (s 4997500 0).odo.accPin + signedWeight .pinion .up (s 0 0).params = 5000000
    ∧ ((after pinUp (s 4997500 5450001)).odo.state = .fault ∧ (after pinUp (s 4997500 5450000)).odo.state = .valid)
    ∧ (after pinUp (s 4995000 0)).odo.accPin = 4997500 := by decide +kernel

theorem witness_OdometryReads :
    let r : MarkReport := ⟨some 14, 1259000, 1000000, true, none⟩
    laid.odo.report = none ∧ { laid with odo := { laid.odo with report := some r } }.odo.report = some r := by
  decide +kernel

/-- UP at 700,000 with `L` 16,000 and `u` 500: a range that ends at 683,499 is passed, one at 683,500 is not. -/
theorem witness_PositionSamples :
    running.restr.table.length = 32 ∧ running.odo.state = .valid ∧ running.sup.dir = .up
    ∧ (after .positionSample (withEntry 4 { speed512 with hi := 683499 } running)).restr.table[4]? = some none
    ∧ (after .positionSample (withEntry 4 { speed512 with hi := 683500 } running)).restr.table[4]?
      = some (some { speed512 with hi := 683500 }) := by decide +kernel

/-- Each check of R50 at its boundary: line start and the position before it, the last position and the line end, `u` at
`mark_tol` and `u_max`. -/
theorem witness_SetPosition :
    [(700000, 500, State.reset), (700000, 500, running), (700000, 500, still), (499999, 500, laid), (1300000, 500, laid),
      (700000, 199, laid), (700000, 3001, laid), (500000, 200, laid), (1299999, 3000, laid)].map
        (fun x => (setPosition x.1 x.2.1 x.2.2).1)
      = [.moving, .mode, .noLine, .badPosition, .badPosition, .badValue, .badValue, .done, .done]
    ∧ laid.line.records[2]? = some sec12 ∧ (placed 960000 200).odo.cur = some 3 ∧ laid.radio.sync ≠ .init := by
  decide +kernel

/-- In reach of the mark of section 14 at 1,260,000, exactly at the end of the reach, and beyond it. -/
theorem witness_MarkDetections :
    let near := placed 1259000 500
    let fault : State := { near with odo := { near.odo with state := .fault } }
    (laid.odo.state = .unset ∧ near.odo.state = .valid ∧ near.odo.report = none)
    ∧ (matchedMark near).map (·.number) = some 14
    ∧ (matchedMark (atUm 1258500000 near)).map (·.number) = some 14 ∧ matchedMark (atUm 1258499999 near) = none
    ∧ (fault.odo.state = .fault ∧ (matchedMark fault).map (·.mark) = some 1260000)
    ∧ (degraded.odo.state = .degraded ∧ (⟨1260000, 4, 14⟩ : Candidate) ∈ candidates near) := by decide +kernel

/-- No count, opposite signs, the 5 % band at its edge and beyond it; a detection that adopts a weight. -/
theorem witness_WheelCalibration :
    (calibratedWeight 1200 1 0 = none ∧ calibratedWeight 1200 1 (-1) = none ∧ calibratedWeight 1200 (-1) 1 = none)
    ∧ calibratedWeight 1200 1260000 1000 = some 1215 ∧ calibratedWeight 1200 1261000 1000 = none
    ∧ (let s : State := { placed 1259000 500 with odo := { (placed 1259000 500).odo with
        cal := some ⟨1010000, 206612, true⟩ } }
      (after .markDetection s).params ≠ s.params) := by decide +kernel

theorem witness_detection_runs : exec .markDetection (placed 1259000 500) = .next (after .markDetection (placed 1259000 500)) :=
  rfl

theorem witness_PositionStaysSound :
    step ((placed 700000 500).setPending [pinUp]) = .next (after pinUp ((placed 700000 500).setPending []))
    ∧ PositionSound ((placed 700000 500).setPending [pinUp]) ∧ ParamsSound (placed 700000 500).params
    ∧ WeightsShort (placed 700000 500).params := by
  refine ⟨rfl, ⟨by decide +kernel, by decide +kernel, ⟨by decide +kernel, by decide +kernel, by decide +kernel,
    by decide +kernel, by decide +kernel⟩, fun _ => ⟨660000, 960000, by decide +kernel, by decide +kernel, by decide +kernel,
    by decide +kernel⟩, by decide +kernel, by decide +kernel, by decide +kernel, by decide +kernel⟩, by decide +kernel,
    by decide +kernel⟩

/-- FAULT inside the line, standing in LINE; RELEASE_TRIP lifts it. -/
def faulted14 : State :=
  { running with odo := { running.odo with state := .fault, fault := some .mismatch } }

theorem witness_OdometryFaultHeld :
    exec .releaseTrip faulted14 = .next (after .releaseTrip faulted14) ∧ faulted14.odo.state = .fault
    ∧ (after .releaseTrip faulted14).odo.state ≠ .fault := ⟨rfl, by decide +kernel, by decide +kernel⟩

/-- The checks of R54 in order, each at its boundary, with the line from 500,000 to 1,299,999 and the clock at 36,120. -/
theorem witness_PutRestriction :
    let timed : State := { running with restr := { running.restr with clock := some 36120 } }
    let rows : List (Option Restriction) := (List.range 30).map (fun k => some { speed512 with id := k + 100 })
    let full : State := { running with restr := { running.restr with table := rows ++ [none, none] } }
    let held := withEntry 3 { speed512 with issuer := .car, id := 7, hi := 700000, limit := 150, expiry := some 36120 }
    [(put7, still), ({ put7 with id := 0 }, running), ({ put7 with id := 65520 }, running),
      ({ put7 with direction := 4 }, running), ({ put7 with kind := 3, limit := 4 }, running),
      ({ put7 with lo := 499999 }, running), ({ put7 with hi := 1300000 }, running), ({ put7 with limit := 601 }, running),
      ({ put7 with kind := 2 }, running), ({ put7 with activation := some 36120 }, running), (put7, timed),
      (put7, held timed), (put7, full), (put7, held running), ({ put7 with limit := 600 }, held running),
      (put7, running)].map (fun x => (putRestriction .car x.1 x.2).1)
    = [.noLine, .badValue, .badValue, .badValue, .badValue, .badRange, .badRange, .badRange, .badRange, .badRange,
       .expired, .expired, .tableFull, .unchanged, .updated, .accepted]
    ∧ (findEntry .car 7 (held running).restr = some 3 ∧ findEntry .car 7 running.restr = none
      ∧ running.restr.table[0]? = some none ∧ running.restr.table[29]? = some none) := by decide +kernel

theorem witness_WithdrawRestriction :
    let s := withEntry 3 speed512 running
    (findEntry .valley 512 s.restr = some 3 ∧ s.restr.table[3]? = some (some speed512))
    ∧ [withdrawEntry .valley .revoked 512 s, withdrawEntry .car .withdrawn 512 s, withdrawEntry .car .withdrawn 8 s].map
        (·.1) = [.done, .notOwner, .notFound]
    ∧ (some speed512 ∈ s.restr.table ∧ speed512.id = 512) := by decide +kernel

/-- A full log of 8 records, one entry that expires at the new value and one that becomes ACTIVE at it. -/
theorem witness_LineClock :
    let r : ChangeRec := ⟨.inserted, none, none, none⟩
    let s := withEntry 0 { speed512 with expiry := some 5 } (withEntry 1 { speed512 with activation := some 5, active := false }
      { running with restr := { running.restr with log := List.replicate 8 r } })
    (s.restr.table.length = 32 ∧ LogBounded s ∧ s.restr.clock = none)
    ∧ ((setClock 5 s).restr.table.getD 0 none = none ∧ (setClock 5 s).restr.log.length = 8
      ∧ (setClock 5 s).restr.overflow = 2)
    ∧ (setClock 4294967295 s).restr.clock = some 4294967295 := by decide +kernel

theorem witness_RestrictionReads :
    let s := withEntry 31 speed512 running
    (s.restr.table[31]? = some (some speed512) ∧ findEntry .valley 512 s.restr = some 31)
    ∧ [.lookupRestriction 0 512, .lookupRestriction 4 512, .lookupRestriction 1 512, .lookupRestriction 2 512,
        .readRestriction 32, .readRestriction 31, .readRestriction 0, .nextRestriction, .setRestrictionCursor 32,
        .setRestrictionCursor 33].map (fun c => code c s)
      = [0x0C, 0x0C, 0x02, 0x20, 0x0C, 0x02, 0x05, 0x02, 0x02, 0x0C]
    ∧ code .nextRestriction running = 0x04 ∧ running.restr.log = []
    ∧ laid.restr.log = [] ∧ (after .radioReset running).restr.log.length = 1 := by decide +kernel

theorem witness_RestrictionsStaySound :
    step (running.setPending [.radioReset]) = .next (after .radioReset (running.setPending []))
    ∧ RestrictionsSound (running.setPending [.radioReset]) := ⟨rfl, by decide +kernel⟩

theorem witness_EntriesStayDistinct :
    let s := withEntry 0 speed512 running
    step (s.setPending [.putRestriction put7]) = .next (after (.putRestriction put7) (s.setPending []))
    ∧ TablePlaced (s.setPending [.putRestriction put7]) ∧ EntriesDistinct (s.setPending [.putRestriction put7]) :=
  ⟨rfl, by decide +kernel, by decide +kernel⟩

/-- The checks of R77 and R79 in order, and changes that are accepted. -/
theorem witness_ModeAndDirection :
    let moving (s : State) : State := { s with odo := { s.odo with standstill := false } }
    ([(3, still), (1, moving still), (0, still), (2, still), (2, inMode .depot .up laid), (0, inMode .tripped .up running),
      (1, still), (2, inMode .depot .up running), (0, running)].map (fun x => (setMode x.1 x.2).1)
      = [.badValue, .moving, .done, .refusedMode, .refusedMode, .refusedMode, .done, .done, .done])
    ∧ ([(3, running), (1, moving running), (1, still), (1, running), (2, running), (0, running)].map
        (fun x => (setDirection x.1 x.2).1) = [.badValue, .moving, .mode, .done, .done, .done])
    ∧ (setMode 0 { running with staging := .held update41 5 }).2.staging = .idle
    ∧ running.brakes.supervisor.emergency ≠ .latched ∧ (modeCode .depot = 1 ∧ dirCode .down = 2) := by decide +kernel

/-- A sample of `running` whose travel over the 20 ms period is `travel` µm. -/
def moved (travel : Int) (s : State) : State := { s with odo := { s.odo with travel := travel } }

/-- Samples that trip for each cause, at the rollback limit and above it, and each level. -/
theorem witness_SampleSupervision :
    let fault : State := { running with odo := { running.odo with state := .fault } }
    let past := moved 1000000 (withEntry 0 { stopUp with lo := 699999, hi := 699999 } running)
    let deficit : State := { moved 34000 (inMode .depot .up running) with
      sup := { (inMode .depot .up running).sup with sbView := true, level := .service } }
    ([fault, moved (-300001) running, past, moved 47340 (inMode .depot .up running),
      deficit, moved (-300000) running, moved 33320 (inMode .depot .up running)].map
        (fun s => (after .positionSample s).sup.trip.map (·.cause))
      = [some .odometryFault, some .rollback, some .stopOverrun, some .emergencySpeed, some .serviceDeficit,
         some .emergencySpeed, none])
    ∧ ([(100, 500), (501, 500), (801, 500), (1201, 500), (500, 500), (0, 500), (800, 500)].map
        (fun x => levelFor {} .normal x.1 x.2) = [.indication, .warning, .service, .emergency, .indication, .normal,
          .warning])
    ∧ (running.sup.mode = .line ∧ fault.odo.state = .fault ∧ running.odo.standstill = true) := by decide +kernel

/-- Section 12 and a SPEED entry over the safe extent, no VALLEY STOP ahead, one ahead, and a binding target. -/
theorem witness_PermittedSpeed :
    let s := withEntry 0 speed512 running
    (s.sup.mode = .line ∧ s.sup.dir ≠ .neutral ∧ running.restr.table.all (·.isNone) = true)
    ∧ ((windowAt s 0).map (·.index) = some 2 ∧ (some speed512 ∈ s.restr.table ∧ speed512.kind = .speed))
    ∧ ((after .positionSample s).sup.vPerm = 0 ∧ s.sup.retained = none)
    ∧ (let t := after .positionSample (withEntry 1 stopUp s)
      t.sup.vPerm = 2777 ∧ t.sup.mode = .line ∧ t.sup.binding.isSome = true) := by decide +kernel

theorem witness_sample_runs : exec .positionSample running = .next (after .positionSample running) := rfl

theorem witness_CurveSpeeds :
    let e := evalOf (descent 1168000 (-3000))
    ((targets e none).map (fun x => decide (x.at_ ≤ e.curvePoint)) = [false, false, true, false, false])
    ∧ (bindingOf e (targets e none)).isSome = true := by decide +kernel

/-- The same car TRIPPED, with every source's latch set and the rack brake APPLIED. -/
def latched : State :=
  let s := inMode .tripped .up running
  { s with brakes := { s.brakes with
    supervisor := ⟨100, .latched⟩, odometry := ⟨0, .latched⟩, doors := ⟨0, .latched⟩, radio := ⟨0, .none⟩,
    host := ⟨50, .latched⟩, brake := ⟨0, .latched⟩, rack := .applied, emergency := true, effort := 100, tperm := false } }

theorem witness_TrippedHeld :
    (exec .releaseTrip latched = .next (after .releaseTrip latched) ∧ latched.sup.mode = .tripped
      ∧ (after .releaseTrip latched).sup.mode = .depot)
    ∧ exec .positionSample faulted14 = .next (after .positionSample faulted14) ∧ faulted14.sup.mode ≠ .tripped
    ∧ (after .positionSample faulted14).sup.mode = .tripped :=
  ⟨⟨rfl, by decide +kernel, by decide +kernel⟩, rfl, by decide +kernel, by decide +kernel⟩

/-- Level 100 and 101, an emergency that appears, an effort that changes while the deficit timer runs. -/
theorem witness_BrakeDemand :
    let s : State := { running with brakes := { running.brakes with deficitTimer := some 300 } }
    (running.brakes.emergency = false ∧ running.brakes.rack = .released ∧ running.brakes.tperm = true)
    ∧ [(100, false), (101, false), (0, true), (0, false)].map (fun x =>
        let t := after (.brakeDemand x.1 x.2) s
        (t.brakes.host.level, t.brakes.emergency, t.brakes.deficitTimer))
      = [(100, false, some 1000), (100, false, some 1000), (0, true, some 1000), (0, false, some 300)] := by
  decide +kernel

theorem witness_ReleaseTrip :
    let t := after .releaseTrip latched
    (State.reset.odo.standstill = false ∧ latched.odo.standstill = true ∧ latched.sup.modeBefore = .depot)
    ∧ (latched.brakes.emergency = true ∧ t.brakes.emergency = false ∧ latched.brakes.rack = .applied)
    ∧ (insideLine (pMm faulted14.odo) faulted14 = true ∧ faulted14.odo.state = .fault ∧ faulted14.sup.mode ≠ .tripped)
    ∧ (latched.brakes.host.emergency = .latched ∧ latched.brakes.odometry.emergency = .latched
      ∧ latched.brakes.brake.emergency = .latched ∧ latched.brakes.doors.emergency = .latched
      ∧ latched.brakes.supervisor.emergency = .latched) := by decide +kernel

theorem witness_BrakeTimers :
    let late : State := { inMode .depot .up running with
      sup := { (inMode .depot .up running).sup with level := .service },
      brakes := { running.brakes with deficitTimer := some 0 } }
    (running.brakes.rack ≠ .releasing ∧ running.brakes.rack ≠ .applying ∧ running.brakes.rack ≠ .faultNotReleased
      ∧ running.brakes.deficitTimer = none)
    ∧ departing.brakes.rack = .releasing ∧ State.reset.brakes.rack = .applying
    ∧ (relExpired departing).brakes.rack = .faultNotReleased
    ∧ (late.brakes.deficitTimer ≠ none ∧ late.sup.level = .service ∧ late.sup.mode = .depot)
    ∧ (after .deficitTimerExpiry late).sup.mode = .tripped := by decide +kernel

theorem witness_BrakesStaySound :
    step (running.setPending [.brakeDemand 40 true]) = .next (after (.brakeDemand 40 true) (running.setPending []))
    ∧ BrakesSound (running.setPending [.brakeDemand 40 true]) := ⟨rfl, by decide +kernel⟩

theorem witness_LatchesHeld :
    exec .releaseTrip latched = .next (after .releaseTrip latched) ∧ SupervisorEntry latched
    ∧ (getDemand latched.brakes .host).emergency = .latched
    ∧ (getDemand (after .releaseTrip latched).brakes .host).emergency ≠ .latched :=
  ⟨rfl, by decide +kernel, by decide +kernel, by decide +kernel⟩

/-- The car of the doors example: LINE, at platform 7 of section 14, LEFT. -/
def atPlatform : State :=
  let s := inMode .line .down (placed 1280000 300)
  { s with
    odo := { s.odo with sample := { s.odo.sample with p := 1280000, u := 300, state := .valid } },
    restr := Restrictions.reset, doors := running.doors, brakes := running.brakes }

/-- The checks of R136 in order, the extent at the platform's edge and 1 mm beyond it. -/
theorem witness_ReleaseSide :
    let at_ (p : Nat) : State := { atPlatform with odo := { atPlatform.odo with
      sample := { atPlatform.odo.sample with p := p } } }
    let unknown : State := { atPlatform with odo := { atPlatform.odo with state := .fault } }
    let moving : State := { atPlatform with odo := { atPlatform.odo with standstill := false } }
    let door : Restriction := { speed512 with kind := .door, lo := 1280300, hi := 1290000, limit := 3 }
    ([(3, atPlatform), (1, still), (1, moving), (1, unknown), (1, at_ 1289701), (2, atPlatform),
      (1, withEntry 0 door atPlatform), (1, atPlatform), (1, at_ 1289700), (2, inMode .depot .down atPlatform)].map
        (fun x => (releaseSide x.1 true x.2).1)
      = [.badValue, .mode, .notStill, .odometry, .noPlatform, .wrongSide, .doorRestricted, .done, .done, .done])
    ∧ (getLeaf (releaseSide 1 true atPlatform).2.doors.leaves .l2).state = .unlocking := by decide +kernel

/-- A leaf put in place of L2. -/
def withLeaf (l : Leaf) (s : State) : State :=
  { s with doors := { s.doors with leaves := putLeaf .l2 l s.doors.leaves } }

/-- Any leaf record stands in some state, so each clause on a leaf's own record is met; the release in force or not, and
auto-open set or clear, are met in `released`. -/
theorem witness_leaves (l : Leaf) (s : State) : getLeaf (withLeaf l s).doors.leaves .l2 = l := rfl

def released (auto : Bool) : State :=
  { atPlatform with doors := { atPlatform.doors with left := ⟨true, auto, some (7, 14), .none⟩ } }

/-- The state a close request takes each of the leaf states to, with both switches off and with both on. -/
theorem witness_CloseSides :
    let all : List LeafState := [.locked, .locking, .closing, .isolated, .unlocking, .unlocked, .opening, .opened,
      .reopening, .halted, .fault]
    let off : Leaf := Leaf.reset
    all.map (fun x => (getLeaf (after (.closeSide 1) (withLeaf { off with state := x } (released true))).doors.leaves
        .l2).state)
      = [.locked, .locking, .closing, .isolated, .locking, .locking, .closing, .closing, .reopening, .closing, .closing]
    ∧ all.map (fun x => (getLeaf (after .closeAll (withLeaf { shut with state := x } (released true))).doors.leaves
        .l2).state)
      = [.locked, .locking, .closing, .isolated, .locked, .locked, .locked, .locked, .reopening, .locked, .locked]
    ∧ (getRelease (released true).doors .left).inForce = true ∧ (getRelease atPlatform.doors .left).inForce = false
    ∧ [code (.closeSide 0) atPlatform, code (.closeSide 3) atPlatform, code (.closeSide 2) atPlatform]
      = [0x0C, 0x0C, 0x01] := by decide +kernel

theorem witness_LeafRequests :
    let isolated := withLeaf { shut with state := .isolated } atPlatform
    [code (.isolateLeaf 6) still, code (.isolateLeaf 1) isolated, code (.isolateLeaf 1) still,
      code (.isolateLeaf 1) atPlatform, code (.restoreLeaf 1) atPlatform, code (.restoreLeaf 1) isolated,
      code (.readDoorFault 6) still, code (.readDoorFault 1) still,
      code (.readDoorFault 1) (withLeaf { shut with fault := some (.openTimeout, none) } atPlatform)]
    = [0x0C, 0x01, 0x1F, 0x01, 0x1F, 0x01, 0x0C, 0x00, 0x02] := by decide +kernel

/-- The transitions of the switches, the button and the timer, with the release in force and without it. -/
theorem witness_LeafEvents :
    let leaf (x : LeafState) (t : Option (LeafTime × Nat)) : Leaf := { Leaf.reset with state := x, timer := t }
    let goes (c : Instr) (l : Leaf) (s : State) : LeafState := (getLeaf (after c (withLeaf l s)).doors.leaves .l2).state
    ([goes (.clsChange .l2 false) shut atPlatform, goes (.clsChange .l2 true) (leaf .closing none) atPlatform,
      goes (.clsChange .l2 true) { leaf .closing none with lks := true } atPlatform,
      goes (.lksChange .l2 false) shut atPlatform,
      goes (.lksChange .l2 false) { shut with state := .unlocking } (released false),
      goes (.lksChange .l2 false) { shut with state := .unlocking } (released true),
      goes (.lksChange .l2 false) { shut with state := .unlocking, ops := true } (released true),
      goes (.lksChange .l2 true) (leaf .locking none) atPlatform,
      goes (.lksChange .l2 true) (leaf .locking none) (released true),
      goes (.opsChange .l2 true) (leaf .opening none) (released true),
      goes (.pbPressed .l2 true) (leaf .unlocked none) (released false),
      goes (.pbPressed .l2 true) { leaf .unlocked none with ops := true } (released false)]
      = [.fault, .locking, .locked, .fault, .unlocked, .opening, .opened, .locked, .unlocking, .opened, .opening, .opened])
    ∧ [goes (.tLockExpiry .l2) (leaf .unlocking (some (.tLock, 0))) (released true),
      goes (.tLockExpiry .l2) (leaf .locking (some (.tLock, 0))) atPlatform,
      goes (.tOpenExpiry .l2) (leaf .opening (some (.tOpen, 0))) (released true),
      goes (.tCloseExpiry .l2) { leaf .closing (some (.tClose, 0)) with obstructions := 2 } atPlatform,
      goes (.tCloseExpiry .l2) { leaf .closing (some (.tClose, 0)) with obstructions := 3 } atPlatform,
      goes (.tReopenExpiry .l2) (leaf .reopening (some (.tReopen, 0))) atPlatform,
      goes (.tPauseExpiry .l2) { leaf .opened (some (.tPause, 0)) with closePending := true } atPlatform,
      goes (.tPauseExpiry .l2) { leaf .opened (some (.tPause, 0)) with closePending := true, cls := true } atPlatform,
      goes (.tOpenExpiry .l2) (leaf .opening none) (released true)]
      = [.fault, .fault, .fault, .reopening, .fault, .opened, .closing, .locking, .opening] := by decide +kernel

theorem witness_DoorsStaySound :
    let s : State := { released true with doors := (releaseSide 1 true atPlatform).2.doors }
    step (s.setPending [.lksChange .l1 false]) = .next (after (.lksChange .l1 false) (s.setPending []))
    ∧ DoorsSound (s.setPending [.lksChange .l1 false]) ∧ LeavesTimed s ∧ LeavesSettled s
    ∧ s.doors.left.inForce = true :=
  ⟨rfl, by decide +kernel, by decide +kernel, by decide +kernel, by decide +kernel⟩

/-- The checks of R146 and R158 in order, slots 0, 1, 7 and 8, the granted slot, and a new channel of the tuned cell. -/
theorem witness_RadioRequests :
    let granted : State := { running with radio := { running.radio with
      grant := some ⟨3, 5, 2⟩, routes := running.radio.routes.set 3 .transmit } }
    ([(1, 1, State.reset), (0, 1, running), (8, 1, running), (1, 2, running), (1, 4, running), (3, 1, granted),
      (1, 1, running), (7, 3, running)].map (fun x => code (.setSlot x.1 x.2.1) x.2.2)
      = [0x09, 0x0C, 0x0C, 0x0C, 0x0C, 0x1F, 0x01, 0x01])
    ∧ ([(3, 41, running), (16, 41, still), (3, 256, still), (15, 255, still), (0, 7, laid)].map
        (fun x => code (.setChannel x.1 x.2.1) x.2.2) = [0x0A, 0x0C, 0x0C, 0x01, 0x01])
    ∧ (laid.radio.tuned = some 0 ∧ (after (.setChannel 0 7) laid).radio.chsel = 7)
    ∧ (running.line.state = .sealed ∧ running.restr.table[30]? = some none
      ∧ laid.restr.table[30]? = some (some (partRestriction .radioLoss laid)) ∧ still.line.state ≠ .sealed) := by
  decide +kernel

/-- Slot starts: INIT, a miss, the third miss, an opportunity with a REPORT, an ACK and nothing queued, a self-test. -/
theorem witness_SlotStarts :
    let grant (q : List Uplink) : State := { running with
      radio := { running.radio with grant := some ⟨3, 5, 2⟩, slotIndex := 2, frame := 7 },
      tele := { running.tele with queue := q } }
    let loop : State := { laid with radio := { laid.radio with slotIndex := 4, routes := laid.radio.routes.set 5 .loop } }
    let missed (n : Nat) : State := { running with radio := { running.radio with miss := n } }
    (State.reset.radio.sync = .init ∧ running.radio.beaconSeen = false ∧ running.radio.slotIndex = 0)
    ∧ [missed 0, missed 2, grant [.report], grant [.ack .revoke 5 .done 9], grant [], loop].map (fun s =>
        let t := after .slotStart s
        (t.radio.miss, t.radio.sync, t.radio.rtxd.length, t.radio.loopPass))
      = [(1, .locked, 0, 0), (0, .holdover, 0, 0), (0, .locked, 48, 0), (0, .locked, 48, 0), (0, .locked, 48, 0),
         (0, .search, 0, 1)]
    ∧ (after .slotStart { running with radio := { running.radio with slotIndex := 7, frame := 24 } }).radio.frame = 0
    ∧ loop.params.carAddress < 1048576
    ∧ (after .slotStart { missed 2 with params := { running.params with tHold := 0 } }).radio.sync = .search := by
  decide +kernel

theorem witness_RadioTimers :
    let hold : State := { running with radio := { running.radio with sync := .holdover, holdover := some 0 } }
    (State.reset.radio.sync = .init ∧ running.radio.sync ≠ .init ∧ laid.odo.cur = none
      ∧ running.line.records[2]? = some sec12)
    ∧ (hold.radio.sync = .holdover ∧ running.radio.sync ≠ .holdover)
    ∧ (laid.radio.loss = none ∧ running.radio.loss ≠ none ∧ running.radio.link = .ok)
    ∧ (after .radioLossTimerExpiry running).restr.table[30]? = some (some (partRestriction .radioLoss running))
    ∧ { laid with radio := { laid.radio with loss := some 0 } }.radio.link = .lost := by decide +kernel

/-- A frame number of 24 and 25, the other cell, no source, confirmation, a wrong number with the window closed and
open; discards at each step. -/
theorem witness_BeaconsAndDiscards :
    let open_ : State := { running with radio := { running.radio with guardOpen := true, guardCount := 24 } }
    (Hears inSlot0 running ∧ Hears inOff searching ∧ ¬ Hears inOff running ∧ ¬ Passes ⟨.car, 0, 0, inSlot0⟩ running)
    ∧ [(24, 3, 1, searching), (25, 3, 1, searching), (17, 4, 1, searching), (17, 3, 0, searching), (17, 3, 2, searching),
        (0, 3, 1, running), (5, 3, 1, running), (0, 3, 1, open_), (5, 3, 1, open_)].map (fun x =>
        let r := (after (.beacon x.1 x.2.1 ⟨x.2.2.1, inSlot0⟩) x.2.2.2).radio
        (r.sync, r.frame, r.guardOpen, r.causes.toNat))
      = [(.locked, 24, false, 1), (.search, 9, false, 0), (.search, 9, false, 0), (.search, 9, false, 0),
         (.search, 9, false, 0), (.locked, 0, false, 0), (.locked, 0, false, 0), (.locked, 0, false, 0),
         (.locked, 5, false, 2)]
    ∧ [DiscardStep.check, .header, .direction, .address .car 5, .sync].map (fun d =>
        (after (.telegramDiscarded ⟨d, inSlot0⟩) running).tele.counts.received) = [1, 1, 1, 1, 0] := by
  refine ⟨⟨by decide +kernel, by decide +kernel, by decide +kernel, by simp only [Passes]; decide +kernel⟩,
    by decide +kernel, by decide +kernel⟩

theorem witness_RadioStaysSound :
    step (running.setPending [.slotStart]) = .next (after .slotStart (running.setPending []))
    ∧ RadioSound running ∧ UplinkSound running ∧ TablesSized running :=
  ⟨rfl, by decide +kernel, by decide +kernel, by decide +kernel⟩

/-- A telegram in SEARCH, one no filter passes, and one that is accepted; each kind's result on its first clauses. -/
theorem witness_Telegrams :
    let foreign : TgHeader := ⟨.car, 5, 9, inSlot0⟩
    (headerOf (.poll foreign) = some foreign ∧ ¬ Passes foreign running)
    ∧ (Hears inSlot0 running ∧ running.radio.sync ≠ .search ∧ Passes toCar running ∧ searching.radio.sync = .search)
    ∧ [Instr.restrict toCar put7, .revoke toCar 8, .sectionBlock toCar { block14 with id := 0 },
        .sectionCommit toCar 41 0, .sectionAbort toCar 41, .slotGrant toCar 7 25 24, .slotGrant toCar 8 25 24,
        .slotGrant toCar 1 25 25, .emergencyStop toCar, .stopRelease toCar].map (fun c => (after c running).tele.queue)
      = [[.ack .restrict 7 .accepted 9], [.ack .revoke 8 .notFound 9], [.ack .sectionBlock 0 .badValue 9],
         [.ack .sectionCommit 41 .notFound 9], [.ack .sectionAbort 41 .notFound 9], [.ack .slotGrant 7 .done 9],
         [.ack .slotGrant 8 .badValue 9], [.ack .slotGrant 1 .badValue 9], [.ack .emergencyStop 0 .done 9],
         [.ack .stopRelease 0 .notFound 9]]
    ∧ (after (.poll toCar) running).tele.queue = [.report]
    ∧ (after (.sectionBlock toCar block14) running).tele.queue = [] := by
  refine ⟨⟨rfl, by simp only [Passes]; decide +kernel⟩, ⟨by decide +kernel, by decide +kernel,
    by simp only [Passes]; decide +kernel, by decide +kernel⟩, by decide +kernel, by decide +kernel, by decide +kernel⟩

/-- R178: a telegram that completes in slot 2 at the slot start of the granted slot 3, taken before it and after it. -/
theorem test_ack_and_slot_start :
    let s : State := { running with radio := { running.radio with
      slotIndex := 2, slotRoute := .receive, grant := some ⟨3, 1, 0⟩, routes := running.radio.routes.set 3 .transmit } }
    let stop : Instr := .emergencyStop { toCar with came := ⟨2, true⟩ }
    let sent (t : State) := (byteAt t.radio.rtxd 3, t.tele.queue)
    (arriveAll (telegramArrivals (telegram [0xCF, 0xFF, 0xFF, 0x0A, 9, 0] [])) (s.setPending [.slotStart])).pending
      = [.slotStart, stop]
    ∧ sent (after .slotStart (after stop s)) = (0x20, [])
    ∧ sent (after stop (after .slotStart s)) = (0x21, [.ack .emergencyStop 0 .done 9]) := by decide +kernel

/-- The checks of R182, R184, R185 and R167, each at its boundary, and the settings taken. -/
theorem witness_SettingRequests :
    let busy : State := { still with analog := { still.analog with single := true } }
    ([code (.setSweep 0 0) running, code (.setSweep 3 0) still, code (.setSweep 1 2) still, code (.setSweep 0 0) busy,
      code (.setSweep 2 0) still, code (.setSweep 0 9) still, code (.setSweep 1 1) still]
      = [0x0A, 0x0C, 0x0C, 0x09, 0x03, 0x01, 0x01])
    ∧ ([code (.setCalibration ⟨0, 0, 0, 1, 0, false⟩) running, code (.setCalibration ⟨8, 0, 0, 1, 0, false⟩) still,
      code (.setCalibration ⟨7, 5, 0, 5, 0, false⟩) still, code (.setCalibration ⟨7, 0, 0, 1024, 0, false⟩) still,
      code (.setCalibration ⟨7, 1022, 65535, 1023, 0, true⟩) still] = [0x0A, 0x0C, 0x0C, 0x0C, 0x01])
    ∧ ([code (.setWindow 0 0 1) running, code (.setWindow 8 0 1) still, code (.setWindow 7 2 1) still,
      code (.setWindow 7 1 1) still] = [0x0A, 0x0C, 0x0C, 0x01])
    ∧ [code (.setFilter 0 true 1 0 0) running, code (.setFilter 6 true 1 0 0) still, code (.setFilter 5 true 0 0 0) still,
      code (.setFilter 5 true 4 0 0) still, code (.setFilter 5 true 1 1048576 0) still,
      code (.setFilter 5 true 3 1048575 1048575) still] = [0x0A, 0x0C, 0x0C, 0x0C, 0x0C, 0x01] := by decide +kernel

/-- A car whose sweep stands at a place of a sequence. -/
def sweeping (seq : SweepSeq) (pos : Nat) (s : State) : State := { s with analog := { s.analog with seq := seq, pos := pos } }

/-- The end of each sequence, a restart, a conversion that is not valid, and what AIN0, AIN1 and a leaf's current do. -/
theorem witness_Conversions :
    let railed : State := { still with analog := { still.analog with
      channels := still.analog.channels.set 0 { Channel.reset with railCheck := true } } }
    let low (r : RackState) (s : State) : State := { s with
      brakes := { s.brakes with rack := r },
      analog := { s.analog with channels := s.analog.channels.set 0 { Channel.reset with low := 80, high := 420 } } }
    ([(.repeated, 7), (.emphasis0, 13), (.emphasis1, 13), (.single, 7), (.single, 6)].map (fun x =>
        let t := after (.conversionComplete 500) (sweeping x.1 x.2 still)
        (t.analog.pos, t.analog.passes)) = [(0, 0), (0, 0), (0, 0), (0, 1), (7, 0)])
    ∧ (after (.conversionComplete 500) { still with analog := { still.analog with restart := true } }).analog.pos = 0
    ∧ ((channelAt (after (.conversionComplete 1023) railed).analog 0).valid = false
      ∧ (channelAt (after (.conversionComplete 1022) railed).analog 0).valid = true)
    ∧ ([RackState.releasing, .released, .applying, .faultNotReleased, .faultNotApplied].map (fun r =>
        (after (.conversionComplete 79) (low r still)).brakes.rack)
      = [.releasing, .faultNotReleased, .applied, .applied, .applied])
    ∧ (after (.conversionComplete 421) (low .releasing still)).brakes.rack = .released
    ∧ ([449, 450].map (fun x => (after (.conversionComplete x) (sweeping .repeated 1 still)).brakes.deficitTimer)
      = [some 1000, none])
    ∧ (after (.conversionComplete 450) (sweeping .repeated 1 { still with
        brakes := { still.brakes with sbDeficit := true } })).brakes.sbDeficit = false
    ∧ (let s (n : Nat) := sweeping .repeated 3 (withLeaf { Leaf.reset with state := .closing, overCurrent := n } { still with
        analog := { still.analog with channels := still.analog.channels.set 3 { Channel.reset with high := 600 } } })
      [(0, 601), (1, 601), (1, 600)].map (fun x =>
        let l := getLeaf (after (.conversionComplete x.2) (s x.1)).doors.leaves .l2
        (l.state, l.overCurrent)) = [(.closing, 1), (.reopening, 0), (.closing, 0)]) := by decide +kernel

/-- Each read at the last index it takes and one beyond it, and records that are NONE and held. -/
theorem witness_BlockReads :
    [code (.readChannel 15) still, code (.readChannel 16) still, code (.readFilter 5) still, code (.readFilter 6) still,
      code (.readUplink 7) still, code (.readUplink 8) still, code (.readAnalog 7) still, code (.readAnalog 8) still]
      = [0x02, 0x0C, 0x02, 0x0C, 0x00, 0x0C, 0x02, 0x0C]
    ∧ (still.tele.filters[5]? = some ⟨false, .car, 0, 0⟩ ∧ still.analog.channels[7]? = some Channel.reset)
    ∧ (after (.poll toCar) running).tele.queue[0]? = some .report
    ∧ (still.sup.binding = none ∧ (after .positionSample (withEntry 1 stopUp running)).sup.binding.isSome = true)
    ∧ (after .readBrakes still).link.store.any (fun a => a.data.length == 33) = true
    ∧ (after .readDoors still).link.store.any (fun a => a.data.length == 121) = true := by decide +kernel

/-! ### Witnesses of the ports, the crossings, and what one event does in another block -/

/-- Each timer run out alone, in the order the step looks at them. -/
theorem witness_EmptyQueueLetsTimePass_timers :
    let brakes (r : RackState) (t d : Option Nat) : State := { still with
      brakes := { still.brakes with rack := r, rackTimer := t, deficitTimer := d } }
    let leaf (t : LeafTime) : State := { still with doors := { still.doors with
      leaves := putLeaf .r5 { Leaf.reset with timer := some (t, 0) } still.doors.leaves } }
    let radio (i l h o : Option Nat) : State := { still with
      radio := { still.radio with initTimer := i, slotTimer := l, holdover := h, loss := o } }
    [{ still with restr := { still.restr with second := 0 } }, { still with staging := .held update41 0 },
      brakes .releasing (some 0) none, brakes .applying (some 0) none, brakes .applied none (some 0), leaf .tLock,
      leaf .tOpen, leaf .tClose, leaf .tReopen, leaf .tPause, radio (some 0) none none none,
      radio none (some 0) none none, radio none none (some 0) none, radio none none none (some 0)].map
        (fun s => (idle s).pending)
      = [[.lineClockAdvance], [.holdTimerExpiry], [.tRelExpiry], [.tAppExpiry], [.deficitTimerExpiry],
         [.tLockExpiry .r5], [.tOpenExpiry .r5], [.tCloseExpiry .r5], [.tReopenExpiry .r5], [.tPauseExpiry .r5],
         [.initSequenceEnd], [.slotStart], [.holdoverTimerExpiry], [.radioLossTimerExpiry]] := by decide +kernel

/-- A whole frame, a frame of 39 bytes, one that begins while a request waits, RSTN held; and MISO: bit 5 of the start-up
response is its first 1, byte 41 is 0. -/
theorem witness_RefusedFrames_bits :
    let clocks (n : Nat) : List PortEvent := .csnFalls :: List.replicate n (.sckRises false)
    let sent (bs : List Byte) (s : State) : List Instr := (arriveAll (frameArrivals bs) s).pending
    (still.link.selected = false ∧ executing still = false ∧ executing (still.setPending [.nop]) = true
      ∧ executing (still.setPending [.hostFrameRefused .check]) = false)
    ∧ sent (frame [0x01]) still = [.nop] ∧ sent ((frame [0x01]).take 39) still = [.hostFrameRefused .length]
    ∧ sent (frame [0x01]) (still.setPending [.nop]) = [.nop, .hostFrameRefused .length]
    ∧ arrive false .csnFalls still = still
    ∧ [4, 5, 6, 320].map (fun n => miso true (arriveAll (clocks n) still)) = [some false, some true, some false, some false]
    ∧ miso true still = none ∧ miso false (csnFalls still) = none
    ∧ miso true (csnFalls (still.setPending [.nop])) = some false := by decide +kernel

/-- A soft reset that falls into a frame drops what the frame has brought (R189). -/
theorem witness_SoftReset_frame :
    (arriveAll [.csnFalls, .sckRises true] still).link.rxBits = [true]
    ∧ (after .reset (arriveAll [.csnFalls, .sckRises true] still)).link.rxBits = [] := by decide +kernel

/-- LINE, NORMAL, SEALED and LOCKED with no flag set, and STANDBY with POWER_ON set: the summary's bits and the pins. -/
theorem witness_LinkRequests_summary :
    let quiet : State := { running with link := { running.link with flags := 0#10 } }
    summary quiet = [0x82#8, 0x80#8] ∧ summary still = [0x04#8, 0x00#8]
    ∧ ((pinsAt true quiet).attn = true ∧ (pinsAt true still).attn = false ∧ (pinsAt false still).attn = true)
    ∧ ((pinsAt true still).sbpwm = 100 ∧ (pinsAt false still).sbpwm = 0) := by decide +kernel

/-- The new limit of the RADIO_LOSS entry, and of an entry that is not there. -/
theorem witness_Parameters_limits :
    (after (.setParameter 17 120) laid).restr.table[30]? = some (some { partRestriction .radioLoss laid with limit := 120 })
    ∧ (laid.restr.table[31]? = some none ∧ (after (.setParameter 18 90) laid).restr = laid.restr)
    ∧ (after (.setParameter 17 120) laid).link.flags.getLsbD (flagIndex .restrictionChanged) = true := by decide +kernel

/-- DOWN brings section 13 newly into view with NO_MARGIN: 310 per mille against 1,800 mm/s²; derived again, it is not
new. -/
theorem witness_WindowDerived_noMargin :
    let s := (placed 700000 500).setSup { (placed 700000 500).sup with dir := .down }
    (deriveWindow s).line.update = some (.noMargin 13)
    ∧ (deriveWindow s).link.flags.getLsbD (flagIndex .lineUpdate) = true
    ∧ (deriveWindow ((deriveWindow s).setLine s.line)).line = s.line := by decide +kernel

/-- A held commit that the span blocks, and one clear of it, acknowledged to the station kept. -/
theorem witness_Commits_retest :
    let held (s : State) : State := { s with
      staging := .held update41 5, tele := { s.tele with heldStation := some 9 } }
    (retestHeld (held (inMode .line .down (placed 968000 500)))).staging = .held update41 5
    ∧ (retestHeld (held (placed 968000 500))).staging = .idle
    ∧ (retestHeld (held (placed 968000 500))).tele.queue = [.ack .sectionCommit 41 .done 9]
    ∧ (retestHeld (held (placed 968000 500))).line.update = some (.commitDone 41) := by decide +kernel

/-- An update of the current section 12 that changes its cell, and one that does not; committed, and held and clear. -/
theorem witness_Commits_cell :
    let update (r : SectionRec) : StagedUpdate := { update41 with first := 12, count := 1, records := [some r] }
    let crc (u : StagedUpdate) : Nat := (lineCheckOf (u.records.filterMap id)).toNat
    let s := placed 700000 500
    let committed (u : StagedUpdate) : State := (commitUpdate .valley 41 (crc u) { s with staging := .filling u }).2
    let retested (u : StagedUpdate) : State := retestHeld { s with staging := .held u 5 }
    (s.odo.cur = some 2 ∧ s.radio.tuned = some 3 ∧ s.radio.sync = .search)
    ∧ [committed (update { sec12 with cell := 5 }), retested (update { sec12 with cell := 5 })].map (fun t =>
        (t.radio.tuned, t.radio.causes.getLsbD 4)) = [(some 5, true), (some 5, true)]
    ∧ (committed (update { sec12 with limitUp := 90 })).radio = s.radio
    ∧ (retested (update { sec12 with limitUp := 90 })).radio = s.radio := by decide +kernel

/-- From section 11 into the RACK section 12 of another cell with a commit held clear of the span, and from 12 into the
staged section 13, whose cell is the same. -/
theorem witness_CountsCrossBoundaries_blocks :
    let low := atUm 659999000 (inMode .line .up (placed 650000 500))
    let s : State := { low with
      odo := { low.odo with cal := some ⟨500000, 7, true⟩, accPin := 5, accWhl := 6 }, staging := .held update41 5,
      radio := { low.radio with sync := .locked, grant := some ⟨3, 5, 2⟩, routes := low.radio.routes.set 3 .transmit } }
    let t := after whlUp s
    let high := atUm 959999000 (inMode .line .up (placed 950000 500))
    (t.odo.cur = some 2 ∧ t.odo.source = .pinion ∧ t.odo.accPin = 0 ∧ t.odo.cal = some ⟨500000, 8, false⟩)
    ∧ (t.staging = .idle ∧ t.line.update = some (.commitDone 41))
    ∧ (t.radio.sync = .search ∧ t.radio.tuned = some 3 ∧ t.radio.grant = none ∧ t.radio.routes[3]? = some .off)
    ∧ (after pinUp { high with staging := .held update41 5 }).staging = .held update41 5
    ∧ (high.radio.tuned = some 3 ∧ (after pinUp high).odo.cur = some 3) := by decide +kernel

/-- A reference on WHEEL throughout, 120,000 mm behind a mark in section 10: adopted at 1,210 µm, an outlier at 2,400. -/
theorem witness_WheelCalibration_mark :
    let line : State := { laid with line := { laid.line with
      records := [{ sec10 with mark := some 560100 }, sec11, sec12, sec13, sec14] } }
    let near (net : Int) : State :=
      let s := (setPosition 560000 500 line).2
      { s with odo := { s.odo with cal := some ⟨440100, net, true⟩ } }
    [99174, 50000].map (fun n => let t := after .markDetection (near n)
      (t.params.wWhl, t.odo.causes.getLsbD 4, t.odo.causes.getLsbD 5, t.odo.source))
      = [(1203, true, false, .wheel), (1200, false, true, .wheel)]
    ∧ (matchedMark (near 0)).map (·.mark) = some 560100 := by decide +kernel

/-- The release of the left side at a sample, the check that fails named by each state; and DOOR_MOTION. -/
theorem witness_PositionSamples_doors :
    let s := released true
    let platform (p : Option Platform) : State := { s with line := { s.line with
      records := [sec10, sec11, sec12, sec13, { sec14 with platform := p }] } }
    let door : Restriction := { speed512 with kind := .door, lo := 1250000, hi := 1290000, limit := 1 }
    let open_ := withLeaf { shut with state := .opened, lks := false } { s with doors := { s.doors with closed := false } }
    ([moved 10000 s, inMode .standby .neutral s, { s with odo := { s.odo with state := .unset } }, platform none,
      platform (some ⟨7, .right, 1250000, 1290000⟩), withEntry 0 door s, s].map (fun x =>
        let d := (after .positionSample x).doors
        (d.left.cause, d.left.inForce, d.causes.getLsbD 2))
      = [(.notStill, false, true), (.mode, false, true), (.odometry, false, true), (.noPlatform, false, true),
         (.wrongSide, false, true), (.doorRestricted, false, true), (.none, true, false)])
    ∧ [moved 10000 open_, open_].map (fun x =>
        let t := after .positionSample x
        (t.brakes.doors, t.doors.causes.getLsbD 3, (getLeaf t.doors.leaves .l2).state))
      = [(⟨0, .latched⟩, true, .locking), (⟨40, .none⟩, false, .opened)] := by decide +kernel

/-- In DEPOT 2,000 mm/s is SERVICE without a trip; in LINE each limiting element, and the authority end retained. -/
theorem witness_SampleSupervision_level :
    let t := after .positionSample (moved 40000 (inMode .depot .up running))
    (t.sup.level = .service ∧ t.sup.mode = .depot ∧ t.brakes.supervisor.level = 80)
    ∧ [withEntry 0 stopUp running, withEntry 1 stopUp (withEntry 0 speed512 running), running].map (fun s =>
        let x := (after .positionSample s).sup
        (x.limiting, x.retained, x.mode))
      = [(.static 12, some 900000, .line), (.restriction .valley 512, some 900000, .line), (.target, none, .line)]
    ∧ (targets (evalOf (issueSample (withEntry 0 stopUp running))) none).map (·.kind)
      = [.authorityEnd, .stop, .sectionEntry, .sectionEntry, .lineEnd] := by decide +kernel

/-- A held commit at a change of direction: the span DOWN from 968,000 keeps it, the span UP from 700,000 does not. -/
theorem witness_ModeAndDirection_held :
    let held (s : State) : State := { s with staging := .held update41 5 }
    [(2, held (inMode .line .up (placed 968000 500))), (1, held (inMode .line .down (placed 700000 500)))].map
        (fun x => (setDirection x.1 x.2).2.staging) = [.held update41 5, .idle] := by decide +kernel

/-- A release in force at a change of mode: LINE to DEPOT keeps it, DEPOT to LINE tests the platform, STANDBY withdraws. -/
theorem witness_ModeAndDirection_releases :
    let depot (s : State) : State := inMode .depot .down s
    let bare : State := { released true with line := { (released true).line with
      records := [sec10, sec11, sec12, sec13, { sec14 with platform := none }] } }
    [(1, released true), (2, depot (released true)), (2, depot bare), (0, released true)].map (fun x =>
        let d := (setMode x.1 x.2).2.doors
        (d.left.inForce, d.left.cause, d.causes.getLsbD 2))
      = [(true, .none, false), (true, .none, false), (false, .noPlatform, true), (false, .mode, true)] := by
  decide +kernel

/-- The platform of the release, and leaves that move on at once: LKS already off, and OPS already on. -/
theorem witness_ReleaseSide_at_once :
    let goes (l : Leaf) (auto : Bool) : LeafState :=
      (getLeaf (after (.releaseSide 1 auto) (withLeaf l atPlatform)).doors.leaves .l2).state
    (after (.releaseSide 1 false) atPlatform).doors.left = ⟨true, false, some (7, 14), .none⟩
    ∧ [goes { shut with lks := false } false, goes { shut with lks := false } true,
        goes { shut with lks := false, ops := true } true, goes { shut with state := .unlocked, lks := false } true]
      = [.unlocked, .opening, .opened, .opening] := by decide +kernel

/-- A leaf that reaches LOCKED under a release, and one restored under it, pass on to UNLOCKING: car closed has held and
fallen again, and CLOSED_CHANGED says so. -/
theorem witness_LeafEvents_passed :
    let s (l : Leaf) : State := withLeaf l { released true with
      doors := { (released true).doors with
        closed := l.state == .isolated,
        leaves := mapLeaves (fun _ => { shut with state := .isolated }) atPlatform.doors.leaves } }
    let locking := s { Leaf.reset with state := .locking, timer := some (.tLock, 200), cls := true }
    let paused := s { shut with state := .opened, closePending := true, timer := some (.tPause, 0) }
    [after (.lksChange .l2 true) locking, after (.tPauseExpiry .l2) paused,
      after (.restoreLeaf 1) (s { shut with state := .isolated })].map (fun t =>
        ((getLeaf t.doors.leaves .l2).state, t.doors.closed, t.doors.causes.getLsbD 4,
          t.link.flags.getLsbD (flagIndex .doorEvent)))
      = [(.unlocking, false, true, true), (.unlocking, false, true, true), (.unlocking, false, true, true)] := by
  decide +kernel

/-- A telegram byte by byte, a second start marker, and a slot start with a collection open, LOCKED and in SEARCH. -/
theorem witness_BeaconsAndDiscards_bytes :
    let beacon := telegram [0xC0, 0, 0, 0x01, 9, 3] [17, 3, 1]
    let begun (s : State) : State := arriveAll [.rrxdByte true 1#8, .rrxdByte true 2#8, .rrxdByte false 3#8] s
    (arriveAll (telegramArrivals beacon) searching).pending = [.beacon 17 3 ⟨1, ⟨6, true⟩⟩]
    ∧ (begun running).radio.collection = some [2#8, 3#8] ∧ (rrxdByte false 3#8 running) = running
    ∧ ((after .slotStart (begun running)).radio.collection = none
      ∧ (after .slotStart (begun searching)).radio.collection = some [2#8, 3#8])
    ∧ rrxdByte true 1#8 State.reset = State.reset := by decide +kernel

end Sys2Proof.Tests
end

section
/-! PROOFS, layer 1. The geometry of the line (R7, R22) and the event flags (R193): two relations that hold between the
states before and after almost every operation, with one lemma per operation that may reach the block. -/

namespace Sys2Proof.Machine

set_option Elab.async false

/-! ### The geometry of a line -/

/-- The fields of a section record that an update never alters (R22). -/
def geometry (r : SectionRec) : Nat × Nat × Nat × Int × Kind := (r.number, r.start, r.length, r.gradient, r.kind)

theorem geometry_eq_iff (a b : SectionRec) : geometry a = geometry b ↔ sameGeometry a b := by
  simp [geometry, sameGeometry]

theorem forall₂_sameGeometry_iff (l m : List SectionRec) :
    List.Forall₂ sameGeometry l m ↔ m.map geometry = l.map geometry := by
  induction l generalizing m with
  | nil => simp [List.forall₂_nil_left_iff]
  | cons a l ih =>
    cases m with
    | nil => simp
    | cons b m => simp only [List.forall₂_cons, List.map_cons, List.cons.injEq, ih, ← geometry_eq_iff, eq_comm]

/-- The line keeps its state, its number of records and the geometry of each. -/
structure LineKept (s t : State) : Prop where
  state : t.line.state = s.line.state
  geometry : t.line.records.map geometry = s.line.records.map geometry

namespace LineKept

theorem of_eq {s t : State} (h : t.line = s.line) : LineKept s t := ⟨by rw [h], by rw [h]⟩

theorem refl (s : State) : LineKept s s := of_eq rfl

theorem trans {s t u : State} (h : LineKept s t) (k : LineKept t u) : LineKept s u :=
  ⟨k.state.trans h.state, k.geometry.trans h.geometry⟩

theorem of_frame {bs : List Block} {s t : State} (h : OnlyChanges bs s t) (hb : Block.line ∉ bs := by decide) :
    LineKept s t := of_eq (h .line hb)

variable {s t : State} (h : LineKept s t)
include h

theorem isSealed_eq : isSealed t = isSealed s := by unfold isSealed; rw [h.state]

theorem length_eq : t.line.records.length = s.line.records.length := by simpa using congrArg List.length h.geometry

theorem recordAt_geometry (i : Nat) : (recordAt t i).map Machine.geometry = (recordAt s i).map Machine.geometry := by
  simpa [recordAt] using congrArg (·[i]?) h.geometry

/-- Whatever is read from the geometry of a record is read the same. -/
theorem recordAt_map {α : Type} (f : SectionRec → α) (g : Nat × Nat × Nat × Int × Kind → α)
    (hf : ∀ r, f r = g (Machine.geometry r)) (i : Nat) : (recordAt t i).map f = (recordAt s i).map f := by
  have hfg : f = g ∘ Machine.geometry := funext hf
  simpa [hfg, Option.map_map] using congrArg (Option.map g) (h.recordAt_geometry i)

theorem startAt_eq (i : Nat) : startAt t i = startAt s i := h.recordAt_map _ (·.2.1) (fun _ => rfl) i

theorem upperAt_eq (i : Nat) : upperAt t i = upperAt s i :=
  h.recordAt_map _ (fun x => x.2.1 + x.2.2.1) (fun _ => rfl) i

theorem startBelow_eq (i : Nat) : startBelow t i = startBelow s i := by
  unfold startBelow; rw [h.startAt_eq]

end LineKept

/-! ### The operations that may reach the Section Table -/

theorem appliedRecords_geometry (u : StagedUpdate) (rs : List SectionRec) :
    (appliedRecords u rs).map geometry = rs.map geometry := by
  rw [appliedRecords, List.map_map]
  refine List.map_congr_left fun r _ => ?_
  cases hr : stagedFor u r.number <;> simp [hr, withAttributes, geometry]

theorem deriveWindow_lineKept (s : State) : LineKept s (deriveWindow s) := by
  unfold deriveWindow; dsimp only; split <;> exact ⟨rfl, rfl⟩

theorem dropStaging_lineKept (s : State) : LineKept s (dropStaging s) := .of_frame (dropStaging_frame s)

/-- The Section Table with a staged update's attributes and the new line check (R22). -/
def relaid (u : StagedUpdate) (s : State) : State :=
  s.setLine { s.line with
    records := appliedRecords u s.line.records, check := lineCheckOf (appliedRecords u s.line.records) }

/-- An application before the Radio Frame Controller is told (R22). -/
def applied (u : StagedUpdate) (s : State) : State :=
  let s1 := deriveWindow (relaid u s)
  dropStaging (setFlag .lineUpdate (s1.setLine { s1.line with update := some (.commitDone u.id) }))

theorem applyUpdate_eq (u : StagedUpdate) (s : State) :
    applyUpdate u s =
      if (currentRecord (applied u s)).map (·.cell) = (currentRecord s).map (·.cell) then applied u s
      else radioCrossingCurrent (applied u s) := rfl

theorem applied_lineKept (u : StagedUpdate) (s : State) : LineKept s (applied u s) := by
  have h1 : LineKept s (relaid u s) := ⟨rfl, appliedRecords_geometry u _⟩
  have h2 : LineKept (deriveWindow (relaid u s)) (applied u s) := ⟨rfl, rfl⟩
  exact (h1.trans (deriveWindow_lineKept _)).trans h2

/-- An application alters attributes alone (R22). -/
theorem applyUpdate_lineKept (u : StagedUpdate) (s : State) : LineKept s (applyUpdate u s) := by
  rw [applyUpdate_eq]; split
  · exact applied_lineKept u s
  · exact (applied_lineKept u s).trans (.of_frame (radioCrossingCurrent_frame _))

theorem retestHeld_lineKept (s : State) : LineKept s (retestHeld s) := by
  unfold retestHeld; repeat' split
  · exact .refl _
  · exact (applyUpdate_lineKept _ s).trans (.of_frame (ackHeld_frame _ _ _ _))
  · exact .refl _

theorem commitUpdate_lineKept (o : Owner) (id crc : Nat) (s : State) : LineKept s (commitUpdate o id crc s).2 := by
  unfold commitUpdate; repeat' split
  all_goals first
    | exact .refl _
    | exact applyUpdate_lineKept _ s
    | exact dropStaging_lineKept s
    | exact .of_frame (setStaging_frame _ s)

theorem holdExpired_lineKept (s : State) : LineKept s (holdExpired s) := by
  unfold holdExpired; split
  · next u n hu =>
    have h : LineKept s (setFlag .lineUpdate
        (dropStaging (s.setLine { s.line with update := some (.commitTimeout u.id) }))) := ⟨rfl, rfl⟩
    exact h.trans (.of_frame (ackHeld_frame _ _ _ _))
  · exact .refl _

theorem selectDir_lineKept (d : Dir) (s : State) : LineKept s (selectDir d s) :=
  (((LineKept.of_frame (setSup_frame _ s)).trans (deriveWindow_lineKept _)).trans (retestHeld_lineKept _)).trans
    ((LineKept.of_frame (judgePermit_frame _)).trans (.of_frame (setFlag_frame _ _)))

theorem enterMode_frame (m : Mode) (s : State) : OnlyChanges [.sup, .brakes] s (enterMode m s) :=
  (setSup_frame _ s).andThen (writeSupervisor_frame _)

theorem neutralInStandby_lineKept (m : Mode) (s : State) : LineKept s (neutralInStandby m s) := by
  unfold neutralInStandby; split
  · exact selectDir_lineKept _ s
  · exact .refl _

theorem changeMode_lineKept (m : Mode) (s : State) : LineKept s (changeMode m s) :=
  (((LineKept.of_frame (enterMode_frame m s)).trans (neutralInStandby_lineKept m _)).trans (retestHeld_lineKept _)).trans
    (((LineKept.of_frame (retestReleases_frame _)).trans (.of_frame (judgePermit_frame _))).trans
      (.of_frame (setFlag_frame _ _)))

theorem tripIf_lineKept (b : Bool) (c : TripCause) (s : State) : LineKept s (tripIf b c s) := by
  unfold tripIf trip; split
  · exact (LineKept.of_frame (setSup_frame _ s)).trans (changeMode_lineKept _ _)
  · exact .refl _

theorem releaseSupervisor_lineKept (s : State) : LineKept s (releaseSupervisor s) := by
  unfold releaseSupervisor; split
  · exact (LineKept.of_frame (setSup_frame _ s)).trans (changeMode_lineKept _ _)
  · exact .refl _

theorem stageTrip_lineKept (s : State) : LineKept s (stageTrip s) := by
  unfold stageTrip; split
  · exact .refl _
  · exact tripIf_lineKept _ _ s

theorem stageAct_lineKept (s : State) : LineKept s (stageAct s) := by
  have h : LineKept s (stageIntervene (stageLevel s)) :=
    ((LineKept.of_frame (stageLevel_frame s)).trans (tripIf_lineKept _ _ _)).trans (tripIf_lineKept _ _ _)
  unfold stageAct; dsimp only; split
  · exact h
  · exact h.trans (.of_frame (writeSupervisor_frame _))

theorem superviseSample_lineKept (s : State) : LineKept s (superviseSample s) :=
  ((LineKept.of_frame (stageRollback_frame s)).trans (stageTrip_lineKept _)).trans
    (((LineKept.of_frame (stageStandstill_frame _)).trans (.of_frame (evaluate_frame _))).trans (stageAct_lineKept _))

theorem takeSample_lineKept (s : State) : LineKept s (takeSample s) :=
  ((LineKept.of_frame (issueSample_frame s)).trans (superviseSample_lineKept _)).trans
    (((LineKept.of_frame (retirePassed_frame _)).trans (.of_frame (retestReleases_frame _))).trans
      (.of_frame (judgeInterlock_frame _)))

theorem deficitExpired_lineKept (s : State) : LineKept s (deficitExpired s) := by
  unfold deficitExpired setDeficit sbNotice; split
  · exact ((LineKept.of_frame (setBrakes_frame _ s)).trans (.of_frame (addBrakeCause_frame _ _))).trans
      ((LineKept.of_frame (setSup_frame _ _)).trans (tripIf_lineKept _ _ _))
  · exact .refl _

theorem releaseTrip_lineKept (s : State) : LineKept s (releaseTrip s) :=
  ((LineKept.of_frame (releaseOdometry_frame s)).trans (releaseSupervisor_lineKept _)).trans
    ((LineKept.of_frame (setBrakes_frame _ _)).trans (.of_frame (combine_frame _)))

theorem issueCrossing_lineKept (s : State) : LineKept s (issueCrossing s) :=
  ((deriveWindow_lineKept s).trans (retestHeld_lineKept _)).trans (.of_frame (radioCrossingCurrent_frame _))

theorem takeCompares_lineKept (held : Option Sense) (s : State) : LineKept s (takeCompares held s) := by
  unfold takeCompares crossUp crossDown; split
  · exact .refl _
  · exact (LineKept.of_frame (setOdo_frame _ s)).trans (issueCrossing_lineKept _)
  · exact (LineKept.of_frame (setOdo_frame _ s)).trans (issueCrossing_lineKept _)
  · exact .of_frame (enterOdoFault_frame _ _)

theorem activeCount_lineKept (sensor : Sensor) (x : Sense) (s : State) : LineKept s (activeCount sensor x s) := by
  unfold activeCount; dsimp only; split
  · exact .of_frame (setOdo_frame _ s)
  · exact ((LineKept.of_frame (setOdo_frame _ s)).trans (.of_frame (degradeAtBound_frame _))).trans
      (takeCompares_lineKept _ _)

theorem takeCount_lineKept (sensor : Sensor) (x : Sense) (s : State) : LineKept s (takeCount sensor x s) := by
  have h (u : State) (o : Odometry) : LineKept u (feedCheck sensor x (u.setOdo o)) :=
    (LineKept.of_frame (setOdo_frame _ _)).trans (.of_frame (feedCheck_frame _ _ _))
  unfold takeCount; dsimp only; repeat' split
  · exact ((h _ _).trans (activeCount_lineKept _ _ _)).trans (.of_frame (crossCheck_frame _))
  · exact (h _ _).trans (.of_frame (crossCheck_frame _))
  · exact (h _ _).trans (activeCount_lineKept _ _ _)
  · exact h _ _

theorem setPosition_lineKept (p u : Nat) (s : State) : LineKept s (setPosition p u s).2 := by
  unfold setPosition; repeat' split
  all_goals first
    | exact .refl _
    | exact ((LineKept.of_frame (setOdo_frame _ s)).trans (deriveWindow_lineKept _)).trans
        ((LineKept.of_frame (radioCrossingCurrent_frame _)).trans (.of_frame (judgePart_frame _ _)))

theorem handleCal_frame (m : Nat) (s : State) : OnlyChanges [.params, .odo, .link] s (handleCal m s) :=
  (evaluateCal_frame m s).trans (setOdo_frame _ _).mono

theorem applyMark_lineKept (m : Nat) (s : State) : LineKept s (applyMark m s) :=
  ((LineKept.of_frame (correctPosition_frame m s)).trans (takeCompares_lineKept _ _)).trans
    (.of_frame (handleCal_frame _ _))

theorem detectMark_lineKept (s : State) : LineKept s (detectMark s) := by
  have h (u : State) (r : MarkReport) : LineKept u (offerReport r u) := .of_frame (offerReport_frame _ _)
  unfold detectMark; dsimp only; repeat' split
  · exact .refl _
  · exact (LineKept.of_frame ((setOdo_frame _ s).andThen (addOdoCause_frame _ _) (ds := [.odo, .link]))).trans (h _ _)
  · exact ((LineKept.of_frame (setOdo_frame _ s)).trans (applyMark_lineKept _ _)).trans (h _ _)
  · exact (LineKept.of_frame (setOdo_frame _ s)).trans (h _ _)

theorem setParameter_lineKept (n v : Nat) (s : State) : LineKept s (setParameter n v s).2 := by
  have h (u : State) : LineKept u (paramTold n u) := by
    unfold paramTold; repeat' split
    all_goals first
      | exact .refl _
      | exact deriveWindow_lineKept _
      | exact .of_frame (setOdo_frame _ u)
      | exact .of_frame (relimitPart_frame .radioLoss u)
      | exact .of_frame (relimitPart_frame .odoDegraded u)
  unfold setParameter; repeat' split
  all_goals first | exact .refl _ | exact (LineKept.of_frame (setParams_frame _ s)).trans (h _)

end Sys2Proof.Machine
end

section
/-! PROOFS, layer 2. Which commands can reach the Section Table, the Odometry Unit, the window or the car parameters, said
once: every other command leaves those four blocks as they are. The geometry of the line follows. -/

namespace Sys2Proof.Machine

set_option Elab.async false

/-- The commands that may reach the parameters, the Section Table, the window or the Odometry Unit. -/
def reachesLine : Instr → Bool
  | .powerOnReset | .setParameter _ _ | .reset | .lineLoadBegin | .appendSection _ | .lineLoadEnd | .commitStage _ _
  | .setPosition _ _ | .readOdometry | .readMarkReport | .setMode _ | .setDirection _ | .releaseTrip
  | .quadratureCount _ _ | .phaseError _ | .markDetection | .positionSample | .holdTimerExpiry | .deficitTimerExpiry
  | .sectionCommit _ _ _ => true
  | _ => false

/-- The blocks the other commands may reach. -/
abbrev asideBlocks : List Block := [.link, .staging, .restr, .sup, .brakes, .doors, .radio, .tele, .analog]

/-- Only blocks aside the line, the window, the odometry and the parameters change. -/
abbrev ChangesAside (s t : State) : Prop := OnlyChanges asideBlocks s t

namespace ChangesAside

variable {bs : List Block} {s t : State} {r : Req} {res : Result} {data : List Byte} {x : Result × State}

theorem answer (h : OnlyChanges bs s t) (hb : bs ⊆ asideBlocks := by decide) :
    ChangesAside s (answer r res data t) := (h.mono hb).trans (answer_frame r res data t).mono

theorem answerResult (h : OnlyChanges bs s x.2) (hb : bs ⊆ asideBlocks := by decide) :
    ChangesAside s (answerResult r x) := answer h hb

theorem unanswered : ChangesAside s (Machine.answer r res data s) := (answer_frame r res data s).mono

theorem skip {p : Prop} [Decidable p] (h : OnlyChanges bs s t) (hb : bs ⊆ asideBlocks := by decide) :
    ChangesAside s (if p then s else t) := by
  split
  · exact .refl _ _
  · exact h.mono hb

theorem acked {k : AckKind} {n : Nat} {hd : TgHeader} (h : OnlyChanges bs s x.2)
    (hb : bs ⊆ asideBlocks := by decide) : ChangesAside s (ackResult k n hd x) :=
  (h.mono hb).trans (ackResult_frame k n hd x).mono

theorem received (h : TgHeader) (body : State → State) (s : State) (hb : ∀ t, ChangesAside t (body t)) :
    ChangesAside s (receive h body s) := receive_frame h body s _ (by decide) hb

end ChangesAside

/-! ### Commands with a case split of their own -/

theorem readPage_frame (page : Nat) (s : State) : ∃ t, execReadPage page s = .next t ∧ OnlyChanges [.link] s t := by
  refine ⟨_, rfl, ?_⟩
  repeat' split
  all_goals exact respond_frame _ _ _ s

theorem hostFrameRefused_frame (why : FrameFault) (s : State) :
    ∃ t, execHostFrameRefused why s = .next t ∧ OnlyChanges [.link] s t := by
  refine ⟨_, rfl, ?_⟩
  cases why <;> exact respond_frame _ _ _ s

theorem setTime_aside (value : Nat) (s : State) : ∃ t, execSetTime value s = .next t ∧ ChangesAside s t := by
  refine ⟨_, rfl, ?_⟩
  split
  · exact .unanswered
  · exact .answer (setClock_frame value s)

theorem lineClockAdvance_frame (s : State) :
    ∃ t, execLineClockAdvance s = .next t ∧ OnlyChanges [.restr, .link] s t := by
  refine ⟨_, rfl, ?_⟩
  split
  · exact (setRestr_frame _ s).mono
  · exact setClock_frame _ s

theorem nextRestriction_frame (s : State) : ∃ t, execNextRestriction s = .next t ∧ OnlyChanges [.link] s t := by
  refine ⟨_, rfl, ?_⟩
  split <;> exact (setLink_frame _ s).trans (answer_frame _ _ _ _)

theorem readRestrictionLog_aside (s : State) : ∃ t, execReadRestrictionLog s = .next t ∧ ChangesAside s t := by
  refine ⟨_, rfl, ?_⟩
  split <;> exact .answer (setRestr_frame _ s)

theorem readDoorFault_aside (leaf : Nat) (s : State) :
    ∃ t, execReadDoorFault leaf s = .next t ∧ ChangesAside s t := by
  refine ⟨_, rfl, ?_⟩
  unfold readDoorFault; dsimp only; repeat' split
  all_goals first
    | exact .unanswered
    | exact .answer (setDoors_frame _ s)

theorem readSectionNext_frame (s : State) : ∃ t, execReadSectionNext s = .next t ∧ OnlyChanges [.link] s t := by
  refine ⟨_, rfl, ?_⟩
  split
  · exact (setLink_frame _ s).trans (answer_frame _ _ _ _)
  · exact answer_frame _ _ _ s

theorem setSectionCursor_frame (i : Nat) (s : State) :
    ∃ t, execSetSectionCursor i s = .next t ∧ OnlyChanges [.link] s t := by
  refine ⟨_, rfl, ?_⟩
  split
  · exact (setLink_frame _ s).trans (answer_frame _ _ _ _)
  · exact answer_frame _ _ _ s

theorem setRestrictionCursor_frame (i : Nat) (s : State) :
    ∃ t, execSetRestrictionCursor i s = .next t ∧ OnlyChanges [.link] s t := by
  refine ⟨_, rfl, ?_⟩
  split
  · exact (setLink_frame _ s).trans (answer_frame _ _ _ _)
  · exact answer_frame _ _ _ s

/-- A read that answers in every branch and changes nothing else. -/
theorem execRead_frame (s : State) :
    (∀ n, ∃ t, execReadParameter n s = .next t ∧ OnlyChanges [.link] s t)
      ∧ (∀ i, ∃ t, execReadSection i s = .next t ∧ OnlyChanges [.link] s t)
      ∧ (∀ k, ∃ t, execReadWindow k s = .next t ∧ OnlyChanges [.link] s t)
      ∧ (∀ i id, ∃ t, execLookupRestriction i id s = .next t ∧ OnlyChanges [.link] s t)
      ∧ (∀ i, ∃ t, execReadRestriction i s = .next t ∧ OnlyChanges [.link] s t)
      ∧ (∀ i, ∃ t, execReadChannel i s = .next t ∧ OnlyChanges [.link] s t)
      ∧ (∀ i, ∃ t, execReadFilter i s = .next t ∧ OnlyChanges [.link] s t)
      ∧ (∀ i, ∃ t, execReadUplink i s = .next t ∧ OnlyChanges [.link] s t)
      ∧ (∀ i, ∃ t, execReadAnalog i s = .next t ∧ OnlyChanges [.link] s t) := by
  refine ⟨fun n => ⟨_, rfl, ?_⟩, fun i => ⟨_, rfl, ?_⟩, fun k => ⟨_, rfl, ?_⟩, fun i id => ⟨_, rfl, ?_⟩,
    fun i => ⟨_, rfl, ?_⟩, fun i => ⟨_, rfl, ?_⟩, fun i => ⟨_, rfl, ?_⟩, fun i => ⟨_, rfl, ?_⟩,
    fun i => ⟨_, rfl, ?_⟩⟩
  all_goals
    repeat' split
    all_goals exact answer_frame _ _ _ s

theorem releaseSide_frame (code : Nat) (auto : Bool) (s : State) :
    OnlyChanges [.doors, .brakes, .link] s (releaseSide code auto s).2 := by
  unfold releaseSide; repeat' split
  all_goals first | exact .refl _ _ | exact grantRelease_frame _ _ _

theorem execCloseSide_aside (side : Nat) (s : State) : ∃ t, execCloseSide side s = .next t ∧ ChangesAside s t := by
  refine ⟨_, rfl, ?_⟩
  split
  · exact .unanswered
  · exact .answer (closeSide_frame _ s)

theorem isolateLeaf_frame (id : LeafId) (s : State) :
    OnlyChanges [.doors, .brakes, .link] s (isolateLeaf id s).2 := by
  unfold isolateLeaf; dsimp only; repeat' split
  all_goals first | exact .refl _ _ | exact moveLeaf_frame _ _ _

theorem restoreLeaf_frame (id : LeafId) (s : State) :
    OnlyChanges [.doors, .brakes, .link] s (restoreLeaf id s).2 := by
  unfold restoreLeaf; dsimp only; repeat' split
  all_goals first | exact .refl _ _ | exact moveLeaf_frame _ _ _

theorem leafRequests_aside (leaf : Nat) (s : State) :
    (∃ t, execIsolateLeaf leaf s = .next t ∧ ChangesAside s t)
      ∧ (∃ t, execRestoreLeaf leaf s = .next t ∧ ChangesAside s t) := by
  refine ⟨⟨_, rfl, ?_⟩, ⟨_, rfl, ?_⟩⟩ <;> split
  · exact .unanswered
  · exact .answerResult (isolateLeaf_frame _ s)
  · exact .unanswered
  · exact .answerResult (restoreLeaf_frame _ s)

theorem setSlot_frame (slot route : Nat) (s : State) : OnlyChanges [.radio] s (setSlot slot route s).2 := by
  unfold setSlot; repeat' split
  all_goals first | exact .refl _ _ | exact setRadio_frame _ s

theorem setChannel_frame (cell channel : Nat) (s : State) :
    OnlyChanges [.radio, .link] s (setChannel cell channel s).2 := by
  unfold setChannel retune; dsimp only; repeat' split
  all_goals first
    | exact .refl _ _
    | exact (setRadio_frame _ s).mono
    | exact (setRadio_frame _ s).mono.trans ((setRadio_frame _ _).mono.trans (addRadioCause_frame _ _))

theorem setFilter_frame (i : Nat) (en : Bool) (k v m : Nat) (s : State) :
    OnlyChanges [.tele] s (setFilter i en k v m s).2 := by
  unfold setFilter; repeat' split
  all_goals first | exact .refl _ _ | exact setTele_frame _ s

theorem setSweep_frame (m e : Nat) (s : State) : OnlyChanges [.analog] s (setSweep m e s).2 := by
  unfold setSweep; repeat' split
  all_goals first | exact .refl _ _ | exact setAnalog_frame _ s

theorem setCalibration_frame (w : CalWire) (s : State) : OnlyChanges [.analog] s (setCalibration w s).2 := by
  unfold setCalibration; repeat' split
  all_goals first | exact .refl _ _ | exact setAnalog_frame _ s

theorem setWindowLimits_frame (c l h : Nat) (s : State) : OnlyChanges [.analog] s (setWindow c l h s).2 := by
  unfold setWindow; repeat' split
  all_goals first | exact .refl _ _ | exact setAnalog_frame _ s

theorem radioReset_frame (s : State) : OnlyChanges [.radio, .restr, .link] s (radioReset s) :=
  (setRadio_frame _ s).mono.trans (judgePart_frame _ _).mono

theorem takeGrant_frame (g : Grant) (s : State) : OnlyChanges [.radio] s (takeGrant g s).2 := by
  unfold takeGrant; dsimp only; repeat' split
  all_goals first | exact .refl _ _ | exact setRadio_frame _ s

theorem ackBlock_aside (n : Nat) (h : TgHeader) (b : BlockWire) (s : State) :
    ChangesAside s (ackBlock n h (stageBlock .valley b s)) := by
  have hs : ChangesAside s (stageBlock .valley b s).2 := (stageBlock_frame _ _ s).mono
  unfold ackBlock; split
  · exact hs
  · exact .acked hs

/-! ### Every command that does not reach the line -/

theorem exec_aside (c : Instr) (s : State) (hc : reachesLine c = false) :
    ∃ t, exec c s = .next t ∧ ChangesAside s t := by
  have refused {c : Instr} {p : Prop} (hc : reachesLine c = false) (h : reachesLine c = true) : p :=
    absurd (h.symm.trans hc) (by decide)
  obtain ⟨rParam, rSection, rWindow, rLookup, rRestr, rChannel, rFilter, rUplink, rAnalog⟩ := execRead_frame s
  have link {o : Host.Outcome State Fault Refusal} (h : ∃ t, o = .next t ∧ OnlyChanges [.link] s t) :
      ∃ t, o = .next t ∧ ChangesAside s t := h.imp fun _ ht => ⟨ht.1, ht.2.mono⟩
  cases c with
  | powerOnReset => exact refused hc rfl
  | hostFrameRefused why => exact link (hostFrameRefused_frame why s)
  | nop => exact ⟨_, rfl, (respond_frame _ _ _ s).mono⟩
  | readPage page => exact link (readPage_frame page s)
  | ident => exact ⟨_, rfl, .unanswered⟩
  | readEvents => exact ⟨_, rfl, .unanswered⟩
  | clearEvents set => exact ⟨_, rfl, .answer (setLink_frame _ s)⟩
  | setEventMask set => exact ⟨_, rfl, .answer (setLink_frame _ s)⟩
  | readParameter n => exact link (rParam n)
  | setParameter n v => exact refused hc rfl
  | reset => exact refused hc rfl
  | lineLoadBegin => exact refused hc rfl
  | appendSection r => exact refused hc rfl
  | lineLoadEnd => exact refused hc rfl
  | readLine => exact ⟨_, rfl, .unanswered⟩
  | readSection i => exact link (rSection i)
  | readSectionNext => exact link (readSectionNext_frame s)
  | setSectionCursor i => exact link (setSectionCursor_frame i s)
  | readWindow k => exact link (rWindow k)
  | stageSection b => exact ⟨_, rfl, .answerResult (stageBlock_frame _ b s)⟩
  | commitStage id crc => exact refused hc rfl
  | abortStage id => exact ⟨_, rfl, .answerResult (abortUpdate_frame _ id s)⟩
  | readStage => exact ⟨_, rfl, .unanswered⟩
  | setPosition p u => exact refused hc rfl
  | readOdometry => exact refused hc rfl
  | readMarkReport => exact refused hc rfl
  | putRestriction w => exact ⟨_, rfl, .answerResult (putRestriction_frame _ w s)⟩
  | retireRestriction id => exact ⟨_, rfl, .answerResult (withdrawEntry_frame _ _ id s)⟩
  | setTime v => exact setTime_aside v s
  | lookupRestriction i id => exact link (rLookup i id)
  | readRestriction i => exact link (rRestr i)
  | nextRestriction => exact link (nextRestriction_frame s)
  | setRestrictionCursor i => exact link (setRestrictionCursor_frame i s)
  | readRestrictionStatus => exact ⟨_, rfl, .unanswered⟩
  | readRestrictionLog => exact readRestrictionLog_aside s
  | setMode code => exact refused hc rfl
  | setDirection code => exact refused hc rfl
  | readSupervision => exact ⟨_, rfl, .unanswered⟩
  | brakeDemand l e => exact ⟨_, rfl, .answer (writeDemand_frame _ _ s)⟩
  | releaseTrip => exact refused hc rfl
  | readBrakes => exact ⟨_, rfl, .answer (setBrakes_frame _ s)⟩
  | releaseSide side auto => exact ⟨_, rfl, .answerResult (releaseSide_frame side auto s)⟩
  | closeSide side => exact execCloseSide_aside side s
  | closeAll => exact ⟨_, rfl, .answer ((closeSide_frame .left s).trans (closeSide_frame .right _))⟩
  | isolateLeaf leaf => exact (leafRequests_aside leaf s).1
  | restoreLeaf leaf => exact (leafRequests_aside leaf s).2
  | readDoors => exact ⟨_, rfl, .answer (setDoors_frame _ s)⟩
  | readDoorFault leaf => exact readDoorFault_aside leaf s
  | setSlot slot route => exact ⟨_, rfl, .answerResult (setSlot_frame slot route s)⟩
  | radioReset => exact ⟨_, rfl, .answer (radioReset_frame s)⟩
  | setChannel cell ch => exact ⟨_, rfl, .answerResult (setChannel_frame cell ch s)⟩
  | readRadio => exact ⟨_, rfl, .answer (setRadio_frame _ s)⟩
  | readChannel i => exact link (rChannel i)
  | setFilter i en k v m => exact ⟨_, rfl, .answerResult (setFilter_frame i en k v m s)⟩
  | readFilter i => exact link (rFilter i)
  | readTelegrams => exact ⟨_, rfl, .unanswered⟩
  | readUplink i => exact link (rUplink i)
  | setSweep m e => exact ⟨_, rfl, .answerResult (setSweep_frame m e s)⟩
  | setCalibration w => exact ⟨_, rfl, .answerResult (setCalibration_frame w s)⟩
  | setWindow ch l h => exact ⟨_, rfl, .answerResult (setWindowLimits_frame ch l h s)⟩
  | readAnalog i => exact link (rAnalog i)
  | quadratureCount sensor x => exact refused hc rfl
  | phaseError sensor => exact refused hc rfl
  | markDetection => exact refused hc rfl
  | clsChange leaf on => exact ⟨_, rfl, .skip (moveLeaf_frame _ _ s)⟩
  | lksChange leaf on => exact ⟨_, rfl, .skip (moveLeaf_frame _ _ s)⟩
  | opsChange leaf on => exact ⟨_, rfl, .skip (moveLeaf_frame _ _ s)⟩
  | pbPressed leaf on => exact ⟨_, rfl, .skip (moveLeaf_frame _ _ s)⟩
  | conversionComplete raw => exact ⟨_, rfl, (completeConversion_frame raw s).mono⟩
  | positionSample => exact refused hc rfl
  | lineClockAdvance => exact (lineClockAdvance_frame s).imp fun _ h => ⟨h.1, h.2.mono⟩
  | holdTimerExpiry => exact refused hc rfl
  | tRelExpiry => exact ⟨_, rfl, (relExpired_frame s).mono⟩
  | tAppExpiry => exact ⟨_, rfl, (appExpired_frame s).mono⟩
  | deficitTimerExpiry => exact refused hc rfl
  | tLockExpiry leaf => exact ⟨_, rfl, (moveLeaf_frame _ _ s).mono⟩
  | tOpenExpiry leaf => exact ⟨_, rfl, (moveLeaf_frame _ _ s).mono⟩
  | tCloseExpiry leaf => exact ⟨_, rfl, (moveLeaf_frame _ _ s).mono⟩
  | tReopenExpiry leaf => exact ⟨_, rfl, (moveLeaf_frame _ _ s).mono⟩
  | tPauseExpiry leaf => exact ⟨_, rfl, (moveLeaf_frame _ _ s).mono⟩
  | slotStart => exact ⟨_, rfl, (startSlot_frame s).mono⟩
  | initSequenceEnd =>
    refine ⟨_, rfl, ?_⟩
    split
    · exact (finishInit_frame s).mono
    · exact .refl _ _
  | holdoverTimerExpiry => exact ⟨_, rfl, (holdoverExpired_frame s).mono⟩
  | radioLossTimerExpiry =>
    refine ⟨_, rfl, ?_⟩
    split
    · exact (linkExpired_frame s).mono
    · exact .refl _ _
  | telegramDiscarded d => exact ⟨_, rfl, (discardTelegram_frame d s).mono⟩
  | beacon f cell src => exact ⟨_, rfl, (receiveBeacon_frame f cell src s).mono⟩
  | time h v => exact ⟨_, rfl, .received h _ s fun t => (setClock_frame v t).mono⟩
  | restrict h w => exact ⟨_, rfl, .received h _ s fun t => .acked (putRestriction_frame _ w t)⟩
  | revoke h id => exact ⟨_, rfl, .received h _ s fun t => .acked (withdrawEntry_frame _ _ id t)⟩
  | sectionBlock h b => exact ⟨_, rfl, .received h _ s fun t => ackBlock_aside _ h b t⟩
  | sectionCommit h id crc => exact refused hc rfl
  | sectionAbort h id => exact ⟨_, rfl, .received h _ s fun t => .acked (abortUpdate_frame _ id t)⟩
  | slotGrant h slot p ph => exact ⟨_, rfl, .received h _ s fun t => .acked (takeGrant_frame _ t)⟩
  | poll h => exact ⟨_, rfl, .received h _ s fun t => (queueReport_frame t).mono⟩
  | emergencyStop h => exact ⟨_, rfl, .received h _ s fun t => .acked (radioStop_frame t)⟩
  | stopRelease h => exact ⟨_, rfl, .received h _ s fun t => .acked (radioRelease_frame t)⟩

/-! ### The commands that do reach the line -/

theorem setMode_lineKept (code : Nat) (s : State) : LineKept s (setMode code s).2 := by
  unfold setMode; repeat' split
  all_goals first | exact .refl s | exact changeMode_lineKept _ s

theorem setDirection_lineKept (code : Nat) (s : State) : LineKept s (setDirection code s).2 := by
  unfold setDirection; repeat' split
  all_goals first | exact .refl s | exact selectDir_lineKept _ s

theorem ackCommit_lineKept (id : Nat) (h : TgHeader) (crc : Nat) (s : State) :
    LineKept s (ackCommit id h (commitUpdate .valley id crc s)) := by
  have hc := commitUpdate_lineKept .valley id crc s
  unfold ackCommit; split
  · exact hc.trans (.of_frame (setTele_frame _ _))
  · exact hc.trans (.of_frame (ackResult_frame _ _ _ _))


/-- The geometry and the state of the line under every command that neither loads nor seals it (R7, R22). -/
theorem exec_lineKept (c : Instr) (s : State) (h1 : c ≠ .powerOnReset) (h2 : c ≠ .lineLoadBegin)
    (h3 : ∀ w, c ≠ .appendSection w) (h4 : c ≠ .lineLoadEnd) : ∃ t, exec c s = .next t ∧ LineKept s t := by
  by_cases hc : reachesLine c = false
  · exact (exec_aside c s hc).imp fun _ h => ⟨h.1, .of_frame h.2⟩
  have answered {s t : State} {r : Req} {res : Result} {data : List Byte} (h : LineKept s t) :
      LineKept s (answer r res data t) := h.trans (.of_frame (answer_frame r res data t))
  cases c with
  | powerOnReset => exact absurd rfl h1
  | lineLoadBegin => exact absurd rfl h2
  | appendSection w => exact absurd rfl (h3 w)
  | lineLoadEnd => exact absurd rfl h4
  | setParameter n v => exact ⟨_, rfl, answered (setParameter_lineKept n v s)⟩
  | reset =>
    refine ⟨_, rfl, ?_⟩
    split
    · exact ⟨rfl, rfl⟩
    · exact answered (.refl s)
  | commitStage id crc => exact ⟨_, rfl, answered (commitUpdate_lineKept _ id crc s)⟩
  | setPosition p u => exact ⟨_, rfl, answered (setPosition_lineKept p u s)⟩
  | readOdometry => exact ⟨_, rfl, answered (.of_frame (setOdo_frame _ s))⟩
  | readMarkReport =>
    refine ⟨_, rfl, ?_⟩
    split
    · exact answered (.refl s)
    · exact answered (.of_frame (setOdo_frame _ s))
  | setMode code => exact ⟨_, rfl, answered (setMode_lineKept code s)⟩
  | setDirection code => exact ⟨_, rfl, answered (setDirection_lineKept code s)⟩
  | releaseTrip =>
    refine ⟨_, rfl, ?_⟩
    split
    · exact answered (releaseTrip_lineKept s)
    · exact answered (.refl s)
  | quadratureCount sensor x => exact ⟨_, rfl, takeCount_lineKept sensor x s⟩
  | phaseError sensor =>
    exact ⟨_, rfl, (LineKept.of_frame (setOdo_frame _ s)).trans (.of_frame (addOdoCause_frame _ _))⟩
  | markDetection => exact ⟨_, rfl, detectMark_lineKept s⟩
  | positionSample => exact ⟨_, rfl, takeSample_lineKept s⟩
  | holdTimerExpiry => exact ⟨_, rfl, holdExpired_lineKept s⟩
  | deficitTimerExpiry => exact ⟨_, rfl, deficitExpired_lineKept s⟩
  | sectionCommit h id crc =>
    refine ⟨_, rfl, ?_⟩
    unfold receive acceptTelegram; dsimp only; repeat' split
    · exact .of_frame ((setCounts_frame _ s).trans (setCounts_frame _ _))
    · refine LineKept.trans (t := (linkHeard _).setTele _) ?_ (ackCommit_lineKept id h crc _)
      exact (LineKept.of_frame ((setCounts_frame _ s).trans (setCounts_frame _ _))).trans
        ((LineKept.of_frame (linkHeard_frame _)).trans (.of_frame (setTele_frame _ _)))
    · exact .of_frame ((setCounts_frame _ s).trans (setCounts_frame _ _))
    · exact .refl s
  | _ => exact absurd rfl hc

end Sys2Proof.Machine
end

section
/-! PROOFS, layer 3. The facts about a well-laid line (R6) and about the odometry's operations: the test of the compares
and what follows it (R36, R38), a move and a growth (R31, R32), the fault (R48). -/

namespace Sys2Proof.Machine

set_option Elab.async false

/-! ### A well-laid line (R6) -/

/-- One section begins where the one below ends. -/
abbrev follows (r t : SectionRec) : Prop := t.start = r.start + r.length

theorem lineLaid_iff (rs : List SectionRec) :
    lineLaid rs = true ↔ (∀ r ∈ rs, 10000 ≤ r.length) ∧ rs.IsChain follows := by
  induction rs with
  | nil => simp [lineLaid]
  | cons r rs ih =>
    cases rs with
    | nil => simp [lineLaid]
    | cons t rest =>
      simp only [lineLaid, Bool.and_eq_true, decide_eq_true_eq, ih, List.isChain_cons_cons, List.forall_mem_cons]
      tauto

theorem lineLaid_append (rs : List SectionRec) (r : SectionRec) (h : lineLaid rs = true) (hr : 10000 ≤ r.length)
    (hf : ∀ l, rs.getLast? = some l → follows l r) : lineLaid (rs ++ [r]) = true := by
  obtain ⟨hlen, hch⟩ := (lineLaid_iff rs).1 h
  refine (lineLaid_iff _).2 ⟨?_, List.isChain_append.2 ⟨hch, .singleton _, ?_⟩⟩
  · intro x hx
    rcases List.mem_append.1 hx with hx | hx
    · exact hlen x hx
    · rw [List.mem_singleton.1 hx]; exact hr
  · simpa using hf

theorem lineLaid_congr {rs ts : List SectionRec} (h : ts.map geometry = rs.map geometry) : lineLaid ts = lineLaid rs := by
  have key (l : List SectionRec) : lineLaid l = true ↔
      (∀ g ∈ l.map geometry, 10000 ≤ g.2.2.1) ∧ (l.map geometry).IsChain (fun g k => k.2.1 = g.2.1 + g.2.2.1) := by
    rw [lineLaid_iff, List.isChain_map, List.forall_mem_map]; rfl
  exact Bool.eq_iff_iff.2 ((key ts).trans ((by rw [h]) : _ ↔ _) |>.trans (key rs).symm)

theorem LineKept.lineBounded {s t : State} (h : LineKept s t) (hb : LineBounded s) : LineBounded t := by
  intro r hr
  obtain ⟨x, hx, hg⟩ := List.mem_map.1 (h.geometry ▸ List.mem_map_of_mem (f := Machine.geometry) hr)
  have hb := hb x hx
  simp only [Machine.geometry, Prod.mk.injEq] at hg
  omega

section Laid
variable {s : State} (hl : lineLaid s.line.records = true)
include hl

theorem startAt_succ {i : Nat} (hi : i + 1 < s.line.records.length) : startAt s (i + 1) = upperAt s i := by
  have h := List.isChain_iff_getElem.1 ((lineLaid_iff _).1 hl).2 i (by omega)
  simp [startAt, upperAt, recordAt, List.getElem?_eq_getElem hi, List.getElem?_eq_getElem (Nat.lt_of_succ_lt hi), h]

theorem section_length {i lo up : Nat} (hlo : startAt s i = some lo) (hup : upperAt s i = some up) :
    lo + 10000 ≤ up := by
  obtain ⟨r, hr, rfl⟩ := Option.map_eq_some_iff.1 hlo
  obtain ⟨x, hx, rfl⟩ := Option.map_eq_some_iff.1 hup
  obtain rfl : r = x := Option.some.inj (hr.symm.trans hx)
  have := ((lineLaid_iff _).1 hl).1 r (List.mem_of_getElem? hr)
  omega

end Laid

theorem upperAt_lt_length {s : State} {i up : Nat} (h : upperAt s i = some up) : i < s.line.records.length := by
  obtain ⟨r, hr, -⟩ := Option.map_eq_some_iff.1 h
  exact (List.getElem?_eq_some_iff.1 hr).1

theorem upperAt_le {s : State} (hb : LineBounded s) {i up : Nat} (h : upperAt s i = some up) : up ≤ 67108864 := by
  obtain ⟨r, hr, rfl⟩ := Option.map_eq_some_iff.1 h
  exact hb r (List.mem_of_getElem? hr)

/-! ### The test of the compares (R36, R38) -/

/-- What the compares say of a held section, case by case. -/
theorem testCompares_cases {held : Option Sense} {o : Odometry} {c lo up : Nat} (hc : o.cur = some c)
    (hlo : o.lower = some lo) (hup : o.upper = some up) :
    (∃ n, o.nextUpper = some n ∧ up * 1000 ≤ o.pUm ∧ testCompares held o = .up c up n)
      ∨ (o.nextUpper = none ∧ (up * 1000 ≤ o.pUm ∨ held = some .up) ∧ testCompares held o = .leaves)
      ∨ (¬(held = some .up ∧ o.nextUpper = none) ∧ o.pUm < up * 1000
          ∧ ∃ n, o.nextLower = some n ∧ o.pUm < lo * 1000 ∧ testCompares held o = .down c lo n)
      ∨ (¬(held = some .up ∧ o.nextUpper = none) ∧ o.pUm < up * 1000 ∧ o.nextLower = none
          ∧ (o.pUm < lo * 1000 ∨ held = some .down) ∧ testCompares held o = .leaves)
      ∨ (¬(held = some .up ∧ o.nextUpper = none) ∧ ¬(held = some .down ∧ o.nextLower = none)
          ∧ lo * 1000 ≤ o.pUm ∧ o.pUm < up * 1000 ∧ testCompares held o = .none) := by
  simp only [testCompares, hc, hlo, hup]
  by_cases h1 : up * 1000 ≤ o.pUm ∨ (held = some .up ∧ o.nextUpper = none)
  · rw [if_pos h1]
    cases hn : o.nextUpper with
    | none => exact .inr (.inl ⟨rfl, by tauto, rfl⟩)
    | some n => exact .inl ⟨n, rfl, by simpa [hn] using h1, rfl⟩
  · rw [if_neg h1]
    obtain ⟨hlt, hne⟩ := not_or.1 h1
    by_cases h2 : o.pUm < lo * 1000 ∨ (held = some .down ∧ o.nextLower = none)
    · rw [if_pos h2]
      cases hn : o.nextLower with
      | none => exact .inr (.inr (.inr (.inl ⟨hne, by omega, rfl, by tauto, rfl⟩)))
      | some n => exact .inr (.inr (.inl ⟨hne, by omega, n, rfl, by simpa [hn] using h2, rfl⟩))
    · rw [if_neg h2]
      obtain ⟨hge, hnd⟩ := not_or.1 h2
      exact .inr (.inr (.inr (.inr ⟨hne, hnd, by omega, by omega, rfl⟩)))

theorem testCompares_no_section {held : Option Sense} {o : Odometry} (h : o.cur = none) :
    testCompares held o = .none := by simp [testCompares, h]

/-- The odometry after a crossing of UPPER (R36). -/
def crossedUp (c upper next : Nat) (s : State) : Odometry :=
  { enterSection (c + 1) s s.odo with
    lower := some upper, upper := some next, nextLower := s.odo.lower, nextUpper := upperAt s (c + 2) }

/-- The odometry after a crossing of LOWER (R36). -/
def crossedDown (c lower next : Nat) (s : State) : Odometry :=
  { enterSection (c - 1) s s.odo with
    upper := some lower, lower := some next, nextLower := startBelow s (c - 1), nextUpper := s.odo.upper }

theorem crossUp_eq (c upper next : Nat) (s : State) :
    crossUp c upper next s = issueCrossing (s.setOdo (crossedUp c upper next s)) := rfl

theorem crossDown_eq (c lower next : Nat) (s : State) :
    crossDown c lower next s = issueCrossing (s.setOdo (crossedDown c lower next s)) := rfl

theorem issueCrossing_odo (s : State) : (issueCrossing s).odo = s.odo := issueCrossing_frame s .odo (by decide)

theorem takeCompares_none {held : Option Sense} {s : State} (h : testCompares held s.odo = .none) :
    takeCompares held s = s := by simp [takeCompares, h]

theorem takeCompares_up {held : Option Sense} {s : State} {c up n : Nat} (h : testCompares held s.odo = .up c up n) :
    takeCompares held s = issueCrossing (s.setOdo (crossedUp c up n s)) := by simp [takeCompares, h, crossUp_eq]

theorem takeCompares_down {held : Option Sense} {s : State} {c lo n : Nat}
    (h : testCompares held s.odo = .down c lo n) :
    takeCompares held s = issueCrossing (s.setOdo (crossedDown c lo n s)) := by simp [takeCompares, h, crossDown_eq]

theorem takeCompares_leaves {held : Option Sense} {s : State} (h : testCompares held s.odo = .leaves) :
    takeCompares held s = enterOdoFault .offLine s := by simp [takeCompares, h]

/-! ### The fault and the loss of VALID (R32, R48) -/

@[simp] theorem judgePart_odo (w : PartEntry) (s : State) : (judgePart w s).odo = s.odo :=
  judgePart_frame w s .odo (by decide)
@[simp] theorem latchDemand_odo (src : BrakeSource) (s : State) : (latchDemand src s).odo = s.odo :=
  latchDemand_frame src s .odo (by decide)

@[simp] theorem radioCrossingCurrent_odo (s : State) : (radioCrossingCurrent s).odo = s.odo :=
  radioCrossingCurrent_frame s .odo (by decide)
@[simp] theorem deriveWindow_odo (s : State) : (deriveWindow s).odo = s.odo := deriveWindow_frame s .odo (by decide)

theorem known_iff (st : OdoState) : known st = true ↔ st = .valid ∨ st = .degraded := by cases st <;> decide

theorem not_known_iff (st : OdoState) : known st = false ↔ st = .unset ∨ st = .fault := by cases st <;> decide

theorem enterOdoFault_unknown (f : OdoFault) {s : State} (h : known s.odo.state = false) : enterOdoFault f s = s := by
  simp [enterOdoFault, h]

theorem enterOdoFault_odo (f : OdoFault) {s : State} (h : known s.odo.state = true) :
    (enterOdoFault f s).odo =
      { s.odo with state := .fault, fault := some f, causes := s.odo.causes ||| odoCauseBit (faultCause f) } := by
  rw [enterOdoFault, if_pos h, judgePart_odo, latchDemand_odo]; rfl

theorem degradeAtBound_odo (s : State) :
    (degradeAtBound s).odo =
      if s.odo.state = .valid ∧ s.odo.uUm = uBound s.params then
        { s.odo with state := .degraded, causes := s.odo.causes ||| odoCauseBit .degraded }
      else s.odo := by
  unfold degradeAtBound; split
  · rw [judgePart_odo]; rfl
  · rfl

/-! ### A move and a growth (R31, R32) -/

/-- A move is held within 0..67,108,863,999, and only a move past a bound is held back at it. -/
theorem movePos_spec (p : Nat) (d : Int) :
    ((movePos p d).1 : Int) = max 0 (min 67108863999 (p + d))
      ∧ ((movePos p d).2 = some .up ↔ (67108863999 : Int) < p + d)
      ∧ ((movePos p d).2 = some .down ↔ (p : Int) + d < 0) := by
  have hm : (Config.pUmMax : Int) = 67108863999 := rfl
  unfold movePos; rw [hm]
  split
  · simp; omega
  · split
    · simp [Config.pUmMax]; omega
    · simp; omega

theorem growUncertainty_le (bound we u carry : Nat) : (growUncertainty bound we u carry).1 ≤ bound := by
  unfold growUncertainty; split <;> simp; omega

end Sys2Proof.Machine
end

section
/-! PROOFS, layer 4. The car parameters as one list, read and written by number (R196, R197). -/

namespace Sys2Proof.Machine

set_option Elab.async false

/-- The 39 parameters in the order of their numbers (section 11.7). -/
def paramList (p : Params) : List Nat :=
  [p.L, p.tOdo, p.nStill, p.vStill, p.wPin, p.wWhl, p.ePin, p.eWhl, p.uMax, p.markWindow, p.markTol, p.xPpm, p.aAdh,
   p.aRack, p.lockDistance, p.tCommit, p.vRadioLoss, p.vDegraded, p.vDepot, p.vEdge, p.tR, p.rollbackLimit, p.dvInd,
   p.dvSb, p.dvEb, p.sFull, p.tRel, p.tApp, p.pFull, p.pTol, p.tTrack, p.tOpen, p.tClose, p.obsLimit, p.sHold, p.guard,
   p.tHold, p.tLoss, p.carAddress]

theorem paramGet_eq (n : Nat) (p : Params) : paramGet (n + 1) p = (paramList p).getD n 0 := by
  by_cases h : n < 39
  · interval_cases n <;> rfl
  · have hl : (paramList p).length ≤ n := by simp [paramList]; omega
    rw [List.getD_eq_default _ _ hl]
    unfold paramGet; split <;> first | rfl | omega

theorem paramList_paramPut {n : Nat} (h : n < 39) (v : Nat) (p : Params) :
    paramList (paramPut (n + 1) v p) = (paramList p).set n v := by
  interval_cases n <;> rfl

theorem paramRow_spec {n : Nat} {r : ParamRow} (h : paramRow n = some r) :
    r ∈ paramTable ∧ r.number = n ∧ 1 ≤ n ∧ n ≤ 39 := by
  have hm : r ∈ paramTable := List.mem_of_find?_eq_some h
  have hn : r.number = n := by simpa using List.find?_some h
  have hall : ∀ r ∈ paramTable, 1 ≤ r.number ∧ r.number ≤ 39 := by decide
  exact ⟨hm, hn, hn ▸ hall r hm⟩

/-- No two rows have one number. -/
theorem paramRow_number : ∀ r ∈ paramTable, paramRow r.number = some r := by decide

theorem paramGet_paramPut {n : Nat} (h1 : 1 ≤ n) (h2 : n ≤ 39) (v : Nat) (p : Params) (m : Nat) :
    paramGet m (paramPut n v p) = if m = n then v else paramGet m p := by
  obtain ⟨n, rfl⟩ := Nat.exists_eq_add_of_le' h1
  cases m with
  | zero => rfl
  | succ m =>
    have hl : n < (paramList p).length := by simp [paramList]; omega
    rw [paramGet_eq, paramGet_eq, paramList_paramPut (by omega)]
    by_cases hmn : m = n
    · subst hmn; simp [List.getD_eq_getElem?_getD, hl]
    · simp [List.getD_eq_getElem?_getD, List.getElem?_set_ne (Ne.symm hmn), hmn]

theorem paramGet_paramPut_same {n : Nat} {r : ParamRow} (h : paramRow n = some r) (v : Nat) (p : Params) :
    paramGet n (paramPut n v p) = v := by
  obtain ⟨-, -, h1, h2⟩ := paramRow_spec h
  rw [paramGet_paramPut h1 h2, if_pos rfl]

theorem paramGet_paramPut_ne {n : Nat} {r : ParamRow} (h : paramRow n = some r) (v : Nat) (p : Params) {m : Nat}
    (hm : m ≠ n) : paramGet m (paramPut n v p) = paramGet m p := by
  obtain ⟨-, -, h1, h2⟩ := paramRow_spec h
  rw [paramGet_paramPut h1 h2, if_neg hm]

/-- A value in range that meets the conditions between parameters leaves the parameters sound (R28, R100, R197). -/
theorem paramPut_sound {n v : Nat} {r : ParamRow} {p : Params} (hr : paramRow n = some r) (hp : ParamsSound p)
    (hlo : r.low ≤ v) (hhi : v ≤ r.high) (hc : paramConditions n (paramPut n v p) = true) :
    ParamsSound (paramPut n v p) := by
  obtain ⟨hrows, htol, hdv⟩ := hp
  have hne {m : Nat} (hm : m ≠ n) := paramGet_paramPut_ne hr v p hm
  refine ⟨List.all_eq_true.2 fun x hx => ?_, ?_, ?_⟩
  · have hxr : rowInRange p x = true := List.all_eq_true.1 hrows x hx
    by_cases hxn : x.number = n
    · obtain rfl : x = r := Option.some.inj ((paramRow_number x hx).symm.trans (hxn ▸ hr))
      simp [rowInRange, hxn, paramGet_paramPut_same hr, hlo, hhi]
    · simpa only [rowInRange, hne hxn] using hxr
  · by_cases hn : n = 9 ∨ n = 11
    · have := hc; simp only [paramConditions, Bool.and_eq_true, Bool.or_eq_true] at this
      rcases hn with rfl | rfl <;> simpa using this.1
    · have h9 : (paramPut n v p).uMax = p.uMax := hne (m := 9) (by tauto)
      have h11 : (paramPut n v p).markTol = p.markTol := hne (m := 11) (by tauto)
      omega
  · by_cases hn : n = 24 ∨ n = 25
    · have := hc; simp only [paramConditions, Bool.and_eq_true, Bool.or_eq_true] at this
      rcases hn with rfl | rfl <;> simpa using this.2
    · have h24 : (paramPut n v p).dvSb = p.dvSb := hne (m := 24) (by tauto)
      have h25 : (paramPut n v p).dvEb = p.dvEb := hne (m := 25) (by tauto)
      omega

/-- Wheel calibration moves `w_whl` alone, which has no range of its own there (R45, log 37). -/
theorem wWhl_sound {p : Params} (hp : ParamsSound p) (w : Nat) : ParamsSound { p with wWhl := w } := by
  obtain ⟨hrows, htol, hdv⟩ := hp
  refine ⟨List.all_eq_true.2 fun x hx => ?_, htol, hdv⟩
  have hxr : rowInRange p x = true := List.all_eq_true.1 hrows x hx
  have h6 : ({ p with wWhl := w } : Params) = paramPut 6 w p := rfl
  by_cases hx6 : x.number = 6
  · simp [rowInRange, hx6]
  · have hg : paramGet x.number (paramPut 6 w p) = paramGet x.number p := by
      rw [paramGet_paramPut (n := 6) (by decide) (by decide), if_neg hx6]
    rw [h6]; simpa only [rowInRange, hg] using hxr

/-- The bounds the odometry's marks rely on (R28, R197). -/
theorem markWindow_le {p : Params} (hp : ParamsSound p) : p.markWindow ≤ 2000 ∧ p.uMax ≤ 5000 := by
  have h9 : rowInRange p ⟨9, 500, 5000, 3000⟩ = true := List.all_eq_true.1 hp.1 _ (by decide)
  have h10 : rowInRange p ⟨10, 100, 2000, 1000⟩ = true := List.all_eq_true.1 hp.1 _ (by decide)
  simp only [rowInRange, paramGet, Bool.or_eq_true, Bool.and_eq_true, decide_eq_true_eq, beq_iff_eq] at h9 h10
  omega

/-- What the owner does with a new value reaches the odometry for `n_still` and `u_max` alone (R14, R28, R34, R65). -/
theorem paramTold_frame (n : Nat) (s : State) (h3 : n ≠ 3) (h9 : n ≠ 9) :
    OnlyChanges [.window, .line, .link, .restr] s (paramTold n s) := by
  unfold paramTold; split
  · exact absurd rfl h3
  · exact absurd rfl h9
  · exact (deriveWindow_frame s).mono
  · exact (deriveWindow_frame s).mono
  · exact (relimitPart_frame _ s).mono
  · exact (relimitPart_frame _ s).mono
  · exact .refl _ _

end Sys2Proof.Machine
end

section
/-! PROOFS. The position stays sound (R6, R27, R31, R32, R34 to R36, R38): what holds of every state but the place of the
position between its compares (`Anchored`), and that a move shorter than a section brings the compares to it again. -/

namespace Sys2Proof.Machine

set_option Elab.async false

/-! ### The invariant in two parts -/

/-- `PositionSound` but for the place of the position between the compares. -/
structure Anchored (s : State) : Prop where
  laid : lineLaid s.line.records = true
  bounded : LineBounded s
  loaded : ComparesLoaded s
  uncertain : UncertaintyBounded s
  quiet : QuietBounded s
  unset : UnsetIsEmpty s
  needsLine : PositionNeedsLine s

theorem positionSound_iff (s : State) : PositionSound s ↔ Anchored s ∧ PositionTracked s :=
  ⟨fun ⟨h1, h2, h3, h4, h5, h6, h7, h8⟩ => ⟨⟨h1, h2, h3, h5, h6, h7, h8⟩, h4⟩,
    fun ⟨h, h4⟩ => ⟨h.laid, h.bounded, h.loaded, h4, h.uncertain, h.quiet, h.unset, h.needsLine⟩⟩

/-- The current section and the four compares (R35). -/
def compares (o : Odometry) : Option Nat × Option Nat × Option Nat × Option Nat × Option Nat :=
  (o.cur, o.lower, o.upper, o.nextLower, o.nextUpper)

/-- With a section held, the compares are those of the table (R35). -/
theorem comparesLoaded_iff {s : State} {c : Nat} (h : s.odo.cur = some c) :
    ComparesLoaded s ↔ c < s.line.records.length ∧ s.odo.lower = startAt s c ∧ s.odo.upper = upperAt s c
      ∧ s.odo.nextLower = startBelow s c ∧ s.odo.nextUpper = upperAt s (c + 1) := by
  simp only [ComparesLoaded, h]

theorem ComparesLoaded.keep {s t : State} (h : ComparesLoaded s) (hl : LineKept s t)
    (hc : compares t.odo = compares s.odo) : ComparesLoaded t := by
  simp only [compares, Prod.mk.injEq] at hc
  obtain ⟨c1, c2, c3, c4, c5⟩ := hc
  unfold ComparesLoaded at h ⊢
  rw [c1]
  split at h
  · trivial
  · rw [c2, c3, c4, c5, hl.startAt_eq, hl.upperAt_eq, hl.startBelow_eq, hl.upperAt_eq, hl.length_eq]; exact h

/-- What a held section means. -/
theorem Anchored.section_held {s : State} (h : Anchored s) (hs : s.odo.state ≠ .unset) :
    ∃ c lo up, s.odo.cur = some c ∧ s.odo.lower = some lo ∧ s.odo.upper = some up
      ∧ startAt s c = some lo ∧ upperAt s c = some up ∧ s.odo.nextLower = startBelow s c
      ∧ s.odo.nextUpper = upperAt s (c + 1) ∧ lo + 10000 ≤ up ∧ up ≤ 67108864 := by
  obtain ⟨c, hc⟩ := Option.isSome_iff_exists.1 (h.unset.2 hs)
  obtain ⟨hlt, hlo, hup, hnl, hnu⟩ := (comparesLoaded_iff hc).1 h.loaded
  have hr : recordAt s c = some s.line.records[c] := List.getElem?_eq_getElem hlt
  have hst : startAt s c = some s.line.records[c].start := by rw [startAt, hr]; rfl
  have hen : upperAt s c = some (s.line.records[c].start + s.line.records[c].length) := by rw [upperAt, hr]; rfl
  exact ⟨c, _, _, hc, hlo.trans hst, hup.trans hen, hst, hen, hnl, hnu, section_length h.laid hst hen,
    upperAt_le h.bounded hen⟩

/-- A step that keeps the line and the compares keeps the anchor. -/
theorem Anchored.keep {s t : State} (h : Anchored s) (hl : LineKept s t) (hc : compares t.odo = compares s.odo)
    (hs : t.odo.state = .unset ↔ s.odo.state = .unset)
    (hz : s.odo.state = .unset → t.odo.pUm = s.odo.pUm ∧ t.odo.uUm = s.odo.uUm)
    (hu : UncertaintyBounded t) (hq : QuietBounded t) : Anchored t where
  laid := (lineLaid_congr hl.geometry).trans h.laid
  bounded := hl.lineBounded h.bounded
  loaded := h.loaded.keep hl hc
  uncertain := hu
  quiet := hq
  unset := by
    have hcur : t.odo.cur = s.odo.cur := congrArg Prod.fst hc
    refine ⟨fun ht => ?_, fun ht => hcur ▸ h.unset.2 (mt hs.2 ht)⟩
    obtain ⟨hp, hu, hn⟩ := h.unset.1 (hs.1 ht)
    exact ⟨(hz (hs.1 ht)).1.trans hp, (hz (hs.1 ht)).2.trans hu, hcur.trans hn⟩
  needsLine := fun ht => hs.2 (h.needsLine (hl.isSealed_eq ▸ ht))

/-- The fields of the odometry the invariant reads besides the quiet-sample count. -/
def track (o : Odometry) : OdoState × Nat × Nat × (Option Nat × Option Nat × Option Nat × Option Nat × Option Nat) :=
  (o.state, o.pUm, o.uUm, compares o)

theorem PositionTracked.keep {s t : State} (h : PositionTracked s) (hc : compares t.odo = compares s.odo)
    (hp : t.odo.pUm = s.odo.pUm) (hs : t.odo.state = s.odo.state ∨ (s.odo.state ≠ .unset ∧ t.odo.state = .fault)) :
    PositionTracked t := by
  intro ht
  simp only [compares, Prod.mk.injEq] at hc
  obtain ⟨-, c2, c3, c4, c5⟩ := hc
  have hne : s.odo.state ≠ .unset := hs.elim (fun e => e ▸ ht) (·.1)
  obtain ⟨lo, up, hlo, hup, hl, hu⟩ := h hne
  have hf (hx : s.odo.state = .fault) : t.odo.state = .fault := hs.elim (fun e => e.trans hx) (·.2)
  exact ⟨lo, up, c2.trans hlo, c3.trans hup, hp ▸ hl.imp_right fun x => ⟨hf x.1, c4.trans x.2⟩,
    hp ▸ hu.imp_right fun x => ⟨hf x.1, c5.trans x.2⟩⟩

/-- A step that keeps the line and what the invariant reads of the odometry. -/
theorem PositionSound.keep {s t : State} (h : PositionSound s) (hl : LineKept s t) (ho : track t.odo = track s.odo)
    (hu : s.params.uMax ≤ t.params.uMax) (hq : QuietBounded t) : PositionSound t := by
  obtain ⟨ha, ht⟩ := (positionSound_iff s).1 h
  simp only [track, Prod.mk.injEq] at ho
  obtain ⟨hs, hp, hun, hc⟩ := ho
  refine (positionSound_iff t).2 ⟨ha.keep hl hc (by rw [hs]) (fun _ => ⟨hp, hun⟩) ?_ hq, ht.keep hc hp (.inl hs)⟩
  have := ha.uncertain
  unfold UncertaintyBounded uBound at this ⊢
  omega

/-- A step that keeps line, odometry and parameters. -/
theorem PositionSound.same {s t : State} (h : PositionSound s) (hl : LineKept s t) (ho : t.odo = s.odo)
    (hp : t.params = s.params) : PositionSound t :=
  h.keep hl (by rw [ho]) (by rw [hp]) (by
    have hq : QuietBounded s := ((positionSound_iff s).1 h).1.quiet
    unfold QuietBounded; rw [ho, hp]; exact hq)

theorem PositionSound.frame {bs : List Block} {s t : State} (h : PositionSound s) (hf : OnlyChanges bs s t)
    (hl : Block.line ∉ bs := by decide) (ho : Block.odo ∉ bs := by decide) (hp : Block.params ∉ bs := by decide) :
    PositionSound t := h.same (.of_frame hf hl) (hf .odo ho) (hf .params hp)

/-! ### The compares brought to the position (R36, R38) -/

/-- The position lies less than one section's length beyond a compare that has a neighbour. -/
structure Near (held : Option Sense) (o : Odometry) : Prop where
  upper : ∀ up n, o.upper = some up → o.nextUpper = some n → o.pUm < up * 1000 + 10000000
  lower : ∀ lo n, o.lower = some lo → o.nextLower = some n → lo * 1000 ≤ o.pUm + 10000000
  heldUp : held = some .up → o.pUm = Config.pUmMax

/-- A fault from a position outside a line end, or anywhere in the section. -/
theorem enterOdoFault_sound {s : State} (f : OdoFault) (h : Anchored s) (hs : s.odo.state ≠ .unset)
    (ht : ∀ lo up, s.odo.lower = some lo → s.odo.upper = some up →
      (lo * 1000 ≤ s.odo.pUm ∨ s.odo.nextLower = none) ∧ (s.odo.pUm < up * 1000 ∨ s.odo.nextUpper = none)) :
    PositionSound (enterOdoFault f s) := by
  obtain ⟨c, lo, up, -, hlo, hup, -⟩ := h.section_held hs
  obtain ⟨hl, hu⟩ := ht lo up hlo hup
  by_cases hk : known s.odo.state = true
  · have ho := enterOdoFault_odo f hk
    have fr := enterOdoFault_frame f s
    have hp : (enterOdoFault f s).params = s.params := fr .params (by decide)
    refine (positionSound_iff _).2 ⟨h.keep (.of_frame fr) (by rw [ho]; rfl) (by simp [ho, hs]) (fun x => absurd x hs) ?_ ?_, ?_⟩
    · unfold UncertaintyBounded; rw [ho, hp]; exact h.uncertain
    · unfold QuietBounded; rw [ho, hp]; exact h.quiet
    · intro _
      rw [ho]
      exact ⟨lo, up, hlo, hup, hl.imp_right fun x => ⟨rfl, x⟩, hu.imp_right fun x => ⟨rfl, x⟩⟩
  · have hf : s.odo.state = .fault := ((not_known_iff _).1 (by simpa using hk)).resolve_left hs
    rw [enterOdoFault_unknown f (by simpa using hk)]
    exact (positionSound_iff _).2 ⟨h, fun _ =>
      ⟨lo, up, hlo, hup, hl.imp_right fun x => ⟨hf, x⟩, hu.imp_right fun x => ⟨hf, x⟩⟩⟩

/-- A new current section whose compares are those of the table and have the position between them. -/
theorem crossing_sound {s : State} (h : Anchored s) (hs : s.odo.state ≠ .unset) {o : Odometry} {c lo up : Nat}
    (hstate : o.state = s.odo.state) (hun : o.uUm = s.odo.uUm) (hquiet : o.quiet = s.odo.quiet)
    (hc : o.cur = some c) (hlo : o.lower = some lo) (hup : o.upper = some up)
    (tlo : startAt s c = some lo) (tup : upperAt s c = some up) (hnl : o.nextLower = startBelow s c)
    (hnu : o.nextUpper = upperAt s (c + 1)) (hge : lo * 1000 ≤ o.pUm) (hlt : o.pUm < up * 1000) :
    PositionSound (issueCrossing (s.setOdo o)) := by
  have ho : (issueCrossing (s.setOdo o)).odo = o := issueCrossing_odo _
  have hp : (issueCrossing (s.setOdo o)).params = s.params := issueCrossing_frame _ .params (by decide)
  have hl : LineKept s (issueCrossing (s.setOdo o)) :=
    (LineKept.of_frame (setOdo_frame o s)).trans (issueCrossing_lineKept _)
  refine (positionSound_iff _).2 ⟨⟨?_, ?_, ?_, ?_, ?_, ?_, ?_⟩, fun _ => ?_⟩
  · exact (lineLaid_congr hl.geometry).trans h.laid
  · exact hl.lineBounded h.bounded
  · refine (comparesLoaded_iff (c := c) (by rw [ho, hc])).2 ?_
    rw [ho, hl.startAt_eq, hl.upperAt_eq, hl.startBelow_eq, hl.upperAt_eq, hl.length_eq]
    exact ⟨upperAt_lt_length tup, hlo.trans tlo.symm, hup.trans tup.symm, hnl, hnu⟩
  · unfold UncertaintyBounded; rw [ho, hp, hun]; exact h.uncertain
  · unfold QuietBounded; rw [ho, hp, hquiet]; exact h.quiet
  · unfold UnsetIsEmpty; rw [ho, hstate, hc]
    exact ⟨fun x => absurd x hs, fun _ => rfl⟩
  · intro ht
    rw [ho, hstate]
    exact h.needsLine (hl.isSealed_eq ▸ ht)
  · rw [ho]
    exact ⟨lo, up, hlo, hup, .inl hge, .inl hlt⟩

/-- The compares tested on an anchored state whose position is near them (R36, R38). -/
theorem takeCompares_sound {held : Option Sense} {s : State} (h : Anchored s) (hs : s.odo.state ≠ .unset)
    (hn : Near held s.odo) : PositionSound (takeCompares held s) := by
  obtain ⟨c, lo, up, hc, hlo, hup, tlo, tup, hnl, hnu, hlen, hmax⟩ := h.section_held hs
  rcases testCompares_cases (held := held) hc hlo hup with
    ⟨n, hn1, hge, ht⟩ | ⟨hn1, hge, ht⟩ | ⟨-, hlt, n, hn1, hlt', ht⟩ | ⟨-, hlt, hn1, hlt', ht⟩ | ⟨-, -, hge, hlt, ht⟩
  · -- into the section above
    rw [takeCompares_up ht]
    have tn : upperAt s (c + 1) = some n := hnu ▸ hn1
    have tm : startAt s (c + 1) = some up := (startAt_succ h.laid (upperAt_lt_length tn)).trans tup
    have hnear := hn.upper up n hup hn1
    have hlen' := section_length h.laid tm tn
    refine crossing_sound h hs (o := crossedUp c up n s) rfl rfl rfl rfl rfl rfl tm tn ?_ rfl hge ?_
    · exact hlo.trans (by simp [startBelow, tlo])
    · show s.odo.pUm < n * 1000
      linarith
  · -- past the upper line end
    rw [takeCompares_leaves ht]
    refine enterOdoFault_sound _ h hs fun lo' up' hlo' hup' => ⟨.inl ?_, .inr hn1⟩
    obtain rfl : lo = lo' := Option.some.inj (hlo.symm.trans hlo')
    rcases hge with hge | hheld
    · linarith
    · rw [hn.heldUp hheld, Config.pUmMax]; linarith
  · -- into the section below
    rw [takeCompares_down ht]
    have hc0 : c ≠ 0 := by
      rintro rfl
      simp [startBelow, hn1] at hnl
    obtain ⟨b, rfl⟩ := Nat.exists_eq_succ_of_ne_zero hc0
    have tn : startAt s b = some n := by simpa [startBelow, hn1] using hnl.symm
    have tm : upperAt s b = some lo := (startAt_succ h.laid (upperAt_lt_length tup)).symm.trans tlo
    have hnear := hn.lower lo n hlo hn1
    have hlen' := section_length h.laid tn tm
    refine crossing_sound h hs (o := crossedDown (b + 1) lo n s) rfl rfl rfl rfl rfl rfl tn tm rfl ?_ ?_ hlt'
    · exact hup.trans tup.symm
    · show n * 1000 ≤ s.odo.pUm
      linarith
  · -- past the lower line end
    rw [takeCompares_leaves ht]
    refine enterOdoFault_sound _ h hs fun lo' up' hlo' hup' => ⟨.inr hn1, .inl ?_⟩
    obtain rfl : up = up' := Option.some.inj (hup.symm.trans hup')
    exact hlt
  · rw [takeCompares_none ht]
    exact (positionSound_iff s).2 ⟨h, fun _ => ⟨lo, up, hlo, hup, .inl hge, .inl hlt⟩⟩

end Sys2Proof.Machine
end

section
/-! PROOFS. Each operation that moves the odometry or the line keeps `PositionSound`; then every command and every step
(O28). -/

namespace Sys2Proof.Machine

set_option Elab.async false

/-! ### A count (R31, R32, R46, R47) -/

/-- The odometry after the movement of a count, before the compares are tested (R31, R32). -/
def moved (sensor : Sensor) (x : Sense) (s : State) : State :=
  let d : Int := sign x * weight s.params sensor
  let u := growUncertainty (uBound s.params) (weight s.params sensor * growth s.params sensor) s.odo.uUm s.odo.carry
  s.setOdo { s.odo with
    travel := s.odo.travel + d, pUm := (movePos s.odo.pUm d).1, uUm := u.1, carry := u.2 }

theorem activeCount_unset {sensor : Sensor} {x : Sense} {s : State} (h : s.odo.state = .unset) :
    activeCount sensor x s =
      s.setOdo { s.odo with travel := s.odo.travel + sign x * (weight s.params sensor : Int) } := by
  simp only [activeCount, h, if_true]

theorem activeCount_eq {sensor : Sensor} {x : Sense} {s : State} (h : s.odo.state ≠ .unset) :
    activeCount sensor x s =
      takeCompares (movePos s.odo.pUm (sign x * (weight s.params sensor : Int))).2
        (degradeAtBound (moved sensor x s)) := by
  simp only [activeCount, h, if_false]; rfl

theorem weight_le {p : Params} (hw : WeightsShort p) (sensor : Sensor) (x : Sense) :
    -10000000 ≤ sign x * (weight p sensor : Int) ∧ sign x * (weight p sensor : Int) ≤ 10000000 := by
  obtain ⟨h1, h2⟩ := hw
  cases sensor <;> cases x <;> simp only [sign, weight] <;> omega

/-- A move of less than a section from a tracked position stays near the compares. -/
theorem moved_near {s : State} (ha : Anchored s) (ht : PositionTracked s) (hs : s.odo.state ≠ .unset) {d : Int}
    (hd : -10000000 ≤ d ∧ d ≤ 10000000) {o : Odometry} (hp : o.pUm = (movePos s.odo.pUm d).1)
    (hc : compares o = compares s.odo) : Near (movePos s.odo.pUm d).2 o := by
  obtain ⟨c, lo, up, -, hlo, hup, -, -, -, -, hlen, hmax⟩ := ha.section_held hs
  obtain ⟨lo', up', hlo', hup', hl, hu⟩ := ht hs
  obtain rfl : lo = lo' := Option.some.inj (hlo.symm.trans hlo')
  obtain rfl : up = up' := Option.some.inj (hup.symm.trans hup')
  obtain ⟨hm, hheld, -⟩ := movePos_spec s.odo.pUm d
  simp only [compares, Prod.mk.injEq] at hc
  obtain ⟨-, c2, c3, c4, c5⟩ := hc
  rw [← hp] at hm
  refine ⟨fun up₁ n h1 h2 => ?_, fun lo₁ n h1 h2 => ?_, fun h => ?_⟩
  · obtain rfl : up = up₁ := Option.some.inj (hup.symm.trans (c3.symm.trans h1))
    have hlt : s.odo.pUm < up * 1000 := hu.resolve_right fun h => by simp [← c5, h2] at h
    omega
  · obtain rfl : lo = lo₁ := Option.some.inj (hlo.symm.trans (c2.symm.trans h1))
    have hge : lo * 1000 ≤ s.odo.pUm := hl.resolve_right fun h => by simp [← c4, h2] at h
    omega
  · have := hheld.1 h
    simp only [Config.pUmMax]; omega

theorem degradeAtBound_kept (s : State) :
    compares (degradeAtBound s).odo = compares s.odo ∧ (degradeAtBound s).odo.pUm = s.odo.pUm
      ∧ (degradeAtBound s).odo.uUm = s.odo.uUm ∧ (degradeAtBound s).odo.quiet = s.odo.quiet
      ∧ ((degradeAtBound s).odo.state = .unset ↔ s.odo.state = .unset) := by
  rw [degradeAtBound_odo]
  split
  · next h => exact ⟨rfl, rfl, rfl, rfl, by simp [h.1]⟩
  · exact ⟨rfl, rfl, rfl, rfl, .rfl⟩

theorem activeCount_sound {sensor : Sensor} {x : Sense} {s : State} (h : PositionSound s)
    (hw : WeightsShort s.params) : PositionSound (activeCount sensor x s) := by
  obtain ⟨ha, ht⟩ := (positionSound_iff s).1 h
  by_cases hs : s.odo.state = .unset
  · rw [activeCount_unset hs]
    exact h.keep (.of_frame (setOdo_frame _ s)) rfl le_rfl ha.quiet
  · rw [activeCount_eq hs]
    obtain ⟨k1, k2, k3, k4, k5⟩ := degradeAtBound_kept (moved sensor x s)
    have fr := (setOdo_frame _ s).mono.trans (degradeAtBound_frame (moved sensor x s))
    have hp : (degradeAtBound (moved sensor x s)).params = s.params := fr .params (by decide)
    refine takeCompares_sound (ha.keep (.of_frame fr) k1 k5 (fun h => absurd h hs) ?_ ?_) (mt k5.1 hs)
      (moved_near ha ht hs (weight_le hw sensor x) k2 k1)
    · unfold UncertaintyBounded; rw [k3, hp]; exact growUncertainty_le _ _ _ _
    · unfold QuietBounded; rw [k4, hp]; exact ha.quiet

/-- A fault from a sound state. -/
theorem PositionSound.faulted {s : State} (h : PositionSound s) (f : OdoFault) : PositionSound (enterOdoFault f s) := by
  obtain ⟨ha, ht⟩ := (positionSound_iff s).1 h
  by_cases hs : s.odo.state = .unset
  · rw [enterOdoFault_unknown f (by rw [hs]; rfl)]; exact h
  · obtain ⟨lo, up, hlo, hup, hl, hu⟩ := ht hs
    refine enterOdoFault_sound f ha hs fun lo' up' hlo' hup' => ?_
    obtain rfl : lo = lo' := Option.some.inj (hlo.symm.trans hlo')
    obtain rfl : up = up' := Option.some.inj (hup.symm.trans hup')
    exact ⟨hl.imp_right (·.2), hu.imp_right (·.2)⟩

/-- An update of the odometry's other fields. -/
theorem PositionSound.setOdo {s : State} (h : PositionSound s) {o : Odometry} (ho : track o = track s.odo)
    (hq : o.quiet ≤ s.params.nStill) : PositionSound (s.setOdo o) :=
  h.keep (.of_frame (setOdo_frame o s)) ho le_rfl hq

theorem PositionSound.quiet_le {s : State} (h : PositionSound s) : s.odo.quiet ≤ s.params.nStill :=
  ((positionSound_iff s).1 h).1.quiet

theorem crossCheck_sound {s : State} (h : PositionSound s) : PositionSound (crossCheck s) := by
  unfold crossCheck; dsimp only; repeat' split
  · exact (PositionSound.setOdo h (by exact rfl) (by exact h.quiet_le)).faulted .mismatch
  · exact PositionSound.setOdo h (by exact rfl) (by exact h.quiet_le)
  · exact h

theorem feedCheck_kept (sensor : Sensor) (x : Sense) (s : State) :
    track (feedCheck sensor x s).odo = track s.odo ∧ (feedCheck sensor x s).odo.quiet = s.odo.quiet
      ∧ (feedCheck sensor x s).odo.source = s.odo.source := by
  unfold feedCheck; split
  · cases sensor <;> exact ⟨rfl, rfl, rfl⟩
  · exact ⟨rfl, rfl, rfl⟩

theorem feedCal_kept (sensor : Sensor) (x : Sense) (o : Odometry) :
    track (feedCal sensor x (decodeCount sensor x o)) = track o
      ∧ (feedCal sensor x (decodeCount sensor x o)).quiet = o.quiet := by cases sensor <;> exact ⟨rfl, rfl⟩

/-- The decoder, the accumulators and the calibration reference fed by a count (R29, R44, R46). -/
def fed (sensor : Sensor) (x : Sense) (s : State) : State :=
  feedCheck sensor x (s.setOdo (feedCal sensor x (decodeCount sensor x s.odo)))

theorem takeCount_eq (sensor : Sensor) (x : Sense) (s : State) :
    takeCount sensor x s =
      (let s2 := if isActive sensor s.odo then activeCount sensor x (fed sensor x s) else fed sensor x s
      if known s.odo.state && onRack s && sensor == .pinion then crossCheck s2 else s2) := rfl

theorem fed_frame (sensor : Sensor) (x : Sense) (s : State) : OnlyChanges [.odo] s (fed sensor x s) :=
  (setOdo_frame _ s).trans (feedCheck_frame _ _ _)

theorem fed_sound {sensor : Sensor} {x : Sense} {s : State} (h : PositionSound s) :
    PositionSound (fed sensor x s) := by
  obtain ⟨c1, c2⟩ := feedCal_kept sensor x s.odo
  have h1 := h.setOdo c1 (c2 ▸ h.quiet_le)
  obtain ⟨f1, f2, -⟩ := feedCheck_kept sensor x (s.setOdo (feedCal sensor x (decodeCount sensor x s.odo)))
  have fr := fed_frame sensor x s
  have hp : (fed sensor x s).params = s.params := fr .params (by decide)
  refine h.keep (.of_frame fr) (f1.trans c1) (by rw [hp]) ?_
  unfold QuietBounded; rw [hp]; exact (f2.trans c2) ▸ h.quiet_le

theorem takeCount_sound {sensor : Sensor} {x : Sense} {s : State} (h : PositionSound s)
    (hw : WeightsShort s.params) : PositionSound (takeCount sensor x s) := by
  have h1 : PositionSound (fed sensor x s) := fed_sound h
  have hp : (fed sensor x s).params = s.params := fed_frame sensor x s .params (by decide)
  have h2 : PositionSound (if isActive sensor s.odo then activeCount sensor x (fed sensor x s) else fed sensor x s) := by
    split
    · exact activeCount_sound h1 (hp ▸ hw)
    · exact h1
  rw [takeCount_eq]; dsimp only
  split
  · exact crossCheck_sound h2
  · exact h2

/-! ### SET_POSITION and RELEASE_TRIP (R49, R50) -/

theorem findSection_spec {p c : Nat} {s : State} (h : findSection p s.line.records = some c) :
    ∃ r, recordAt s c = some r ∧ r.start ≤ p ∧ p < r.start + r.length := by
  obtain ⟨hlt, hp, -⟩ := List.findIdx?_eq_some_iff_getElem.1 h
  exact ⟨_, List.getElem?_eq_getElem hlt, by simpa using hp⟩

/-- SET_POSITION is refused and changes nothing, or sets the position in the section that holds it (R50). -/
theorem setPosition_cases (p u : Nat) (s : State) :
    (setPosition p u s).2 = s
      ∨ ∃ c r, isSealed s = true ∧ s.params.markTol ≤ u ∧ u ≤ s.params.uMax ∧ recordAt s c = some r
          ∧ r.start ≤ p ∧ p < r.start + r.length
          ∧ (setPosition p u s).2 =
            judgePart .odoDegraded (radioCrossingCurrent (deriveWindow (s.setOdo (positionSet p u c s)))) := by
  unfold setPosition
  split
  · exact .inl rfl
  · split
    · exact .inl rfl
    · split
      · exact .inl rfl
      · next hsealed =>
        split
        · exact .inl rfl
        · split
          · exact .inl rfl
          · next hu =>
            split
            · exact .inl rfl
            · next c hc =>
              obtain ⟨r, hr, h1, h2⟩ := findSection_spec hc
              exact .inr ⟨c, r, by simpa using hsealed, by omega, by omega, hr, h1, h2, rfl⟩

theorem setPosition_sound {p u : Nat} {s : State} (h : PositionSound s) : PositionSound (setPosition p u s).2 := by
  have hl : LineKept s (setPosition p u s).2 := setPosition_lineKept p u s
  have hp : (setPosition p u s).2.params = s.params := setPosition_frame p u s .params (by decide)
  obtain ⟨ha, -⟩ := (positionSound_iff s).1 h
  rcases setPosition_cases p u s with e | ⟨c, r, hsealed, -, hu, hr, h1, h2, e⟩
  · rw [e]; exact h
  have ho : (setPosition p u s).2.odo = positionSet p u c s := by
    rw [e, judgePart_odo, radioCrossingCurrent_odo, deriveWindow_odo]; rfl
  have tlo : startAt s c = some r.start := by simp [startAt, hr]
  have tup : upperAt s c = some (r.start + r.length) := by simp [upperAt, hr]
  refine (positionSound_iff _).2 ⟨⟨?_, ?_, ?_, ?_, ?_, ?_, ?_⟩, fun _ => ?_⟩
  · exact (lineLaid_congr hl.geometry).trans ha.laid
  · exact hl.lineBounded ha.bounded
  · refine (comparesLoaded_iff (c := c) (by rw [ho]; rfl)).2 ?_
    rw [ho, hl.startAt_eq, hl.upperAt_eq, hl.startBelow_eq, hl.upperAt_eq, hl.length_eq]
    exact ⟨upperAt_lt_length tup, rfl, rfl, rfl, rfl⟩
  · unfold UncertaintyBounded; rw [ho, hp]; exact Nat.mul_le_mul_right _ hu
  · unfold QuietBounded; rw [ho, hp]; exact ha.quiet
  · unfold UnsetIsEmpty; rw [ho]; exact ⟨fun x => absurd x (by simp [positionSet, loadCompares]), fun _ => rfl⟩
  · intro ht
    rw [hl.isSealed_eq, hsealed] at ht; cases ht
  · rw [ho]
    exact ⟨_, _, tlo, tup, .inl (Nat.mul_le_mul_right _ h1), .inl (Nat.mul_lt_mul_of_pos_right h2 (by decide))⟩

theorem insideLine_iff (x : Nat) (s : State) : insideLine x s = true ↔ lineStart s ≤ x ∧ x < lineEnd s := by
  simp [insideLine]

/-- A position inside the line lies between the compares, also beyond a line end left before (R38, R49). -/
theorem between_of_insideLine {s : State} (h : PositionSound s) (hs : s.odo.state ≠ .unset)
    (hin : insideLine (pMm s.odo) s = true) :
    ∃ lo up, s.odo.lower = some lo ∧ s.odo.upper = some up ∧ lo * 1000 ≤ s.odo.pUm ∧ s.odo.pUm < up * 1000 := by
  obtain ⟨ha, ht⟩ := (positionSound_iff s).1 h
  obtain ⟨c, lo, up, hc, hlo, hup, tlo, tup, hnl, hnu, -, -⟩ := ha.section_held hs
  obtain ⟨lo', up', hlo', hup', hl, hu⟩ := ht hs
  obtain rfl : lo = lo' := Option.some.inj (hlo.symm.trans hlo')
  obtain rfl : up = up' := Option.some.inj (hup.symm.trans hup')
  obtain ⟨hfrom, hto⟩ := (insideLine_iff _ s).1 hin
  unfold pMm at hfrom hto
  have hlt := upperAt_lt_length tup
  refine ⟨lo, up, hlo, hup, ?_, ?_⟩
  · rcases hl with hl | ⟨-, hl⟩
    · exact hl
    · have hc0 : c = 0 := by
        by_contra hne
        simp [hl, startBelow, hne, startAt, recordAt] at hnl
        omega
      subst hc0
      have : lineStart s = lo := by
        simp only [startAt, recordAt] at tlo
        rw [lineStart, List.head?_eq_getElem?]
        cases hr : s.line.records[0]? <;> simp_all
      omega
  · rcases hu with hu | ⟨-, hu⟩
    · exact hu
    · have hlast : s.line.records.length - 1 = c := by
        have : s.line.records.length ≤ c + 1 := by simpa [hu, upperAt, recordAt] using hnu
        omega
      have : lineEnd s = up := by
        simp only [upperAt, recordAt] at tup
        rw [lineEnd, List.getLast?_eq_getElem?, hlast]
        cases hr : s.line.records[c]? <;> simp_all
      omega

theorem releaseOdometry_sound {s : State} (h : PositionSound s) : PositionSound (releaseOdometry s) := by
  unfold releaseOdometry; split
  · next hcond =>
    obtain ⟨hf, hin⟩ := hcond
    have hs : s.odo.state ≠ .unset := by simp [hf]
    obtain ⟨lo, up, hlo, hup, hge, hlt⟩ := between_of_insideLine h hs hin
    obtain ⟨ha, -⟩ := (positionSound_iff s).1 h
    refine PositionSound.frame (bs := [.restr, .link]) ?_ (judgePart_frame _ _)
    refine (positionSound_iff _).2 ⟨ha.keep ?_ rfl ?_ (fun x => absurd x hs) ?_ ha.quiet, fun _ => ?_⟩
    · exact .of_eq rfl
    · simp [hs]
    · exact le_rfl
    · exact ⟨lo, up, hlo, hup, .inl hge, .inl hlt⟩
  · exact h

theorem releaseTrip_sound {s : State} (h : PositionSound s) : PositionSound (releaseTrip s) := by
  have fr (u : State) : OnlyChanges [.sup, .line, .window, .staging, .tele, .link, .radio, .brakes, .doors] u
      (combine ((releaseSupervisor u).setBrakes (clearLatches (releaseSupervisor u)))) :=
    (releaseSupervisor_frame u).trans (((setBrakes_frame _ _).trans (combine_frame _)).mono)
  have hl (u : State) : LineKept u (combine ((releaseSupervisor u).setBrakes (clearLatches (releaseSupervisor u)))) :=
    (releaseSupervisor_lineKept u).trans (.of_frame ((setBrakes_frame _ _).trans (combine_frame _)))
  exact (releaseOdometry_sound h).same (hl _) (fr _ .odo (by decide)) (fr _ .params (by decide))

end Sys2Proof.Machine
end

section
/-! PROOFS. A section record from the link: the checks of the section record table and the normalised record (R6, R18,
R201, section 1.1), and what APPEND_SECTION stores. -/

namespace Sys2Proof.Machine

set_option Elab.async false

/-! ### The enumerated codes of a record -/

theorem kindOfCode_iff (n : Nat) (k : Kind) : kindOfCode n = some k ↔ kindCode k = n := by
  constructor
  · intro h; unfold kindOfCode at h; split at h <;> cases h <;> rfl
  · rintro rfl; cases k <;> rfl

theorem anySideOfCode_iff (n : Nat) (x : Side) : anySideOfCode n = some x ↔ sideCode x = n := by
  constructor
  · intro h; unfold anySideOfCode at h; split at h <;> cases h <;> rfl
  · rintro rfl; cases x <;> rfl

theorem kindCode_le (k : Kind) : kindCode k ≤ 2 := by cases k <;> decide

theorem sideCode_bounds (x : Side) : 1 ≤ sideCode x ∧ sideCode x ≤ 3 := by cases x <;> decide

/-! ### The platform and the record -/

/-- A platform's fields lie within the section record table and its begin before its end (section 1.1, R6). -/
abbrev platformGood (w : SectionWire) : Prop :=
  1 ≤ w.side ∧ w.side ≤ 3 ∧ 1 ≤ w.platformId ∧ w.platformId ≤ 255 ∧ w.platformBegin < w.platformEnd
    ∧ w.platformEnd ≤ 67108863

/-- The record's own fields and its mark lie within the section record table (section 1.1, R6). -/
abbrev fieldsGood (w : SectionWire) : Prop :=
  w.number ≤ 65535 ∧ w.start ≤ 67108863 ∧ 10000 ≤ w.length ∧ w.length ≤ 2000000
    ∧ -480 ≤ w.gradient ∧ w.gradient ≤ 480 ∧ w.limitUp ≤ 600 ∧ w.limitDown ≤ 600 ∧ w.cell ≤ 15
    ∧ (w.markPresent = true → w.start ≤ w.mark ∧ w.mark < w.start + w.length ∧ w.mark ≤ 67108863)

/-- The platform part a carried record gives: none outside the table. -/
def platformOfWire (w : SectionWire) : Option (Option Platform) :=
  if w.platformPresent then
    (anySideOfCode w.side).bind fun side =>
      if 1 ≤ w.platformId ∧ w.platformId ≤ 255 ∧ w.platformEnd ≤ Config.posMax ∧ w.platformBegin < w.platformEnd then
        some (some ⟨w.platformId, side, w.platformBegin, w.platformEnd⟩)
      else none
  else some none

/-- The stored form of a carried record of a kind and a platform part. -/
def storedRecord (w : SectionWire) (kind : Kind) (platform : Option Platform) : SectionRec :=
  { number := w.number, start := w.start, length := w.length, gradient := w.gradient, kind := kind,
    limitUp := w.limitUp, limitDown := w.limitDown, cell := w.cell, tunnel := w.tunnel,
    platform := platform, mark := if w.markPresent then some w.mark else none }

theorem sectionOfWire_eq (w : SectionWire) :
    sectionOfWire w = (kindOfCode w.kind).bind fun k => (platformOfWire w).bind fun p =>
      if fieldsGood w then some (storedRecord w k p) else none := by
  unfold sectionOfWire platformOfWire
  cases kindOfCode w.kind with
  | none => rfl
  | some k =>
    cases w.platformPresent with
    | false => rfl
    | true =>
      cases anySideOfCode w.side with
      | none => rfl
      | some side =>
        by_cases h : 1 ≤ w.platformId ∧ w.platformId ≤ 255 ∧ w.platformEnd ≤ Config.posMax
          ∧ w.platformBegin < w.platformEnd
        · simp only [h, if_true, Option.bind_some]; rfl
        · simp [h]

theorem sectionOfWire_eq_some (w : SectionWire) (r : SectionRec) :
    sectionOfWire w = some r ↔
      fieldsGood w ∧ ∃ k p, kindOfCode w.kind = some k ∧ platformOfWire w = some p ∧ storedRecord w k p = r := by
  rw [sectionOfWire_eq]
  simp only [Option.bind_eq_some_iff, Option.ite_none_right_eq_some, Option.some.injEq]
  constructor
  · rintro ⟨k, hk, p, hp, hf, h⟩; exact ⟨hf, k, p, hk, hp, h⟩
  · rintro ⟨hf, k, p, hk, hp, h⟩; exact ⟨k, hk, p, hp, hf, h⟩

theorem platformOfWire_eq_some (w : SectionWire) (p : Option Platform) :
    platformOfWire w = some p ↔
      (w.platformPresent = true → platformGood w) ∧ p.isSome = w.platformPresent
        ∧ ∀ q, p = some q → q.id = w.platformId ∧ sideCode q.side = w.side ∧ q.lo = w.platformBegin
            ∧ q.hi = w.platformEnd := by
  unfold platformOfWire platformGood
  cases w.platformPresent with
  | false => cases p <;> simp
  | true =>
    have hmax : Config.posMax = 67108863 := rfl
    simp only [if_true, Option.bind_eq_some_iff, anySideOfCode_iff, Option.ite_none_right_eq_some, Option.some.injEq,
      forall_const]
    simp only [hmax]
    constructor
    · rintro ⟨side, hs, ⟨h1, h2, h3, h4⟩, rfl⟩
      have := sideCode_bounds side
      exact ⟨⟨by omega, by omega, h1, h2, h4, h3⟩, rfl, by rintro q ⟨rfl⟩; exact ⟨rfl, hs, rfl, rfl⟩⟩
    · rintro ⟨⟨-, -, h1, h2, h3, h4⟩, hsome, hq⟩
      obtain ⟨⟨id, side, lo, hi⟩, rfl⟩ := Option.isSome_iff_exists.1 hsome
      obtain ⟨rfl, hs, rfl, rfl⟩ := hq _ rfl
      exact ⟨side, hs, ⟨h1, h2, h4, h3⟩, rfl⟩

/-! ### What APPEND_SECTION stores (R6) -/

/-- The start and length of a stored record, and the least length. -/
theorem sectionOfWire_span {w : SectionWire} {r : SectionRec} (h : sectionOfWire w = some r) :
    r.number = w.number ∧ r.start = w.start ∧ r.length = w.length ∧ 10000 ≤ r.length := by
  obtain ⟨⟨-, -, hlen, -⟩, k, p, -, -, rfl⟩ := (sectionOfWire_eq_some w r).1 h
  exact ⟨rfl, rfl, rfl, hlen⟩

theorem orderedRecord_eq_some (w : SectionWire) (rs : List SectionRec) (r : SectionRec) :
    orderedRecord w rs = some r ↔
      sectionOfWire w = some r ∧ w.start + w.length ≤ 67108864 ∧ ∀ l, rs.getLast? = some l → l.number < w.number := by
  simp only [orderedRecord, Option.filter_eq_some_iff, Bool.and_eq_true, decide_eq_true_eq, Option.all_eq_true]
  refine and_congr_right fun h => ?_
  obtain ⟨h1, h2, h3, -⟩ := sectionOfWire_span h
  rw [h1, h2, h3]

theorem contiguous_iff (w : SectionWire) (rs : List SectionRec) :
    contiguous w rs = true ↔ ∀ l, rs.getLast? = some l → w.start = l.start + l.length := by
  simp [contiguous, Option.all_eq_true]

end Sys2Proof.Machine
end

section
/-! PROOFS. `PositionSound` under marks, samples, parameters, resets and loads, then under every command and step (O28). -/

namespace Sys2Proof.Machine

set_option Elab.async false

/-! ### Marks (R39 to R45) -/

/-- A step within the odometry and the link that keeps what the invariant reads. -/
theorem PositionSound.tracked {s t : State} (h : PositionSound s) (fr : OnlyChanges [.odo, .link] s t)
    (ho : track t.odo = track s.odo) (hq : t.odo.quiet = s.odo.quiet) : PositionSound t := by
  have hp : t.params = s.params := fr .params (by decide)
  refine h.keep (.of_frame fr) ho (by rw [hp]) ?_
  unfold QuietBounded; rw [hp, hq]; exact h.quiet_le

/-- A report is latched with its cause, or discarded (R42). -/
theorem offerReport_odo (r : MarkReport) (s : State) :
    (offerReport r s).odo = if s.odo.report.isSome then s.odo else
      { s.odo with report := some r, causes := s.odo.causes ||| odoCauseBit .markReport } := by
  unfold offerReport; split <;> rfl

theorem offerReport_sound (r : MarkReport) {s : State} (h : PositionSound s) : PositionSound (offerReport r s) := by
  refine h.tracked (offerReport_frame r s) ?_ ?_ <;> rw [offerReport_odo] <;> split <;> rfl

/-- Position, uncertainty and state at an applied mark (R40, steps 1 to 3). -/
theorem correctPosition_odo (m : Nat) (s : State) :
    (correctPosition m s).odo =
      if s.odo.state = .degraded then
        { s.odo with pUm := m * 1000, uUm := s.params.markTol * 1000, carry := 0, state := .valid,
                     causes := s.odo.causes ||| odoCauseBit .markRestored }
      else { s.odo with pUm := m * 1000, uUm := s.params.markTol * 1000, carry := 0 } := by
  unfold correctPosition; dsimp only; split
  · rw [judgePart_odo]; rfl
  · rfl

/-- The evaluation of a calibration changes causes and `w_whl` alone (R45). -/
theorem evaluateCal_kept (m : Nat) (s : State) :
    (∃ cs, (evaluateCal m s).odo = { s.odo with causes := cs })
      ∧ ((evaluateCal m s).params = s.params ∨ ∃ w, (evaluateCal m s).params = { s.params with wWhl := w }) := by
  unfold evaluateCal; repeat' split
  all_goals first
    | exact ⟨⟨_, rfl⟩, .inl rfl⟩
    | exact ⟨⟨_, rfl⟩, .inr ⟨_, rfl⟩⟩

theorem handleCal_kept (m : Nat) (s : State) :
    (∃ cs, (handleCal m s).odo = { s.odo with causes := cs, cal := some ⟨m, 0, s.odo.source == .wheel⟩ })
      ∧ ((handleCal m s).params = s.params ∨ ∃ w, (handleCal m s).params = { s.params with wWhl := w }) := by
  obtain ⟨⟨cs, ho⟩, hp⟩ := evaluateCal_kept m s
  exact ⟨⟨cs, by unfold handleCal; dsimp only [State.setOdo_odo]; rw [ho]⟩, hp⟩

theorem handleCal_sound (m : Nat) {s : State} (h : PositionSound s) (hp : ParamsSound s.params) :
    PositionSound (handleCal m s) ∧ ParamsSound (handleCal m s).params := by
  obtain ⟨⟨cs, ho⟩, hpar⟩ := handleCal_kept m s
  have hsame : (handleCal m s).params.uMax = s.params.uMax ∧ (handleCal m s).params.nStill = s.params.nStill := by
    rcases hpar with e | ⟨w, e⟩ <;> rw [e] <;> exact ⟨rfl, rfl⟩
  refine ⟨h.keep (.of_frame (handleCal_frame m s)) (by rw [ho]; rfl) hsame.1.ge ?_, ?_⟩
  · unfold QuietBounded; rw [ho, hsame.2]; exact h.quiet_le
  · rcases hpar with e | ⟨w, e⟩ <;> rw [e]
    · exact hp
    · exact wWhl_sound hp w

/-- A matched mark lies within `u` plus `mark_window` of the position (R39, step 4). -/
theorem matchedMark_near {s : State} {c : Candidate} (h : matchedMark s = some c) :
    markDistance s.odo.pUm c ≤ (uMm s.odo + s.params.markWindow) * 1000 := by
  unfold matchedMark at h
  split at h
  · cases h
  · split at h
    · next hd => cases h; exact hd
    · cases h

theorem uMm_le {s : State} (h : UncertaintyBounded s) : uMm s.odo ≤ s.params.uMax := by
  unfold UncertaintyBounded uBound at h; unfold uMm; omega

/-- A mark within 7,000 mm of a position in its section: less than a section past either compare. -/
theorem correctPosition_near {s : State} {m : Nat} (ha : Anchored s) (ht : PositionTracked s)
    (hk : known s.odo.state = true) (hp : ParamsSound s.params)
    (hd : ((m * 1000 : Nat) - (s.odo.pUm : Int)).natAbs ≤ (uMm s.odo + s.params.markWindow) * 1000)
    {o : Odometry} (hm : o.pUm = m * 1000) (hc : compares o = compares s.odo) : Near none o := by
  have hs : s.odo.state ≠ .unset := by rintro e; rw [e] at hk; cases hk
  have hf : s.odo.state ≠ .fault := by rintro e; rw [e] at hk; cases hk
  obtain ⟨lo, up, hlo, hup, hl, hu⟩ := ht hs
  replace hl : lo * 1000 ≤ s.odo.pUm := hl.resolve_right fun x => hf x.1
  replace hu : s.odo.pUm < up * 1000 := hu.resolve_right fun x => hf x.1
  have hum := uMm_le ha.uncertain
  obtain ⟨hw, hx⟩ := markWindow_le hp
  have hdist : |((m * 1000 : Nat) : Int) - s.odo.pUm| ≤ 7000000 := by
    have hsum : ((m * 1000 : Nat) - (s.odo.pUm : Int)).natAbs ≤ 7000000 := hd.trans (by linarith)
    rw [Int.abs_eq_natAbs]; exact Int.ofNat_le.2 hsum
  obtain ⟨hd1, hd2⟩ := abs_le.1 hdist
  rw [← hm] at hd1 hd2
  simp only [compares, Prod.mk.injEq] at hc
  obtain ⟨-, c2, c3, -, -⟩ := hc
  refine ⟨fun up₁ n h1 _ => ?_, fun lo₁ n h1 _ => ?_, by simp⟩
  · obtain rfl : up = up₁ := Option.some.inj (hup.symm.trans (c3.symm.trans h1))
    have : (s.odo.pUm : Int) < up * 1000 := by exact_mod_cast hu
    exact_mod_cast (show (o.pUm : Int) < up * 1000 + 10000000 by linarith)
  · obtain rfl : lo = lo₁ := Option.some.inj (hlo.symm.trans (c2.symm.trans h1))
    have : (lo : Int) * 1000 ≤ s.odo.pUm := by exact_mod_cast hl
    exact_mod_cast (show (lo : Int) * 1000 ≤ o.pUm + 10000000 by linarith)

theorem applyMark_sound {s : State} {m : Nat} (h : PositionSound s) (hk : known s.odo.state = true)
    (hp : ParamsSound s.params)
    (hd : ((m * 1000 : Nat) - (s.odo.pUm : Int)).natAbs ≤ (uMm s.odo + s.params.markWindow) * 1000) :
    PositionSound (applyMark m s) ∧ ParamsSound (applyMark m s).params := by
  obtain ⟨ha, ht⟩ := (positionSound_iff s).1 h
  have hs : s.odo.state ≠ .unset := by rintro e; rw [e] at hk; cases hk
  have fr := correctPosition_frame m s
  have hpar : (correctPosition m s).params = s.params := fr .params (by decide)
  obtain ⟨k1, k2, k3, k4, k5⟩ : compares (correctPosition m s).odo = compares s.odo
      ∧ (correctPosition m s).odo.pUm = m * 1000 ∧ (correctPosition m s).odo.uUm = s.params.markTol * 1000
      ∧ (correctPosition m s).odo.quiet = s.odo.quiet ∧ (correctPosition m s).odo.state ≠ .unset := by
    rw [correctPosition_odo]; split
    · exact ⟨rfl, rfl, rfl, rfl, by simp⟩
    · exact ⟨rfl, rfl, rfl, rfl, hs⟩
  have ha1 : Anchored (correctPosition m s) := by
    refine ha.keep (.of_frame fr) k1 (by simp [k5, hs]) (fun e => absurd e hs) ?_ ?_
    · unfold UncertaintyBounded; rw [k3, hpar]; exact Nat.mul_le_mul_right _ hp.2.1
    · unfold QuietBounded; rw [k4, hpar]; exact ha.quiet
  have h2 : PositionSound (takeCompares none (correctPosition m s)) :=
    takeCompares_sound ha1 k5 (correctPosition_near ha ht hk hp hd k2 k1)
  have hp2 : (takeCompares none (correctPosition m s)).params = s.params :=
    Eq.trans (takeCompares_frame none (correctPosition m s) .params (by decide)) hpar
  exact handleCal_sound m h2 (hp2 ▸ hp)

theorem detectMark_sound {s : State} (h : PositionSound s) (hp : ParamsSound s.params) :
    PositionSound (detectMark s) ∧ ParamsSound (detectMark s).params := by
  have report (r : MarkReport) {u : State} (hu : PositionSound u ∧ ParamsSound u.params) :
      PositionSound (offerReport r u) ∧ ParamsSound (offerReport r u).params := by
    have e : (offerReport r u).params = u.params := offerReport_frame r u .params (by decide)
    exact ⟨offerReport_sound r hu.1, e ▸ hu.2⟩
  have h1 : PositionSound (s.setOdo { s.odo with capture := s.odo.pUm }) := h.setOdo rfl h.quiet_le
  unfold detectMark; dsimp only
  split
  · exact ⟨h, hp⟩
  · split
    · refine report _ ⟨h1.tracked (addOdoCause_frame _ _) rfl rfl, hp⟩
    · next c hc =>
      refine report _ ?_
      split
      · next hk => exact applyMark_sound h1 hk hp (matchedMark_near hc)
      · exact ⟨h1, hp⟩

/-! ### The sample (R33, R34) -/

theorem judgeStill_le (p : Params) (v : Nat) (o : Odometry) : (judgeStill p v o).2 ≤ p.nStill := by
  unfold judgeStill; split
  · exact Nat.min_le_right _ _
  · exact Nat.zero_le _

/-- The takers of a sample leave the odometry as the sample left it. -/
theorem sampleTakers_frame (s : State) :
    OnlyChanges [.sup, .line, .window, .staging, .tele, .link, .radio, .brakes, .doors, .restr] (issueSample s)
      (takeSample s) :=
  ((superviseSample_frame _).mono.trans (retirePassed_frame _).mono).trans
    ((retestReleases_frame _).mono.trans (judgeInterlock_frame _).mono)

theorem takeSample_sound {s : State} (h : PositionSound s) : PositionSound (takeSample s) := by
  have ho : (takeSample s).odo = (issueSample s).odo := sampleTakers_frame s .odo (by decide)
  have hp : (takeSample s).params = s.params := takeSample_frame s .params (by decide)
  refine h.keep (takeSample_lineKept s) (by rw [ho]; rfl) (by rw [hp]) ?_
  unfold QuietBounded; rw [ho, hp]; exact judgeStill_le _ _ _

/-! ### Parameters (R197) -/

/-- SET_PARAMETER is refused and changes nothing, or writes a value in range and tells its owner (R197). -/
theorem setParameter_cases (n v : Nat) (s : State) :
    (setParameter n v s).2 = s
      ∨ ∃ r, paramRow n = some r ∧ r.low ≤ v ∧ v ≤ r.high ∧ paramConditions n (paramPut n v s.params) = true
          ∧ (setParameter n v s).2 = paramTold n (s.setParams (paramPut n v s.params)) := by
  unfold setParameter
  split
  · exact .inl rfl
  · next r hr =>
    split
    · exact .inl rfl
    · split
      · exact .inl rfl
      · next hv =>
        split
        · exact .inl rfl
        · exact .inr ⟨r, hr, by omega, by omega, by simpa using (not_or.1 (not_or.1 hv).2).2, rfl⟩

theorem setParameter_sound {n v : Nat} {s : State} (h : PositionSound s) (hp : ParamsSound s.params) :
    PositionSound (setParameter n v s).2 ∧ ParamsSound (setParameter n v s).2.params := by
  rcases setParameter_cases n v s with e | ⟨r, hr, hlo, hhi, hc, e⟩
  · rw [e]; exact ⟨h, hp⟩
  have hl := setParameter_lineKept n v s
  rw [e] at hl ⊢
  have hsound := paramPut_sound hr hp hlo hhi hc
  have hne {m : Nat} (hm : m ≠ n) := paramGet_paramPut_ne hr v s.params hm
  obtain ⟨ha, ht⟩ := (positionSound_iff s).1 h
  by_cases h3 : n = 3
  · subst h3
    exact ⟨h.keep hl rfl le_rfl (Nat.min_le_right _ _), hsound⟩
  by_cases h9 : n = 9
  · subst h9
    show PositionSound (if _ then _ else _) ∧ ParamsSound (State.params (if _ then _ else _))
    split
    · refine ⟨(positionSound_iff _).2 ⟨ha.keep ?_ rfl .rfl ?_ le_rfl ha.quiet, ht.keep rfl rfl (.inl rfl)⟩, hsound⟩
      · exact .of_eq rfl
      · next hlt =>
        intro hs
        have := (ha.unset.1 hs).2.1
        simp only [State.setParams_odo, this] at hlt
        omega
    · next hge =>
      refine ⟨(positionSound_iff _).2 ⟨ha.keep ?_ rfl .rfl ?_ ?_ ha.quiet, ht.keep rfl rfl (.inl rfl)⟩, hsound⟩
      · exact .of_eq rfl
      · exact fun _ => ⟨rfl, rfl⟩
      · exact Nat.le_of_not_lt hge
  have fr := paramTold_frame n (s.setParams (paramPut n v s.params)) h3 h9
  have ho : (paramTold n (s.setParams (paramPut n v s.params))).odo = s.odo := fr .odo (by decide)
  have hpar : (paramTold n (s.setParams (paramPut n v s.params))).params = paramPut n v s.params :=
    fr .params (by decide)
  have hu : (paramPut n v s.params).uMax = s.params.uMax := hne (m := 9) (Ne.symm h9)
  have hn : (paramPut n v s.params).nStill = s.params.nStill := hne (m := 3) (Ne.symm h3)
  refine ⟨h.keep hl (by rw [ho]) (by rw [hpar, hu]) ?_, hpar.symm ▸ hsound⟩
  unfold QuietBounded; rw [ho, hpar, hn]; exact ha.quiet

end Sys2Proof.Machine
end

section
/-! PROOFS. `PositionSound` under resets and line loads, then under every command and every step (O28); and the geometry of
the line (O19). -/

namespace Sys2Proof.Machine

set_option Elab.async false

/-! ### States without a position (R5, R27, R38) -/

/-- An UNSET odometry that holds nothing, over a well-laid line. -/
theorem PositionSound.of_unset {t : State} (hl : lineLaid t.line.records = true) (hb : LineBounded t)
    (hs : t.odo.state = .unset) (hp : t.odo.pUm = 0) (hu : t.odo.uUm = 0) (hc : t.odo.cur = none)
    (hq : QuietBounded t) : PositionSound t := by
  refine (positionSound_iff t).2 ⟨⟨hl, hb, ?_, ?_, hq, ⟨fun _ => ⟨hp, hu, hc⟩, fun h => absurd hs h⟩, fun _ => hs⟩,
    fun h => absurd hs h⟩
  · unfold ComparesLoaded; rw [hc]; trivial
  · unfold UncertaintyBounded; rw [hu]; exact Nat.zero_le _

/-- A step that keeps an UNSET odometry and the parameters needs a well-laid line alone. -/
theorem PositionSound.relaid {s t : State} (h : PositionSound s) (hs : s.odo.state = .unset) (ho : t.odo = s.odo)
    (hp : t.params = s.params) (hl : lineLaid t.line.records = true) (hb : LineBounded t) : PositionSound t := by
  obtain ⟨ha, -⟩ := (positionSound_iff s).1 h
  obtain ⟨h1, h2, h3⟩ := ha.unset.1 hs
  refine .of_unset hl hb (ho ▸ hs) (ho ▸ h1) (ho ▸ h2) (ho ▸ h3) ?_
  unfold QuietBounded; rw [ho, hp]; exact ha.quiet

theorem PositionSound.unset_of_loading {s : State} (h : PositionSound s) (hl : s.line.state = .loading) :
    s.odo.state = .unset := ((positionSound_iff s).1 h).1.needsLine (by simp [isSealed, hl])

theorem paramsSound_default : ParamsSound {} := by decide

theorem powerOn_sound (s : State) : PositionSound (powerOn s) ∧ ParamsSound (powerOn s).params :=
  ⟨.of_unset rfl (by intro r hr; cases hr) rfl rfl rfl rfl (Nat.zero_le _), paramsSound_default⟩

theorem softReset_sound {s : State} (h : PositionSound s) : PositionSound (softReset s) :=
  h.keep ⟨rfl, rfl⟩ rfl le_rfl le_rfl

theorem clearTable_odo (s : State) : (clearTable s).odo = s.odo := clearTable_frame s .odo (by decide)
theorem clearTable_params (s : State) : (clearTable s).params = s.params := clearTable_frame s .params (by decide)
theorem clearTable_line (s : State) : (clearTable s).line = s.line := clearTable_frame s .line (by decide)

/-- The line and the odometry after an accepted LINE_LOAD_BEGIN (R5, R27). -/
theorem beginLineLoad_spec (s : State) :
    (beginLineLoad s).line = { s.line with state := .loading, records := [], check := 0#16 }
      ∧ (beginLineLoad s).odo = odoLineLoad s.odo ∧ (beginLineLoad s).params = s.params := by
  unfold beginLineLoad
  extract_lets l s1 s2 s3 k
  have ho : s2.odo = s.odo := clearTable_odo s1
  have hp : s2.params = s.params := clearTable_params s1
  have hl : s2.line = s1.line := clearTable_line s1
  exact ⟨hl, by rw [← ho]; rfl, hp⟩

theorem beginLineLoad_sound {s : State} (h : PositionSound s) : PositionSound (beginLineLoad s) := by
  obtain ⟨hl, ho, hp⟩ := beginLineLoad_spec s
  refine .of_unset (by rw [hl]; rfl) ?_ (by rw [ho]; rfl) (by rw [ho]; rfl) (by rw [ho]; rfl) (by rw [ho]; rfl) ?_
  · intro r hr; rw [hl] at hr; cases hr
  · unfold QuietBounded; rw [ho, hp]; exact h.quiet_le

/-- APPEND_SECTION is refused and changes nothing, or adds a record in order at the end of a line being loaded (R6). -/
theorem appendSection_cases (w : SectionWire) (s : State) :
    (appendSection w s).2 = s
      ∨ ∃ r, s.line.state = .loading ∧ contiguous w s.line.records = true
          ∧ orderedRecord w s.line.records = some r
          ∧ (appendSection w s).2 = s.setLine { s.line with records := s.line.records ++ [r] } := by
  unfold appendSection; dsimp only
  split
  · exact .inl rfl
  · next hst =>
    split
    · exact .inl rfl
    · split
      · exact .inl rfl
      · split
        · exact .inl rfl
        · next hcont =>
          split
          · exact .inl rfl
          · next r hr => exact .inr ⟨r, by simpa using hst, by simpa using hcont, hr, rfl⟩

theorem appendSection_sound {w : SectionWire} {s : State} (h : PositionSound s) :
    PositionSound (appendSection w s).2 := by
  rcases appendSection_cases w s with e | ⟨r, hst, hcont, hr, e⟩
  · rw [e]; exact h
  obtain ⟨ha, -⟩ := (positionSound_iff s).1 h
  obtain ⟨hw, hend, -⟩ := (orderedRecord_eq_some _ _ _).1 hr
  obtain ⟨-, hstart, hlen, hmin⟩ := sectionOfWire_span hw
  rw [e]
  refine h.relaid (h.unset_of_loading hst) rfl rfl ?_ ?_
  · refine lineLaid_append _ r ha.laid hmin fun l hl => ?_
    rw [follows, hstart]; exact (contiguous_iff _ _).1 hcont l hl
  · intro x hx
    rcases List.mem_append.1 hx with hx | hx
    · exact ha.bounded x hx
    · rw [List.mem_singleton.1 hx, hstart, hlen]; exact hend

/-- LINE_LOAD_END is refused and changes nothing, or seals the line and judges the part-issued entries (R7). -/
theorem sealLine_cases (s : State) :
    (sealLine s).2 = s
      ∨ (s.line.state = .loading
          ∧ OnlyChanges [.restr, .link] (s.setLine { s.line with state := .sealed, check := lineCheckOf s.line.records })
              (sealLine s).2) := by
  unfold sealLine
  split
  · exact .inl rfl
  · next hst =>
    split
    · exact .inl rfl
    · exact .inr ⟨by simpa using (not_or.1 hst).1, (judgePart_frame .radioLoss _).trans (judgePart_frame .odoDegraded _)⟩

theorem sealLine_sound {s : State} (h : PositionSound s) : PositionSound (sealLine s).2 := by
  rcases sealLine_cases s with e | ⟨hst, fr⟩
  · rw [e]; exact h
  obtain ⟨ha, -⟩ := (positionSound_iff s).1 h
  have hl := fr .line (by decide)
  refine h.relaid (h.unset_of_loading hst) (fr .odo (by decide)) (fr .params (by decide)) ?_ ?_
  · rw [hl]; exact ha.laid
  · intro x hx; rw [hl] at hx; exact ha.bounded x hx

/-! ### Every command and every step -/

theorem sectionCommit_frame (h : TgHeader) (id crc : Nat) (s : State) :
    OnlyChanges [.tele, .radio, .restr, .link, .line, .window, .staging] s
      (receive h (fun t => ackCommit id h (commitUpdate .valley id crc t)) s) := by
  refine receive_frame h _ s _ (by decide) fun t => ?_
  have hc := commitUpdate_frame .valley id crc t
  unfold ackCommit; split
  · exact hc.mono.trans (setTele_frame _ _).mono
  · exact hc.mono.trans (ackResult_frame _ _ _ _).mono

theorem setMode_frame (code : Nat) (s : State) :
    OnlyChanges [.sup, .line, .window, .staging, .tele, .link, .radio, .brakes, .doors] s (setMode code s).2 := by
  unfold setMode; repeat' split
  all_goals first | exact .refl _ _ | exact changeMode_frame _ s

theorem setDirection_frame (code : Nat) (s : State) :
    OnlyChanges [.sup, .line, .window, .staging, .tele, .link, .radio, .brakes] s (setDirection code s).2 := by
  unfold setDirection; repeat' split
  all_goals first | exact .refl _ _ | exact selectDir_frame _ s

/-- The commands that reach the line or the position keep both sound. -/
theorem exec_sound (c : Instr) {s : State} (h : PositionSound s) (hp : ParamsSound s.params)
    (hw : WeightsShort s.params) : ∃ t, exec c s = .next t ∧ PositionSound t ∧ ParamsSound t.params := by
  have answered {r : Req} {res : Result} {data : List Byte} {u : State} (hu : PositionSound u ∧ ParamsSound u.params) :
      PositionSound (answer r res data u) ∧ ParamsSound (answer r res data u).params :=
    ⟨hu.1.frame (answer_frame r res data u), hu.2⟩
  have kept {bs : List Block} {u : State} (fr : OnlyChanges bs s u) (hl : LineKept s u)
      (ho : Block.odo ∉ bs) (hpar : Block.params ∉ bs) : PositionSound u ∧ ParamsSound u.params :=
    ⟨h.same hl (fr .odo ho) (fr .params hpar), (show u.params = s.params from fr .params hpar).symm ▸ hp⟩
  by_cases hc : reachesLine c = false
  · obtain ⟨t, ht, fr⟩ := exec_aside c s hc
    exact ⟨t, ht, kept fr (.of_frame fr) (by decide) (by decide)⟩
  have hsame {u : State} (hu : PositionSound u) (e : u.params = s.params) : PositionSound u ∧ ParamsSound u.params :=
    ⟨hu, e.symm ▸ hp⟩
  cases c with
  | powerOnReset => exact ⟨_, rfl, powerOn_sound s⟩
  | setParameter n v => exact ⟨_, rfl, answered (setParameter_sound h hp)⟩
  | reset =>
    refine ⟨_, rfl, ?_⟩
    split
    · exact hsame (softReset_sound h) rfl
    · exact answered ⟨h, hp⟩
  | lineLoadBegin =>
    refine ⟨_, rfl, ?_⟩
    split
    · exact answered (hsame (beginLineLoad_sound h) (beginLineLoad_spec s).2.2)
    · exact answered ⟨h, hp⟩
  | appendSection w =>
    refine ⟨_, rfl, answered (hsame (appendSection_sound h) ?_)⟩
    rcases appendSection_cases w s with e | ⟨r, -, -, -, e⟩
    · rw [e]
    · rw [e]; rfl
  | lineLoadEnd =>
    refine ⟨_, rfl, answered (hsame (sealLine_sound h) ?_)⟩
    rcases sealLine_cases s with e | ⟨-, fr⟩
    · rw [e]
    · exact fr .params (by decide)
  | commitStage id crc =>
    exact ⟨_, rfl, answered (kept (commitUpdate_frame _ id crc s) (commitUpdate_lineKept _ id crc s) (by decide)
      (by decide))⟩
  | setPosition p u =>
    exact ⟨_, rfl, answered (hsame (setPosition_sound h) (setPosition_frame p u s .params (by decide)))⟩
  | readOdometry => exact ⟨_, rfl, answered ⟨h.setOdo rfl h.quiet_le, hp⟩⟩
  | readMarkReport =>
    refine ⟨_, rfl, ?_⟩
    split
    · exact answered ⟨h, hp⟩
    · exact answered ⟨h.setOdo rfl h.quiet_le, hp⟩
  | setMode code =>
    exact ⟨_, rfl, answered (kept (setMode_frame code s) (setMode_lineKept code s) (by decide) (by decide))⟩
  | setDirection code =>
    exact ⟨_, rfl, answered (kept (setDirection_frame code s) (setDirection_lineKept code s) (by decide) (by decide))⟩
  | releaseTrip =>
    refine ⟨_, rfl, ?_⟩
    split
    · exact answered (hsame (releaseTrip_sound h) (releaseTrip_frame s .params (by decide)))
    · exact answered ⟨h, hp⟩
  | quadratureCount sensor x =>
    exact ⟨_, rfl, hsame (takeCount_sound h hw) (takeCount_frame sensor x s .params (by decide))⟩
  | phaseError sensor =>
    refine ⟨_, rfl, PositionSound.tracked (h.setOdo ?_ ?_) (addOdoCause_frame _ _) rfl rfl, hp⟩
    · cases sensor <;> rfl
    · cases sensor <;> exact h.quiet_le
  | markDetection => exact ⟨_, rfl, detectMark_sound h hp⟩
  | positionSample => exact ⟨_, rfl, hsame (takeSample_sound h) (takeSample_frame s .params (by decide))⟩
  | holdTimerExpiry => exact ⟨_, rfl, kept (holdExpired_frame s) (holdExpired_lineKept s) (by decide) (by decide)⟩
  | deficitTimerExpiry =>
    exact ⟨_, rfl, kept (deficitExpired_frame s) (deficitExpired_lineKept s) (by decide) (by decide)⟩
  | sectionCommit hd id crc =>
    obtain ⟨t, ht, hl⟩ := exec_lineKept (.sectionCommit hd id crc) s (by simp) (by simp) (by simp) (by simp)
    cases ht
    exact ⟨_, rfl, kept (sectionCommit_frame hd id crc s) hl (by decide) (by decide)⟩
  | _ => exact absurd rfl hc

theorem idle_sound {s : State} (h : PositionSound s) : PositionSound (idle s) := by
  unfold idle; split
  · exact h.keep (.of_eq rfl) rfl le_rfl h.quiet_le
  · exact h.frame (setPending_frame _ s)

theorem idle_params (s : State) : (idle s).params = s.params := by unfold idle; split <;> rfl

/-- In VALID and DEGRADED the tracked position lies in the current section (R35). -/
theorem PositionSound.inSection {s : State} (h : PositionSound s) : PositionInSection s := by
  intro hk
  have hs : s.odo.state ≠ .unset := by rintro e; rw [e] at hk; cases hk
  have hf : s.odo.state ≠ .fault := by rintro e; rw [e] at hk; cases hk
  obtain ⟨ha, ht⟩ := (positionSound_iff s).1 h
  obtain ⟨c, lo, up, hc, hlo, hup, tlo, tup, -⟩ := ha.section_held hs
  obtain ⟨lo', up', hlo', hup', hl, hu⟩ := ht hs
  obtain rfl : lo = lo' := Option.some.inj (hlo.symm.trans hlo')
  obtain rfl : up = up' := Option.some.inj (hup.symm.trans hup')
  obtain ⟨r, hr, rfl⟩ := Option.map_eq_some_iff.1 tlo
  obtain ⟨x, hx, hxu⟩ := Option.map_eq_some_iff.1 tup
  obtain rfl : r = x := Option.some.inj (hr.symm.trans hx)
  replace hl := hl.resolve_right fun x => hf x.1
  replace hu := hu.resolve_right fun x => hf x.1
  exact ⟨c, r, hc, hr, by unfold pMm; omega, by unfold pMm; omega⟩

end Sys2Proof.Machine

namespace Sys2Proof.Proofs

set_option Elab.async false

open Machine

/-- Settles O28: a count moves the position by less than a section (`moved_near`), so one crossing brings the compares to it
again (`takeCompares_sound`); every other command keeps what the invariant reads, or loads it anew. -/
theorem positionStaysSound : Obligations.PositionStaysSound := by
  unfold Obligations.PositionStaysSound
  intro s t ht h hp hw
  have key : PositionSound t ∧ ParamsSound t.params := by
    unfold step at ht
    split at ht
    · cases ht
      exact ⟨idle_sound h, (idle_params s).symm ▸ hp⟩
    · next c rest hpend =>
      obtain ⟨u, hu, hsound⟩ := exec_sound c (s := s.setPending rest) (h.frame (setPending_frame rest s)) hp hw
      cases hu.symm.trans ht
      exact hsound
  exact ⟨key.1, key.2, key.1.inSection⟩

/-- Settles O19: an application alters attributes alone (`applied_lineKept`), and no other operation that reaches the
Section Table outside a load writes a record. -/
theorem geometryKept : Obligations.GeometryKept := by
  unfold Obligations.GeometryKept
  intro c s t ht h1 h2 h3
  rw [forall₂_sameGeometry_iff]
  by_cases h4 : c = .lineLoadEnd
  · subst h4; cases ht
    show List.map geometry (sealLine s).2.line.records = _
    rcases sealLine_cases s with e | ⟨-, fr⟩
    · rw [e]
    · rw [show (sealLine s).2.line = _ from fr .line (by decide)]; rfl
  · obtain ⟨u, hu, hl⟩ := exec_lineKept c s h1 h2 h3 h4
    cases hu.symm.trans ht
    exact hl.geometry

end Sys2Proof.Proofs
end

section
/-! PROOFS. The reads of the line (O14) and APPEND_SECTION (O13). -/

namespace Sys2Proof.Machine

set_option Elab.async false

/-! ### Answers -/

/-- A request refused, or done without effect: its result is answered and nothing else changes. -/
theorem answerResult_only (r : Req) {x : Result × State} {res : Result} {s : State} (h : x = (res, s)) :
    AnsweredOnly r res [] s (answerResult r x) := h ▸ answer_only r res [] s

theorem answerResult_answered (r : Req) (x : Result × State) : Answered r x.1 [] x.2.link (answerResult r x) :=
  answer_answered r x.1 [] x.2

/-- Blocks aside the link are not reached by an answer. -/
theorem OnlyChanges.answered {bs : List Block} {s t : State} (h : OnlyChanges bs s t) (r : Req) (res : Result)
    (data : List Byte) (hb : Block.link ∈ bs := by decide) : OnlyChanges bs s (answer r res data t) :=
  h.trans ((answer_frame r res data t).mono (by simpa using hb))

/-! ### Reads (R8, R9, R10, R16, R26) -/

theorem lineStart_cast (s : State) : (lineStart s : Int) = s.line.records.head?.elim 0 (fun r => (r.start : Int)) := by
  unfold lineStart; cases s.line.records.head? <;> simp

theorem lineEnd_cast (s : State) :
    (lineEnd s : Int) = s.line.records.getLast?.elim 0 (fun r => (r.start : Int) + r.length) := by
  unfold lineEnd; cases s.line.records.getLast? <;> simp

theorem readLine_answered (s : State) : ∃ t, exec .readLine s = .next t
    ∧ AnsweredOnly .readLine .accepted
        (u8 (lineStateCode s.line.state) ++ u16 s.line.records.length ++ u32 (lineStart s) ++ u32 (lineEnd s)
          ++ u16 s.line.check.toNat ++ updateBytes s.line.update) s t := ⟨_, rfl, answer_only _ _ _ s⟩

theorem readSection_answered (i : Nat) (s : State) : ∃ t, exec (.readSection i) s = .next t
    ∧ (∀ r, s.line.records[i]? = some r → AnsweredOnly .readSection .accepted (sectionBytes r) s t)
    ∧ (s.line.records.length ≤ i → AnsweredOnly .readSection .notFound (noRecord 31) s t) := by
  refine ⟨_, rfl, fun r hr => ?_, fun hi => ?_⟩
  · rw [show recordAt s i = some r from hr]; exact answer_only _ _ _ s
  · rw [show recordAt s i = none from List.getElem?_eq_none hi]; exact answer_only _ _ _ s

theorem readSectionNext_answered (s : State) : ∃ t, exec .readSectionNext s = .next t ∧ OnlyChanges [.link] s t
    ∧ (∀ r, s.line.records[s.link.secCursor]? = some r →
        Answered .readSectionNext .accepted (sectionBytes r) { s.link with secCursor := s.link.secCursor + 1 } t)
    ∧ (s.line.records.length ≤ s.link.secCursor →
        Answered .readSectionNext .endOfWalk (noRecord 31) s.link t) := by
  obtain ⟨t, ht, fr⟩ := readSectionNext_frame s
  refine ⟨t, ht, fr, fun r hr => ?_, fun hi => ?_⟩ <;> cases ht
  · rw [show recordAt s s.link.secCursor = some r from hr]; exact answer_answered _ _ _ _
  · rw [show recordAt s s.link.secCursor = none from List.getElem?_eq_none hi]; exact answer_answered _ _ _ s

theorem setSectionCursor_answered (i : Nat) (s : State) :
    ∃ t, exec (.setSectionCursor i) s = .next t ∧ OnlyChanges [.link] s t
      ∧ (i ≤ 256 → Answered .setSectionCursor .accepted [] { s.link with secCursor := i } t)
      ∧ (256 < i → Answered .setSectionCursor .badValue [] s.link t) := by
  obtain ⟨t, ht, fr⟩ := setSectionCursor_frame i s
  refine ⟨t, ht, fr, fun hi => ?_, fun hi => ?_⟩ <;> cases ht
  · rw [if_pos hi]; exact answer_answered _ _ _ _
  · rw [if_neg (by omega)]; exact answer_answered _ _ _ s

theorem readWindow_answered (k : Int) (s : State) : ∃ t, exec (.readWindow k) s = .next t
    ∧ ((k < -8 ∨ 23 < k) → AnsweredOnly .readWindow .badValue (noRecord 37) s t)
    ∧ (∀ e r, -8 ≤ k → k ≤ 23 → s.window[(k + 8).toNat]? = some (some e) → s.line.records[e.index]? = some r →
        AnsweredOnly .readWindow .accepted
          (sectionBytes r ++ u8 e.index ++ speed16 e.limit ++ u16 e.aS ++ flag8 e.noMargin) s t)
    ∧ (-8 ≤ k → k ≤ 23 → s.window[(k + 8).toNat]? = some none →
        AnsweredOnly .readWindow .none (noRecord 37) s t) := by
  have hw {o : Option WinEntry} (h : s.window[(k + 8).toNat]? = some o) : windowAt s k = o := by
    simp [windowAt, List.getD_eq_getElem?_getD, h]
  refine ⟨_, rfl, fun hk => ?_, fun e r h1 h2 he hr => ?_, fun h1 h2 he => ?_⟩
  · rw [if_pos hk]; exact answer_only _ _ _ s
  · rw [if_neg (by omega), hw he, Option.bind_some, show recordAt s e.index = some r from hr]
    exact answer_only _ _ _ s
  · rw [if_neg (by omega), hw he]; exact answer_only _ _ _ s

/-- An open update's fields in a READ_STAGE answer (R26). -/
def stagedFields (u : StagedUpdate) : List Byte :=
  u16 u.id ++ u8 (ownerCode u.owner) ++ u16 u.first ++ u8 u.count ++ u16 (receivedMask u)

theorem none32_some (i : Int) : none32 (some i) = u32 i := by unfold none32; exact Option.elim_some ..

theorem readStage_runs (s : State) : exec .readStage s = .next (answer .readStage .accepted
    (u8 (stagingCode s.staging) ++ (openStaged s).elim (noRecord 8) stagedFields
      ++ none32 ((holdTimer s).map (Int.ofNat ·))) s) := by
  show execReadStage s = _
  unfold execReadStage stagedFields
  cases openStaged s <;> rfl

theorem readStage_answered (s : State) : ∃ t, exec .readStage s = .next t
    ∧ (s.staging = .idle → AnsweredOnly .readStage .accepted
        (u8 0 ++ noRecord 8 ++ [0xFF#8, 0xFF#8, 0xFF#8, 0xFF#8]) s t)
    ∧ (∀ u, s.staging = .filling u → AnsweredOnly .readStage .accepted
        (u8 1 ++ u16 u.id ++ u8 (ownerCode u.owner) ++ u16 u.first ++ u8 u.count ++ u16 (receivedMask u)
          ++ [0xFF#8, 0xFF#8, 0xFF#8, 0xFF#8]) s t)
    ∧ (∀ u n, s.staging = .held u n → AnsweredOnly .readStage .accepted
        (u8 2 ++ u16 u.id ++ u8 (ownerCode u.owner) ++ u16 u.first ++ u8 u.count ++ u16 (receivedMask u)
          ++ u32 (n : Int)) s t) := by
  refine ⟨_, readStage_runs s, fun h => ?_, fun u h => ?_, fun u n h => ?_⟩
  · have ho : openStaged s = none := by simp [openStaged, h]
    have ht : holdTimer s = none := by simp [holdTimer, h]
    rw [ho, ht, h]
    exact answer_only _ _ _ s
  · have ho : openStaged s = some u := by simp [openStaged, h]
    have ht : holdTimer s = none := by simp [holdTimer, h]
    rw [ho, ht, h, Option.elim_some, stagedFields]
    simp only [← List.append_assoc]
    exact answer_only _ _ _ s
  · have ho : openStaged s = some u := by simp [openStaged, h]
    have ht : holdTimer s = some n := by simp [holdTimer, h]
    rw [ho, ht, h, Option.elim_some, stagedFields, Option.map_some, none32_some]
    simp only [← List.append_assoc]
    exact answer_only _ _ _ s

/-! ### A record from the link (R6, R18, R201) -/

/-- A carried record passes its checks exactly when its fields lie in the section record table, and is stored field by
field. -/
theorem sectionOfWire_iff (w : SectionWire) (r : SectionRec) :
    sectionOfWire w = some r ↔
      (fieldsGood w ∧ w.kind ≤ 2 ∧ (w.platformPresent = true → platformGood w))
      ∧ r.number = w.number ∧ r.start = w.start ∧ r.length = w.length ∧ r.gradient = w.gradient
      ∧ kindCode r.kind = w.kind ∧ r.limitUp = w.limitUp ∧ r.limitDown = w.limitDown ∧ r.cell = w.cell
      ∧ r.tunnel = w.tunnel ∧ r.mark = (if w.markPresent = true then some w.mark else none)
      ∧ r.platform.isSome = w.platformPresent
      ∧ (∀ p, r.platform = some p →
          p.id = w.platformId ∧ sideCode p.side = w.side ∧ p.lo = w.platformBegin ∧ p.hi = w.platformEnd) := by
  rw [sectionOfWire_eq_some]
  simp only [kindOfCode_iff, platformOfWire_eq_some]
  constructor
  · rintro ⟨hf, k, p, hk, ⟨hg, hsome, hp⟩, rfl⟩
    exact ⟨⟨hf, hk ▸ kindCode_le k, hg⟩, rfl, rfl, rfl, rfl, hk, rfl, rfl, rfl, rfl, rfl, hsome, hp⟩
  · obtain ⟨number, start, length, gradient, kind, up, down, cell, tunnel, platform, mark⟩ := r
    rintro ⟨⟨hf, -, hg⟩, rfl, rfl, rfl, rfl, hk, rfl, rfl, rfl, rfl, rfl, hsome, hp⟩
    exact ⟨hf, kind, platform, hk, ⟨hg, hsome, hp⟩, rfl⟩

/-- The checks of a carried record in the order of the section record table. -/
theorem fieldsGood_iff (w : SectionWire) :
    (fieldsGood w ∧ w.kind ≤ 2 ∧ (w.platformPresent = true → platformGood w)) ↔
      (w.number ≤ 65535 ∧ w.start ≤ 67108863 ∧ 10000 ≤ w.length ∧ w.length ≤ 2000000
      ∧ -480 ≤ w.gradient ∧ w.gradient ≤ 480 ∧ w.kind ≤ 2 ∧ w.limitUp ≤ 600 ∧ w.limitDown ≤ 600 ∧ w.cell ≤ 15
      ∧ (w.platformPresent = true → platformGood w)
      ∧ (w.markPresent = true → w.start ≤ w.mark ∧ w.mark < w.start + w.length ∧ w.mark ≤ 67108863)) := by
  constructor
  · rintro ⟨⟨hn, hs, hl, hl', hg, hg', hu, hd, hc, hm⟩, hk, hp⟩
    exact ⟨hn, hs, hl, hl', hg, hg', hk, hu, hd, hc, hp, hm⟩
  · rintro ⟨hn, hs, hl, hl', hg, hg', hk, hu, hd, hc, hp, hm⟩
    exact ⟨⟨hn, hs, hl, hl', hg, hg', hu, hd, hc, hm⟩, hk, hp⟩

theorem orderedRecord_eq_none {w : SectionWire} {rs : List SectionRec} :
    orderedRecord w rs = none ↔ sectionOfWire w = none ∨ 67108864 < w.start + w.length
      ∨ ∃ l, rs.getLast? = some l ∧ w.number ≤ l.number := by
  rw [← not_iff_not, ← ne_eq, Option.ne_none_iff_exists']
  simp only [orderedRecord_eq_some, exists_and_right, not_or, not_exists, not_and, not_lt, not_le, ← ne_eq,
    Option.ne_none_iff_exists']

theorem appendSection_answered (w : SectionWire) (s : State) : ∃ t, exec (.appendSection w) s = .next t
    ∧ (if s.line.state ≠ .loading then AnsweredOnly .appendSection .badState [] s t
      else if s.sup.mode ≠ .standby then AnsweredOnly .appendSection .mode [] s t
      else if 256 ≤ s.line.records.length then AnsweredOnly .appendSection .tableFull [] s t
      else if ∃ l, s.line.records.getLast? = some l ∧ w.start ≠ l.start + l.length then
        AnsweredOnly .appendSection .notContiguous [] s t
      else if sectionOfWire w = none ∨ 67108864 < w.start + w.length
          ∨ (∃ l, s.line.records.getLast? = some l ∧ w.number ≤ l.number) then
        AnsweredOnly .appendSection .badValue [] s t
      else
        ∃ r, sectionOfWire w = some r ∧ OnlyChanges [.link, .line] s t
          ∧ t.line = { s.line with records := s.line.records ++ [r] }
          ∧ Answered .appendSection .accepted [] s.link t) := by
  refine ⟨_, rfl, ?_⟩
  by_cases h1 : s.line.state ≠ .loading
  · rw [if_pos h1]; exact answerResult_only _ (by simp [appendSection, h1])
  rw [if_neg h1]
  by_cases h2 : s.sup.mode ≠ .standby
  · rw [if_pos h2]; exact answerResult_only _ (by simp [appendSection, h1, inStandby, h2])
  rw [if_neg h2]
  have hyard : inStandby s = true := by simpa [inStandby] using h2
  by_cases h3 : 256 ≤ s.line.records.length
  · rw [if_pos h3]; exact answerResult_only _ (by simp [appendSection, h1, hyard, h3, Config.recordMax])
  rw [if_neg h3]
  by_cases h4 : ∃ l, s.line.records.getLast? = some l ∧ w.start ≠ l.start + l.length
  · have hc : contiguous w s.line.records = false := by
      rw [← Bool.not_eq_true, contiguous_iff]; push Not; exact h4
    rw [if_pos h4]; exact answerResult_only _ (by simp [appendSection, h1, hyard, h3, hc, Config.recordMax])
  have hc : contiguous w s.line.records = true := by rw [contiguous_iff]; push Not at h4; exact h4
  rw [if_neg h4]
  by_cases h5 : orderedRecord w s.line.records = none
  · rw [if_pos (orderedRecord_eq_none.1 h5)]; exact answerResult_only _ (by simp [appendSection, h1, hyard, h3, hc, h5, Config.recordMax])
  rw [if_neg (mt orderedRecord_eq_none.2 h5)]
  obtain ⟨r, hr⟩ := Option.ne_none_iff_exists'.1 h5
  have e : appendSection w s = (.accepted, s.setLine { s.line with records := s.line.records ++ [r] }) := by
    simp [appendSection, h1, hyard, h3, hc, hr, Config.recordMax]
  rw [e]
  exact ⟨r, ((orderedRecord_eq_some _ _ _).1 hr).1, ((setLine_frame _ s).mono : OnlyChanges [.link, .line] s _).answered _ _ _,
    rfl, answerResult_answered _ _⟩

end Sys2Proof.Machine

namespace Sys2Proof.Proofs

set_option Elab.async false

open Machine

/-- Settles O14: each read answers as `…_answered` says. -/
theorem lineReads : Obligations.LineReads := by
  unfold Obligations.LineReads
  intro s
  refine ⟨?_, fun i => readSection_answered i s, readSectionNext_answered s, fun i => setSectionCursor_answered i s,
    fun k => readWindow_answered k s, readStage_answered s⟩
  obtain ⟨t, ht, h⟩ := readLine_answered s
  rw [lineStart_cast, lineEnd_cast, updateBytes.eq_def] at h
  exact ⟨t, ht, h⟩

/-- Settles O13: the record by `sectionOfWire_iff`, the request by `appendSection_answered`. -/
theorem appendSection : Obligations.AppendSection := by
  unfold Obligations.AppendSection
  exact ⟨fun w r => (sectionOfWire_iff w r).trans (and_congr_left fun _ => fieldsGood_iff w), appendSection_answered⟩

end Sys2Proof.Proofs
end

section
/-! PROOFS. What the owners do to the link is to set event flags; the two ends of a line load (O12). -/

namespace Sys2Proof.Machine

set_option Elab.async false

/-! ### Event flags -/

/-- The link of the second state is that of the first with event flags added (R193). -/
def FlagsGrow (s t : State) : Prop := ∃ f, t.link = { s.link with flags := s.link.flags ||| f }

theorem FlagsGrow.of_link {s t : State} (h : t.link = s.link) : FlagsGrow s t := ⟨0, by rw [h]; simp⟩

theorem FlagsGrow.of_flagged {s t : State} {f : EventFlag} (h : t.link = flagged f s.link) : FlagsGrow s t :=
  ⟨flagBit f, h⟩

theorem FlagsGrow.refl (s : State) : FlagsGrow s s := .of_link rfl

theorem FlagsGrow.trans {s t u : State} : FlagsGrow s t → FlagsGrow t u → FlagsGrow s u := by
  rintro ⟨f, hf⟩ ⟨g, hg⟩
  exact ⟨f ||| g, by rw [hg, hf, BitVec.or_assoc]⟩

theorem FlagsGrow.of_frame {bs : List Block} {s t : State} (h : OnlyChanges bs s t)
    (hb : Block.link ∉ bs := by decide) : FlagsGrow s t := .of_link (h .link hb)

theorem setFlag_grows (f : EventFlag) (s : State) : FlagsGrow s (setFlag f s) := ⟨flagBit f, rfl⟩

theorem restrChanged_grows (r : Restrictions) (s : State) : FlagsGrow s (restrChanged r s) :=
  setFlag_grows .restrictionChanged (s.setRestr r)

theorem judgePart_grows (w : PartEntry) (s : State) : FlagsGrow s (judgePart w s) := by
  unfold judgePart
  repeat' split
  all_goals first | exact restrChanged_grows _ _ | exact .refl _

/-! ### The part-issued entries (R65, R66) -/

theorem partRestriction_congr (w : PartEntry) {s t : State} (hl : t.line = s.line) (hp : t.params = s.params) :
    partRestriction w t = partRestriction w s := by
  unfold partRestriction lineStart lineEnd; rw [hl, hp]

/-- A part-issued entry that is absent is inserted when its cause holds (R66). -/
theorem judgePart_absent {w : PartEntry} {s : State} (hs : isSealed s = true)
    (hw : s.restr.table.getD (partIndex w) none = none) :
    (judgePart w s).restr.table =
      if partCause w s = true then s.restr.table.set (partIndex w) (some (partRestriction w s))
      else s.restr.table := by
  unfold judgePart
  rw [if_pos hs, hw]
  cases partCause w s with
  | false => rfl
  | true => exact (storeAt_changed .inserted (partIndex w) (partRestriction w s) s).2.1

/-! ### LINE_LOAD_BEGIN (R5, R27, R68) -/

theorem clearTable_empty {s : State} (h : ∀ e, some e ∉ s.restr.table) : clearTable s = s := by
  have : s.restr.table.any (·.isSome) = false := by
    rw [List.any_eq_false]
    intro o ho
    cases o with
    | none => simp
    | some e => exact absurd ho (h e)
  simp [clearTable, this]

theorem clearTable_held {s : State} (h : ∃ e, some e ∈ s.restr.table) :
    clearTable s = restrChanged { s.restr with
      table := List.replicate 32 none, overflow := 0, log := [⟨.tableCleared, none, none, s.restr.clock⟩] } s := by
  obtain ⟨e, he⟩ := h
  have : s.restr.table.any (·.isSome) = true := List.any_eq_true.2 ⟨some e, he, rfl⟩
  simp [clearTable, this]

theorem beginLineLoad_frame (s : State) :
    OnlyChanges [.link, .line, .window, .staging, .odo, .restr, .tele] s (beginLineLoad s) := by
  unfold beginLineLoad
  extract_lets l s1 s2 s3 k
  have h1 : OnlyChanges [.link, .line, .window, .staging, .odo, .restr, .tele] s s1 := (setLine_frame _ s).mono
  have h2 : OnlyChanges [.restr, .link, .staging, .tele] s1 s2 :=
    (clearTable_frame s1).andThen (dropStaging_frame (clearTable s1))
  have h3 : OnlyChanges [.odo, .window] s2 s3 :=
    (setOdo_frame (odoLineLoad s2.odo) s2).andThen (setWindow_frame (List.replicate 32 none) _)
  exact ((h1.trans h2.mono).trans h3.mono).trans (setLink_frame _ s3).mono

/-- The table's and the link's part of LINE_LOAD_BEGIN are those of `clearTable`, with the section cursor at 0. -/
theorem beginLineLoad_cleared (s : State) :
    (beginLineLoad s).restr = (clearTable s).restr
      ∧ (beginLineLoad s).link = { (clearTable s).link with secCursor := 0 }
      ∧ (beginLineLoad s).tele = { s.tele with heldStation := none } := by
  have hc (l : LineTable) : clearTable (s.setLine l) = (clearTable s).setLine l := by
    unfold clearTable restrChanged setFlag
    cases h : s.restr.table.any (·.isSome) with
    | false => simp [h]
    | true => simp [h]; rfl
  have ht := clearTable_frame (s.setLine { s.line with state := .loading, records := [], check := 0#16 }) .tele (by decide)
  unfold beginLineLoad
  refine ⟨?_, ?_, ?_⟩
  · dsimp only [dropStaging, State.setLink_restr, State.setWindow_restr, State.setOdo_restr]; rw [hc]; rfl
  · dsimp only [dropStaging, State.setLink_link]; rw [hc]; rfl
  · dsimp only [dropStaging]; rw [State.setLink_tele, State.setWindow_tele, State.setOdo_tele, State.setTele_tele, ht]; rfl

theorem lineLoadBegin_runs (s : State) : ∃ t, exec .lineLoadBegin s = .next t
    ∧ (s.sup.mode ≠ .standby → AnsweredOnly .lineLoadBegin .mode [] s t)
    ∧ (s.sup.mode = .standby →
        OnlyChanges [.link, .line, .window, .staging, .odo, .restr, .tele] s t
        ∧ t.line = { s.line with state := .loading, records := [], check := 0#16 }
        ∧ (∀ o ∈ t.restr.table, o = none) ∧ t.restr.clock = s.restr.clock ∧ t.restr.second = s.restr.second
        ∧ ((∃ e, some e ∈ s.restr.table) →
            t.restr.table.length = 32 ∧ t.restr.overflow = 0
            ∧ t.restr.log = [⟨.tableCleared, none, none, s.restr.clock⟩]
            ∧ Answered .lineLoadBegin .done [] { flagged .restrictionChanged s.link with secCursor := 0 } t)
        ∧ ((∀ e, some e ∉ s.restr.table) →
            t.restr = s.restr ∧ Answered .lineLoadBegin .done [] { s.link with secCursor := 0 } t)
        ∧ t.staging = .idle ∧ t.tele = { s.tele with heldStation := none }
        ∧ t.window = List.replicate 32 none
        ∧ t.odo = { s.odo with
            state := .unset, fault := none, pUm := 0, uUm := 0, carry := 0, cur := none, lower := none, upper := none,
            nextLower := none, nextUpper := none, source := .wheel, accPin := 0, accWhl := 0, cal := none }) := by
  refine ⟨_, rfl, fun hm => ?_, fun hm => ?_⟩
  · rw [if_neg (by simpa [inStandby] using hm)]; exact answer_only _ _ _ s
  rw [if_pos (by simpa [inStandby] using hm)]
  obtain ⟨hline, hodo, -⟩ := beginLineLoad_spec s
  obtain ⟨hrestr, hlink, htele⟩ := beginLineLoad_cleared s
  have hans (l : Link) (h : (beginLineLoad s).link = l) :
      Answered .lineLoadBegin .done [] l (answer .lineLoadBegin .done [] (beginLineLoad s)) :=
    h ▸ answer_answered _ _ _ _
  have hr : (answer .lineLoadBegin .done [] (beginLineLoad s)).restr = (clearTable s).restr := hrestr
  refine ⟨(beginLineLoad_frame s).answered _ _ _, hline, ?_, ?_, ?_, fun h => ?_, fun h => ?_, rfl, htele, rfl, hodo⟩
  · rw [hr]
    by_cases h : ∃ e, some e ∈ s.restr.table
    · rw [clearTable_held h]; exact fun o ho => List.eq_of_mem_replicate ho
    · rw [clearTable_empty (not_exists.1 h)]
      exact fun o ho => Option.eq_none_iff_forall_ne_some.2 fun e he => h ⟨e, he ▸ ho⟩
  · rw [hr]; unfold clearTable; split <;> rfl
  · rw [hr]; unfold clearTable; split <;> rfl
  · rw [hr]
    refine ⟨?_, ?_, ?_, hans _ (hlink.trans ?_)⟩ <;> rw [clearTable_held h] <;> rfl
  · rw [hr]
    refine ⟨?_, hans _ (hlink.trans ?_)⟩ <;> rw [clearTable_empty h]

/-! ### LINE_LOAD_END (R7, R66) -/

/-- A line sealed over an empty table: each part-issued entry is there exactly when its cause holds (R66). -/
theorem judgeParts_of_empty {s : State} (hs : isSealed s = true) (ht : s.restr.table = List.replicate 32 none) :
    (judgePart .odoDegraded (judgePart .radioLoss s)).restr.table =
      List.replicate 30 none
        ++ [if s.radio.link = .lost then some (partRestriction .radioLoss s) else none,
            if s.odo.state = .degraded then some (partRestriction .odoDegraded s) else none] := by
  have fr := judgePart_frame .radioLoss s
  have h1 := judgePart_absent (w := .radioLoss) hs (by rw [ht]; rfl)
  have hs' : isSealed (judgePart .radioLoss s) = true := by
    unfold isSealed; rw [show (judgePart .radioLoss s).line = s.line from fr .line (by decide)]; exact hs
  have hcause : partCause .odoDegraded (judgePart .radioLoss s) = partCause .odoDegraded s := by
    unfold partCause; rw [judgePart_odo]
  have hpart := partRestriction_congr .odoDegraded (fr .line (by decide)) (fr .params (by decide))
  have h2 : (judgePart .radioLoss s).restr.table.getD (partIndex .odoDegraded) none = none := by
    rw [h1, ht]; split <;> rfl
  rw [judgePart_absent hs' h2, hcause, hpart, h1, ht]
  unfold partCause
  by_cases hl : s.radio.link = .lost <;> by_cases hd : s.odo.state = .degraded <;> simp [hl, hd, partIndex]

theorem lineLoadEnd_runs (s : State) : ∃ t, exec .lineLoadEnd s = .next t
    ∧ (if s.line.state ≠ .loading ∨ s.line.records = [] then AnsweredOnly .lineLoadEnd .badState [] s t
      else if s.sup.mode ≠ .standby then AnsweredOnly .lineLoadEnd .mode [] s t
      else
        OnlyChanges [.link, .line, .restr] s t
        ∧ t.line = { s.line with state := .sealed, check := crc16 (s.line.records.flatMap sectionBytes) }
        ∧ (s.restr.table = List.replicate 32 none →
            (∀ k < 30, t.restr.table[k]? = some none)
            ∧ t.restr.table[30]? = some (if s.radio.link = .lost then some (partRestriction .radioLoss t) else none)
            ∧ t.restr.table[31]? =
                some (if s.odo.state = .degraded then some (partRestriction .odoDegraded t) else none))
        ∧ (∃ n, Answered .lineLoadEnd .done [] { s.link with flags := n } t)) := by
  refine ⟨_, rfl, ?_⟩
  by_cases h1 : s.line.state ≠ .loading ∨ s.line.records = []
  · rw [if_pos h1]; exact answerResult_only _ (by unfold sealLine; rw [if_pos h1])
  by_cases h2 : s.sup.mode ≠ .standby
  · rw [if_neg h1, if_pos h2]
    exact answerResult_only _ (by unfold sealLine; rw [if_neg h1, if_pos (by simpa [inStandby] using h2)])
  rw [if_neg h1, if_neg h2]
  let u := s.setLine { s.line with state := .sealed, check := lineCheckOf s.line.records }
  have e : sealLine s = (.done, judgePart .odoDegraded (judgePart .radioLoss u)) := by
    unfold sealLine; rw [if_neg h1, if_neg (by simpa [inStandby] using h2)]
  have fr : OnlyChanges [.restr, .link] u (judgePart .odoDegraded (judgePart .radioLoss u)) :=
    (judgePart_frame .radioLoss u).trans (judgePart_frame .odoDegraded _)
  obtain ⟨f, hf⟩ := (judgePart_grows .radioLoss u).trans (judgePart_grows .odoDegraded _)
  rw [e]
  refine ⟨OnlyChanges.answered (((setLine_frame _ s).mono).trans fr.mono) _ _ _, fr .line (by decide), fun ht => ?_,
    u.link.flags ||| f, ?_⟩
  · have htab := judgeParts_of_empty (s := u) rfl ht
    have hpart (w : PartEntry) := partRestriction_congr w (s := u)
      (t := answerResult .lineLoadEnd (.done, judgePart .odoDegraded (judgePart .radioLoss u)))
      (fr .line (by decide)) (fr .params (by decide))
    rw [hpart, hpart]
    change (∀ k < 30, (judgePart .odoDegraded (judgePart .radioLoss u)).restr.table[k]? = some none) ∧
      (judgePart .odoDegraded (judgePart .radioLoss u)).restr.table[30]? = _ ∧
      (judgePart .odoDegraded (judgePart .radioLoss u)).restr.table[31]? = _
    rw [htab]
    refine ⟨fun k hk => ?_, rfl, rfl⟩
    rw [List.getElem?_append_left (by simpa using hk), List.getElem?_replicate, if_pos hk]
  · exact hf ▸ answerResult_answered _ _

end Sys2Proof.Machine

namespace Sys2Proof.Proofs

set_option Elab.async false

open Machine

/-- Settles O12: the two requests one by one. -/
theorem lineLoad : Obligations.LineLoad := by
  unfold Obligations.LineLoad
  exact ⟨lineLoadBegin_runs, lineLoadEnd_runs⟩

end Sys2Proof.Proofs
end

section
/-! PROOFS. The Lookahead Window (O15). -/

namespace Sys2Proof.Machine

set_option Elab.async false

/-! ### The 32 entries (R11, R12, R13) -/

/-- The window entry a derivation makes at an offset. -/
def windowEntry (s : State) (k : Int) : Option WinEntry :=
  s.odo.cur.bind fun c => (offsetIndex s.sup.dir c k).bind fun i => (recordAt s i).map (deriveEntry s.params s.sup.dir i)

theorem derivedWindow_getElem? {s : State} {k : Int} (hlo : -8 ≤ k) (hhi : k ≤ 23) :
    (derivedWindow s)[(k + 8).toNat]? = some (windowEntry s k) := by
  have hoff : offsetOf (k + 8).toNat = k := by unfold offsetOf; omega
  unfold derivedWindow
  rw [List.getElem?_map, List.getElem?_range (by omega), Option.map_some, hoff]
  rfl

/-- What a derivation reads: the current section, the direction, the records and the two capabilities. -/
theorem derivedWindow_congr {s t : State} (hcur : t.odo.cur = s.odo.cur) (hdir : t.sup.dir = s.sup.dir)
    (hrec : t.line.records = s.line.records) (hrack : t.params.aRack = s.params.aRack)
    (hadh : t.params.aAdh = s.params.aAdh) : derivedWindow t = derivedWindow s := by
  unfold derivedWindow deriveEntry capability recordAt
  rw [hcur, hdir, hrec, hrack, hadh]

theorem derivedWindow_of_frame {bs : List Block} {s t : State} (h : OnlyChanges bs s t)
    (hrec : t.line.records = s.line.records)
    (hb : Block.params ∉ bs ∧ Block.odo ∉ bs ∧ Block.sup ∉ bs := by decide) : derivedWindow t = derivedWindow s := by
  have hp : t.params = s.params := h .params hb.1
  have ho : t.odo = s.odo := h .odo hb.2.1
  have hs : t.sup = s.sup := h .sup hb.2.2
  exact derivedWindow_congr (congrArg _ ho) (congrArg _ hs) hrec (congrArg _ hp) (congrArg _ hp)

theorem deriveWindow_window (s : State) : (deriveWindow s).window = derivedWindow s := by
  unfold deriveWindow; dsimp only; split <;> rfl

/-- The section an offset names, or none beyond either end of the table (R11). -/
theorem offsetIndex_eq (dir : Dir) (c : Nat) (k i : Int) (hi : i = if dir = .down then (c : Int) - k else c + k) :
    offsetIndex dir c k = if 0 ≤ i then some i.toNat else none := by subst hi; rfl

theorem windowEntry_outside {s : State} {c : Nat} {k i : Int} (hc : s.odo.cur = some c)
    (hi : i = if s.sup.dir = .down then (c : Int) - k else c + k) (h : i < 0 ∨ (s.line.records.length : Int) ≤ i) :
    windowEntry s k = none := by
  unfold windowEntry
  rw [hc, Option.bind_some, offsetIndex_eq _ _ _ _ hi]
  by_cases h0 : 0 ≤ i
  · rw [if_pos h0, Option.bind_some, show recordAt s i.toNat = none from List.getElem?_eq_none (by omega)]; rfl
  · rw [if_neg h0]; rfl

theorem windowEntry_inside {s : State} {c : Nat} {k i : Int} {r : SectionRec} (hc : s.odo.cur = some c)
    (hi : i = if s.sup.dir = .down then (c : Int) - k else c + k) (h0 : 0 ≤ i)
    (hr : s.line.records[i.toNat]? = some r) :
    windowEntry s k = some (deriveEntry s.params s.sup.dir i.toNat r) := by
  unfold windowEntry
  rw [hc, Option.bind_some, offsetIndex_eq _ _ _ _ hi, if_pos h0, Option.bind_some,
    show recordAt s i.toNat = some r from hr, Option.map_some]

/-- The static limit is the section's limit in mm/s, rounded down (R12). -/
theorem conv_eq_floor (n : Nat) : conv n = ⌊(n : ℚ) * 250 / 9⌋₊ := by
  have h := Nat.floor_div_eq_div (K := ℚ) (n * 250) 9
  push_cast at h
  rw [h]
  rfl

/-- The gravity term is `9,807 × descent / 1,000` rounded up (R13, step 2). -/
theorem gravityTerm_eq_ceil (d : Int) :
    (gravityTerm d : Int) = if 0 < d then ⌈((9807 * d : ℤ) : ℚ) / 1000⌉ else 0 := by
  unfold gravityTerm
  by_cases hd : 0 < d
  · rw [if_pos hd, if_pos hd, eq_comm, Int.ceil_eq_iff]
    have hq : ((((9807 * d.toNat + 999) / 1000 : Nat) : Int) - 1) * 1000 < 9807 * d
        ∧ 9807 * d ≤ (((9807 * d.toNat + 999) / 1000 : Nat) : Int) * 1000 := by omega
    constructor
    · rw [lt_div_iff₀ (by norm_num)]; exact_mod_cast hq.1
    · rw [div_le_iff₀ (by norm_num)]; exact_mod_cast hq.2
  · rw [if_neg hd, if_neg hd]; rfl

/-- The effective deceleration is the capability less gravity and never below 0 (R13). -/
theorem deriveEntry_margin (p : Params) (dir : Dir) (i : Nat) (r : SectionRec) :
    ((deriveEntry p dir i r).aS : Int) = max 0 ((capability p r.kind : Int) - gravityTerm (descent dir r))
      ∧ ((deriveEntry p dir i r).noMargin = true ↔ (capability p r.kind : Int) - gravityTerm (descent dir r) < 0) := by
  unfold deriveEntry
  simp only [decide_eq_true_eq]
  omega

/-! ### The NO_MARGIN notice (R15) -/

/-- A NO_MARGIN section that the window before did not name with NO_MARGIN. -/
def NewlyNoMargin (old : List (Option WinEntry)) (e : WinEntry) : Prop :=
  e.noMargin = true ∧ ∀ f, some f ∈ old → f.index = e.index → f.noMargin = false

/-- The window place `newNoMargin` looks for. -/
theorem newlyNoMargin_iff (old : List (Option WinEntry)) (o : Option WinEntry) :
    (o.any (fun e => e.noMargin && !old.any (fun p => p.any (fun f => f.index == e.index && f.noMargin)))) = true
      ↔ ∃ e, o = some e ∧ NewlyNoMargin old e := by
  simp only [NewlyNoMargin, Bool.and_eq_true, Bool.not_eq_true', List.any_eq_false, Option.any_eq_true, not_exists,
    not_and, beq_iff_eq, Bool.not_eq_true]
  refine exists_congr fun e => and_congr_right fun _ => and_congr_right fun _ => ?_
  exact ⟨fun h f hf => h _ hf f rfl, fun h o ho f hf => h f (hf ▸ ho)⟩

theorem newNoMargin_first {old new : List (Option WinEntry)} {k : Nat} {e : WinEntry} (hk : new[k]? = some (some e))
    (he : NewlyNoMargin old e) (hfirst : ∀ j < k, ∀ f, new[j]? = some (some f) → ¬ NewlyNoMargin old f) :
    newNoMargin old new = some e := by
  obtain ⟨hlt, hget⟩ := List.getElem?_eq_some_iff.1 hk
  unfold newNoMargin
  rw [List.find?_eq_some_iff_getElem.2 ⟨(newlyNoMargin_iff _ _).2 ⟨e, rfl, he⟩, k, hlt, hget, fun j hj => ?_⟩]
  · rfl
  · have hj' := hfirst j hj
    rw [List.getElem?_eq_getElem (by omega)] at hj'
    rw [Bool.not_eq_true', ← Bool.not_eq_true, newlyNoMargin_iff]
    rintro ⟨f, hf, hnew⟩
    exact hj' f (by rw [hf]) hnew

theorem newNoMargin_none {old new : List (Option WinEntry)} (h : ∀ e, some e ∈ new → ¬ NewlyNoMargin old e) :
    newNoMargin old new = none := by
  unfold newNoMargin
  rw [List.find?_eq_none.2 fun o ho => ?_]
  · rfl
  · rw [newlyNoMargin_iff]
    rintro ⟨e, rfl, he⟩
    exact h e ho he

theorem deriveWindow_notice {s : State} {e : WinEntry} {r : SectionRec}
    (he : newNoMargin s.window (derivedWindow s) = some e) (hr : s.line.records[e.index]? = some r) :
    (deriveWindow s).line = { s.line with update := some (.noMargin r.number) }
      ∧ (deriveWindow s).link = flagged .lineUpdate s.link := by
  unfold deriveWindow
  dsimp only
  rw [he, Option.bind_some, show recordAt s e.index = some r from hr]
  exact ⟨rfl, rfl⟩

theorem deriveWindow_silent {s : State} (he : newNoMargin s.window (derivedWindow s) = none) :
    deriveWindow s = s.setWindow (derivedWindow s) := by
  unfold deriveWindow; dsimp only; rw [he]; rfl

theorem deriveWindow_grows (s : State) : FlagsGrow s (deriveWindow s) := by
  unfold deriveWindow
  dsimp only
  split
  · exact .refl _
  · exact setFlag_grows .lineUpdate _

end Sys2Proof.Machine

namespace Sys2Proof.Proofs

set_option Elab.async false

open Machine

/-- Settles O15: the notice by `newNoMargin`, the entries by `windowEntry`. -/
theorem windowDerived : Obligations.WindowDerived := by
  unfold Obligations.WindowDerived
  refine ⟨fun s => ⟨fun k e r hk he hfirst hr => ?_, fun h => ?_⟩, fun s k hlo hhi => ?_⟩
  · rw [deriveWindow_window] at hk hfirst
    exact deriveWindow_notice (newNoMargin_first hk he hfirst) hr
  · rw [deriveWindow_window] at h
    rw [deriveWindow_silent (newNoMargin_none h)]
    exact ⟨rfl, rfl⟩
  · rw [deriveWindow_window, derivedWindow_getElem? hlo hhi]
    refine ⟨(deriveWindow_frame s).mono, fun hc => by unfold windowEntry; rw [hc]; rfl, fun c hc => ⟨fun h => ?_, ?_⟩⟩
    · rw [windowEntry_outside hc rfl h]
    · intro r h0 hr
      refine ⟨_, congrArg some (windowEntry_inside hc rfl h0 hr), rfl, conv_eq_floor _, ?_⟩
      have hm := deriveEntry_margin s.params s.sup.dir (if s.sup.dir = .down then (c : Int) - k else c + k).toNat r
      rw [gravityTerm_eq_ceil] at hm
      unfold capability at hm
      rw [Nat.cast_ite] at hm
      exact hm

end Sys2Proof.Proofs
end

section
/-! PROOFS. Power-on reset and the output pins (O10), and the soft reset (O9). -/

namespace Sys2Proof.Machine

set_option Elab.async false

/-! ### Output pins (R103, R121, R195) -/

/-- The outputs of a leaf state: motor open, motor close, lock coil (R121). -/
theorem leafOutputs_eq (st : LeafState) : leafOutputs st =
    (st == .opening || st == .reopening, st == .closing,
      st == .unlocking || st == .unlocked || st == .opening || st == .opened || st == .closing || st == .reopening) := by
  cases st <;> rfl

theorem flagIndex_onto (k : Nat) (hk : k < 10) : ∃ f, flagIndex f = k := by
  have h : ∀ k : Fin 10, ∃ f, flagIndex f = k := by
    intro k
    fin_cases k
    exacts [⟨.powerOn, rfl⟩, ⟨.resetDone, rfl⟩, ⟨.restrictionChanged, rfl⟩, ⟨.lineUpdate, rfl⟩, ⟨.modeChanged, rfl⟩,
      ⟨.interventionChanged, rfl⟩, ⟨.odometry, rfl⟩, ⟨.doorEvent, rfl⟩, ⟨.brakeFault, rfl⟩, ⟨.radioEvent, rfl⟩]
  exact h ⟨k, hk⟩

/-- ATTN is driven when an enabled flag is set (R195). -/
theorem attention_iff (l : Link) :
    attention l = true ↔ ∃ f : EventFlag, l.flags.getLsbD (flagIndex f) = true ∧ l.mask.getLsbD (flagIndex f) = true := by
  unfold attention
  rw [bne_iff_ne]
  constructor
  · intro h
    by_contra hno
    refine h (BitVec.eq_of_getLsbD_eq fun k hk => ?_)
    obtain ⟨f, rfl⟩ := flagIndex_onto k hk
    rw [BitVec.getLsbD_and, BitVec.getLsbD_zero, ← Bool.not_eq_true, Bool.and_eq_true]
    exact fun hf => hno ⟨f, hf⟩
  · rintro ⟨f, hflag, hmask⟩ h
    have hbit := congrArg (fun b : BitVec 10 => b.getLsbD (flagIndex f)) h
    simp [BitVec.getLsbD_and, hflag, hmask] at hbit

theorem rbcoil_iff (b : Brakes) : rbcoil b = true ↔ b.rack = .releasing ∨ b.rack = .released := by
  simp [rbcoil]

theorem drives_eq (ls : Leaves) :
    (allLeaves ls).map (fun l => leafOutputs l.state) =
      [LeafId.l1, .l2, .l3, .r4, .r5, .r6].map (fun id => leafOutputs (getLeaf ls id).state) := rfl

/-! ### The leaves a reset leaves (R120) -/

theorem leafReset_eq (l : Leaf) :
    leafReset l = { Leaf.reset with
      state := if l.cls = true ∧ l.lks = true then .locked else .halted,
      cls := l.cls, lks := l.lks, ops := l.ops, pb := l.pb } := by
  unfold leafReset; simp only [Bool.and_eq_true]; rfl

theorem getLeaf_leavesReset (ls : Leaves) (id : LeafId) : getLeaf (leavesReset ls) id = leafReset (getLeaf ls id) :=
  getLeaf_mapLeaves _ _ _

/-- No leaf is ISOLATED after a reset, so car closed is that every leaf is LOCKED (R140). -/
theorem carClosed_leavesReset (ls : Leaves) :
    carClosed (leavesReset ls) = true ↔ ∀ id, (getLeaf (leavesReset ls) id).state = .locked := by
  have hleaf (l : Leaf) : leafClosed (leafReset l) = true ↔ (leafReset l).state = .locked := by
    unfold leafClosed leafReset; cases l.cls && l.lks <;> simp
  have hall (p : Leaf → Prop) :
      (∀ l ∈ allLeaves (leavesReset ls), p l) ↔ ∀ id, p (getLeaf (leavesReset ls) id) := by
    constructor
    · intro h id; exact h _ (by cases id <;> simp [allLeaves, getLeaf])
    · simp only [allLeaves, List.forall_mem_cons]
      intro h; exact ⟨h .l1, h .l2, h .l3, h .r4, h .r5, h .r6, by simp⟩
  unfold carClosed
  rw [List.all_eq_true, hall]
  exact forall_congr' fun id => by rw [getLeaf_leavesReset]; exact hleaf _

/-! ### Soft reset (R198) -/

theorem softReset_frame (s : State) :
    OnlyChanges [.link, .window, .staging, .odo, .restr, .sup, .brakes, .doors, .radio, .tele, .analog] s
      (softReset s) := by
  intro b hb; cases b <;> first | rfl | exact absurd (by decide) hb

/-- The table after a soft reset: the part-issued entries alone, the link LOST (R53, R66). -/
theorem resetTable_eq (s : State) : resetTable s =
    List.replicate 30 none
      ++ [if isSealed s && partCause .radioLoss s then some (partRestriction .radioLoss s) else none,
          if isSealed s && partCause .odoDegraded s then some (partRestriction .odoDegraded s) else none] := rfl

theorem softReset_part (w : PartEntry) (s : State) : partRestriction w (softResetBlocks s) = partRestriction w s :=
  partRestriction_congr w rfl rfl

theorem softReset_table (s : State) : (softReset s).restr.table =
    List.replicate 30 none
      ++ [if s.line.state = .sealed then some (partRestriction .radioLoss s) else none,
          if s.line.state = .sealed ∧ s.odo.state = .degraded then some (partRestriction .odoDegraded s) else none] := by
  show resetTable (softResetBlocks s) = _
  have hs : isSealed (softResetBlocks s) = (s.line.state == .sealed) := rfl
  have hr : partCause .radioLoss (softResetBlocks s) = true := rfl
  have ho : partCause .odoDegraded (softResetBlocks s) = (s.odo.state == .degraded) := rfl
  rw [resetTable_eq, softReset_part, softReset_part, hs, hr, ho]
  simp only [Bool.and_true, Bool.and_eq_true, beq_iff_eq]

theorem softReset_window (s : State) : (softReset s).window = derivedWindow (softReset s) := by
  show derivedWindow ((softResetBlocks s).setRestr (restrSoftReset (softResetBlocks s))) = _
  exact derivedWindow_congr rfl rfl rfl rfl rfl

theorem softReset_link (s : State) : (softReset s).link =
    { s.link with rx := [], rxBits := [], rxCount := 0, shifted := 0,
                  store := none, flags := flagBit .resetDone, secCursor := 0, resCursor := 0,
                  response := responseOf (reqCode .reset) .done [] (softReset s) } :=
  respond_link _ _ _ _

end Sys2Proof.Machine

namespace Sys2Proof.Proofs

set_option Elab.async false

open Machine

/-- Settles O10: each block's value by the definition of `powerOn`, the pins by the equations above. -/
theorem powerOnReset : Obligations.PowerOnReset := by
  unfold Obligations.PowerOnReset
  refine ⟨fun s => ⟨powerOn s, rfl, rfl, rfl, rfl, rfl, rfl, rfl, rfl, rfl, rfl, rfl, rfl, rfl, rfl, rfl, rfl, rfl,
    fun id => ?_⟩, fun s => ⟨rfl, ?_, rfl, rfl, rbcoil_iff _, rfl, rfl, rfl, rfl, ?_⟩⟩
  · have h : getLeaf (powerOn s).doors.leaves id = leafReset (getLeaf s.doors.leaves id) := getLeaf_leavesReset _ _
    rw [h, leafReset_eq]
    exact ⟨rfl, rfl, rfl, rfl, rfl, rfl, rfl, rfl⟩
  · rw [← attention_iff]
    show (!attention s.link) = false ↔ _
    rw [Bool.not_eq_false']
  · show (allLeaves s.doors.leaves).map (fun l => leafOutputs l.state) = _
    rw [drives_eq]
    simp only [leafOutputs_eq]

/-- Settles O9: refused without standstill, else `softReset`, block by block. -/
theorem softReset : Obligations.SoftReset := by
  unfold Obligations.SoftReset
  intro s
  refine ⟨_, rfl, fun h => ?_, fun h => ?_⟩
  · rw [if_neg (by unfold atStandstill; rw [h]; decide)]; exact answer_only _ _ _ s
  rw [if_pos (show atStandstill s = true from h)]
  have hleaf (id : LeafId) : getLeaf (Machine.softReset s).doors.leaves id = leafReset (getLeaf s.doors.leaves id) :=
    getLeaf_leavesReset _ _
  refine ⟨softReset_frame s, softReset_link s, rfl, rfl, softReset_window s, rfl, rfl, rfl, rfl, rfl, rfl, rfl, rfl, rfl,
    rfl, rfl, rfl, rfl, rfl, rfl, rfl, rfl, rfl, rfl, rfl, rfl, rfl, rfl, rfl, rfl, rfl, rfl, rfl, rfl, rfl, rfl, rfl,
    rfl, rfl, rfl, ?_, ?_, ?_, ?_, rfl, rfl, rfl, rfl, rfl, rfl, rfl, rfl, rfl, rfl, rfl, rfl, rfl, rfl, rfl, rfl, rfl,
    rfl, carClosed_leavesReset _, fun id => (hleaf id).trans (leafReset_eq _), rfl, rfl, rfl, rfl, rfl, rfl, rfl, rfl,
    rfl, rfl, ?_⟩
  · rw [softReset_table]; rfl
  · rw [softReset_table]
    intro k hk
    rw [List.getElem?_append_left (by simpa using hk), List.getElem?_replicate, if_pos hk]
  · rw [softReset_table]; rfl
  · rw [softReset_table]; rfl
  · rfl

end Sys2Proof.Proofs
end

section
/-! PROOFS. READ_PARAMETER and SET_PARAMETER (O8). -/

namespace Sys2Proof.Machine

set_option Elab.async false

theorem readParameter_answered (n : Nat) (s : State) : ∃ t, exec (.readParameter n) s = .next t
    ∧ (paramRow n = none → AnsweredOnly .readParameter .notFound (noRecord 16) s t)
    ∧ (∀ r, paramRow n = some r →
        AnsweredOnly .readParameter .accepted
          (u32 (paramGet n s.params) ++ u32 r.low ++ u32 r.high ++ u32 r.default) s t) := by
  refine ⟨_, rfl, fun h => ?_, fun r h => ?_⟩
  · rw [h]; exact answer_only _ _ _ s
  · rw [h]; exact answer_only _ _ _ s

/-! ### The checks (R197) -/

/-- A new value breaks no condition between parameters (R28, R100). -/
def ConditionsMet (n v : Nat) (p : Params) : Prop :=
  (n = 9 → p.markTol ≤ v) ∧ (n = 11 → v ≤ p.uMax) ∧ (n = 24 → v < p.dvEb) ∧ (n = 25 → p.dvSb < v)

theorem paramConditions_iff (n v : Nat) (p : Params) :
    paramConditions n (paramPut n v p) = true ↔ ConditionsMet n v p := by
  unfold ConditionsMet
  by_cases h9 : n = 9
  · subst h9; simp [paramConditions, paramPut]
  by_cases h11 : n = 11
  · subst h11; simp [paramConditions, paramPut]
  by_cases h24 : n = 24
  · subst h24; simp [paramConditions, paramPut]
  by_cases h25 : n = 25
  · subst h25; simp [paramConditions, paramPut]
  simp [paramConditions, h9, h11, h24, h25]

theorem setParameter_noRow {n v : Nat} {s : State} (h : paramRow n = none) : setParameter n v s = (.notFound, s) := by
  unfold setParameter; rw [h]

theorem setParameter_moving {n v : Nat} {s : State} {r : ParamRow} (h : paramRow n = some r)
    (hm : s.sup.mode ≠ .standby) : setParameter n v s = (.mode, s) := by
  have : (!inStandby s) = true := by simpa [inStandby] using hm
  unfold setParameter; rw [h]; dsimp only; rw [if_pos this]

theorem setParameter_bad {n v : Nat} {s : State} {r : ParamRow} (h : paramRow n = some r) (hm : s.sup.mode = .standby)
    (hv : v < r.low ∨ r.high < v ∨ ¬ ConditionsMet n v s.params) : setParameter n v s = (.badValue, s) := by
  have : ¬ (!inStandby s) = true := by simp [inStandby, hm]
  rw [← paramConditions_iff, Bool.not_eq_true] at hv
  unfold setParameter; rw [h]; dsimp only; rw [if_neg this, if_pos hv]

theorem setParameter_good {n v : Nat} {s : State} {r : ParamRow} (h : paramRow n = some r) (hm : s.sup.mode = .standby)
    (hlo : r.low ≤ v) (hhi : v ≤ r.high) (hc : ConditionsMet n v s.params) :
    setParameter n v s = (.done, if paramGet n s.params = v then s
      else paramTold n (s.setParams (paramPut n v s.params))) := by
  have hs : ¬ (!inStandby s) = true := by simp [inStandby, hm]
  rw [← paramConditions_iff] at hc
  have hv : ¬ (v < r.low ∨ r.high < v ∨ paramConditions n (paramPut n v s.params) = false) := by
    rw [hc]; simp; omega
  unfold setParameter; rw [h]; dsimp only; rw [if_neg hs, if_neg hv]
  split <;> rfl

/-! ### What an owner does at once (R14, R28, R34, R65) -/

theorem paramTold_unread {n : Nat} {s : State} (h : n ∉ [3, 9, 13, 14, 17, 18]) : paramTold n s = s := by
  simp only [List.mem_cons, List.not_mem_nil, or_false, not_or] at h
  obtain ⟨h3, h9, h13, h14, h17, h18⟩ := h
  unfold paramTold; split <;> first | contradiction | rfl

theorem paramTold_capability {n : Nat} (h : n = 13 ∨ n = 14) (s : State) : paramTold n s = deriveWindow s := by
  rcases h with rfl | rfl <;> rfl

/-- The part-issued entry whose limit a parameter holds. -/
def limitedPart (n : Nat) : PartEntry := if n = 17 then .radioLoss else .odoDegraded

theorem paramTold_limit {n : Nat} (h : n = 17 ∨ n = 18) (s : State) : paramTold n s = relimitPart (limitedPart n) s := by
  rcases h with rfl | rfl <;> rfl

theorem paramTold_kept (n : Nat) (s : State) :
    OnlyChanges [.window, .line, .link, .odo, .restr] s (paramTold n s) := by
  by_cases h3 : n = 3
  · subst h3; exact (setOdo_frame _ s).mono
  by_cases h9 : n = 9
  · subst h9
    show OnlyChanges _ s (if _ then _ else _)
    split
    · exact (setOdo_frame _ s).mono
    · exact .refl _ _
  exact OnlyChanges.mono (paramTold_frame n s h3 h9)

theorem relimitPart_present {w : PartEntry} {s : State} {e : Restriction}
    (h : s.restr.table[partIndex w]? = some (some e)) :
    EntryChanged .updated none (partIndex w) e (some { e with limit := (partRestriction w s).limit }) s
      (relimitPart w s) := by
  unfold relimitPart
  rw [List.getD_eq_getElem?_getD, h]
  exact storeAt_changed .updated (partIndex w) { e with limit := (partRestriction w s).limit } s

theorem relimitPart_absent {w : PartEntry} {s : State} (h : s.restr.table[partIndex w]? = some none) :
    relimitPart w s = s := by
  unfold relimitPart
  rw [List.getD_eq_getElem?_getD, h]
  rfl

/-- A parameter taken with a value not in force: its own value alone, and what its owner does at once (R197). -/
theorem setParameter_taken {n v : Nat} {r : ParamRow} (hr : paramRow n = some r) (s t : State)
    (ht : t = answerResult .setParameter (.done, paramTold n (s.setParams (paramPut n v s.params)))) :
    paramGet n t.params = v
    ∧ (∀ m, m ≠ n → paramGet m t.params = paramGet m s.params)
    ∧ OnlyChanges [.params, .link, .window, .line, .odo, .restr] s t
    ∧ (n ∉ [3, 9, 13, 14, 17, 18] → OnlyChanges [.params, .link] s t
        ∧ Answered .setParameter .done [] s.link t)
    ∧ (n = 3 → OnlyChanges [.params, .link, .odo] s t ∧ Answered .setParameter .done [] s.link t
        ∧ t.odo = { s.odo with quiet := min s.odo.quiet v })
    ∧ (n = 9 → OnlyChanges [.params, .link, .odo] s t ∧ Answered .setParameter .done [] s.link t
        ∧ t.odo = if v * 1000 < s.odo.uUm then { s.odo with uUm := v * 1000, carry := 0 } else s.odo)
    ∧ (n = 13 ∨ n = 14 → OnlyChanges [.params, .link, .window, .line] s t
        ∧ t.window = derivedWindow t
        ∧ t.line = (deriveWindow (s.setParams t.params)).line
        ∧ Answered .setParameter .done [] (deriveWindow (s.setParams t.params)).link t)
    ∧ (n = 17 ∨ n = 18 → OnlyChanges [.params, .link, .restr] s t
        ∧ (∀ e, s.restr.table[if n = 17 then 30 else 31]? = some (some e) →
            t.restr.table = s.restr.table.set (if n = 17 then 30 else 31) (some { e with limit := v })
            ∧ t.restr.clock = s.restr.clock ∧ t.restr.second = s.restr.second
            ∧ Logged ⟨.updated, none, some (e.issuer, e.id, e.kind, if n = 17 then 30 else 31),
                s.restr.clock⟩ s.restr t.restr
            ∧ Answered .setParameter .done [] (flagged .restrictionChanged s.link) t)
        ∧ (s.restr.table[if n = 17 then 30 else 31]? = some none →
            t.restr = s.restr ∧ Answered .setParameter .done [] s.link t)) := by
  let u := s.setParams (paramPut n v s.params)
  have hu : OnlyChanges [.params] s u := setParams_frame _ s
  have fr : OnlyChanges [.window, .line, .link, .odo, .restr] u (paramTold n u) := paramTold_kept n u
  have hparams : t.params = paramPut n v s.params := by rw [ht]; exact fr .params (by decide)
  have hans : Answered .setParameter .done [] (paramTold n u).link t := ht ▸ answerResult_answered _ _
  have hframe {bs : List Block} (h : OnlyChanges bs u (paramTold n u)) (hb : Block.params ∈ bs) (hl : Block.link ∈ bs) :
      OnlyChanges bs s t := ht ▸ OnlyChanges.answered ((hu.mono (by simpa using hb)).trans h) _ _ _ hl
  refine ⟨?_, fun m hm => ?_, hframe fr.mono (by decide) (by decide), fun h => ?_, ?_, ?_, fun h => ?_, fun h => ?_⟩
  · rw [hparams]; exact paramGet_paramPut_same hr v _
  · rw [hparams]; exact paramGet_paramPut_ne hr v _ hm
  · have e : paramTold n u = u := paramTold_unread h
    rw [e] at hans
    exact ⟨hframe (by rw [e]; exact .refl _ _) (by decide) (by decide), hans⟩
  · rintro rfl
    exact ⟨hframe (setOdo_frame _ u).mono (by decide) (by decide), hans, by rw [ht]; rfl⟩
  · rintro rfl
    have e : paramTold 9 u = if v * 1000 < s.odo.uUm then u.setOdo { s.odo with uUm := v * 1000, carry := 0 } else u := rfl
    rw [e] at hans
    have ho : t.odo = (paramTold 9 u).odo := by rw [ht]; rfl
    rw [e] at ho
    by_cases hlt : v * 1000 < s.odo.uUm
    · rw [if_pos hlt] at hans ho ⊢
      exact ⟨hframe (by rw [e, if_pos hlt]; exact (setOdo_frame _ u).mono) (by decide) (by decide), hans, ho⟩
    · rw [if_neg hlt] at hans ho ⊢
      exact ⟨hframe (by rw [e, if_neg hlt]; exact .refl _ _) (by decide) (by decide), hans, ho⟩
  · have e : paramTold n u = deriveWindow u := paramTold_capability h u
    have frd := deriveWindow_frame u
    rw [hparams]
    rw [e] at hans
    refine ⟨hframe (by rw [e]; exact frd.mono) (by decide) (by decide), ?_, by rw [ht, ← e]; rfl, hans⟩
    rw [ht, e]
    exact (deriveWindow_window u).trans (derivedWindow_of_frame frd (deriveWindow_records u)).symm
  · have e : paramTold n u = relimitPart (limitedPart n) u := paramTold_limit h u
    have hi : (if n = 17 then 30 else 31) = partIndex (limitedPart n) := by rcases h with rfl | rfl <;> rfl
    have hlim : (partRestriction (limitedPart n) u).limit = v := by rcases h with rfl | rfl <;> rfl
    have hr' : t.restr = (relimitPart (limitedPart n) u).restr := by rw [ht, ← e]; rfl
    rw [e] at hans
    rw [hi, hr']
    refine ⟨hframe (by rw [e]; exact (relimitPart_frame _ u).mono) (by decide) (by decide), fun x hx => ?_, fun hx => ?_⟩
    · obtain ⟨-, htab, hclock, hsec, hlog, hlink⟩ := relimitPart_present (s := u) hx
      rw [hlim] at htab
      rw [hlink] at hans
      exact ⟨htab, hclock, hsec, hlog, hans⟩
    · rw [relimitPart_absent (s := u) hx] at hans ⊢
      exact ⟨rfl, hans⟩

end Sys2Proof.Machine

namespace Sys2Proof.Proofs

set_option Elab.async false

open Machine

/-- Settles O8: the checks by `setParameter_…`, the value taken by `setParameter_taken`. -/
theorem parameters : Obligations.Parameters := by
  unfold Obligations.Parameters
  refine ⟨readParameter_answered, fun n v s => ⟨_, rfl, fun h => ?_, fun r hr => ⟨fun hm => ?_, fun hm hv => ?_,
    fun hm hc => ?_, fun hm hlo hhi h9 h11 h24 h25 => ?_⟩⟩⟩
  · exact answerResult_only _ (setParameter_noRow h)
  · exact answerResult_only _ (setParameter_moving hr hm)
  · exact answerResult_only _ (setParameter_bad hr hm (by tauto))
  · refine answerResult_only _ (setParameter_bad hr hm (.inr (.inr ?_)))
    rintro ⟨h9, h11, h24, h25⟩
    rcases hc with ⟨hn, hv⟩ | ⟨hn, hv⟩ | ⟨hn, hv⟩ | ⟨hn, hv⟩
    · exact absurd (h9 hn) (Nat.not_le.2 hv)
    · exact absurd (h11 hn) (Nat.not_le.2 hv)
    · exact absurd (h24 hn) (Nat.not_lt.2 hv)
    · exact absurd (h25 hn) (Nat.not_lt.2 hv)
  · have e := setParameter_good hr hm hlo hhi ⟨h9, h11, h24, h25⟩
    refine ⟨fun hv => answerResult_only _ (by rw [e, if_pos hv]), fun hv => ?_⟩
    rw [if_neg hv] at e
    exact setParameter_taken hr s _ (by rw [e])

end Sys2Proof.Proofs
end

section
/-! PROOFS. The Staging Buffer: blocks (O16), commits (O17), aborts and the hold timer (O18). -/

namespace Sys2Proof.Machine

set_option Elab.async false

/-! ### Blocks (R18, R19) -/

theorem blockRecord_eq_none {b : BlockWire} :
    blockRecord b = none ↔ b.id = 0 ∨ 65535 < b.id ∨ b.count = 0 ∨ 16 < b.count ∨ 65535 < b.first + b.count - 1
      ∨ b.count ≤ b.index ∨ b.record.number ≠ b.first + b.index ∨ sectionOfWire b.record = none := by
  unfold blockRecord
  split
  · next h =>
    constructor
    · exact fun hr => by simp [hr]
    · rintro (h | h | h | h | h | h | h | h) <;> first | exact h | omega
  · next h => exact ⟨fun _ => by omega, fun _ => rfl⟩

theorem blockRecord_eq_some {b : BlockWire} {r : SectionRec} (h : blockRecord b = some r) :
    sectionOfWire b.record = some r := by
  unfold blockRecord at h; split at h
  · exact h
  · exact absurd h (by simp)

theorem inYard_eq_false {s : State} : inYard s = false ↔ s.sup.mode ≠ .standby ∧ s.sup.mode ≠ .depot := by
  simp [inYard]

/-! The checks of a block before the Staging Buffer's own state counts (R18). -/

theorem stageBlock_unsealed (o : Owner) (b : BlockWire) {s : State} (h : s.line.state ≠ .sealed) :
    stageBlock o b s = (.noLine, s) := by
  unfold stageBlock; rw [if_pos (by simpa [isSealed] using h)]

theorem stageBlock_moving {o : Owner} (b : BlockWire) {s : State} (hs : s.line.state = .sealed)
    (hm : o = .car ∧ s.sup.mode ≠ .standby ∧ s.sup.mode ≠ .depot) : stageBlock o b s = (.mode, s) := by
  rw [← inYard_eq_false] at hm
  unfold stageBlock; rw [if_neg (by simp [isSealed, hs]), if_pos hm]

theorem stageBlock_bad {o : Owner} {b : BlockWire} {s : State} (hs : s.line.state = .sealed)
    (hm : ¬ (o = .car ∧ s.sup.mode ≠ .standby ∧ s.sup.mode ≠ .depot)) (hb : blockRecord b = none) :
    stageBlock o b s = (.badValue, s) := by
  rw [← inYard_eq_false] at hm
  unfold stageBlock; rw [if_neg (by simp [isSealed, hs]), if_neg hm, hb]

/-- A block that passes those checks, taken as the Staging Buffer stands (R18, R19). -/
theorem stageBlock_taken {o : Owner} {b : BlockWire} {s : State} {r : SectionRec} (hs : s.line.state = .sealed)
    (hm : ¬ (o = .car ∧ s.sup.mode ≠ .standby ∧ s.sup.mode ≠ .depot)) (hb : blockRecord b = some r) :
    stageBlock o b s =
      match s.staging with
      | .idle => (.accepted, s.setStaging (.filling (openUpdate o b r)))
      | .held _ _ => (.busy, s)
      | .filling u =>
        if u.owner ≠ o then (.busy, s)
        else if u.id ≠ b.id then (.accepted, s.setStaging (.filling (openUpdate o b r)))
        else if u.first ≠ b.first ∨ u.count ≠ b.count then (.badValue, s)
        else (.accepted, s.setStaging (.filling { u with records := u.records.set b.index (some r) })) := by
  rw [← inYard_eq_false] at hm
  unfold stageBlock
  rw [if_neg (by simp [isSealed, hs]), if_neg hm, hb] <;> rfl

theorem stageBlock_refused (o : Owner) (b : BlockWire) (s : State) :
    (stageBlock o b s).1 = .accepted ∨ (stageBlock o b s).2 = s := by
  unfold stageBlock
  repeat' split
  all_goals first | exact .inl rfl | exact .inr rfl

theorem stageSection_answered (b : BlockWire) (s : State) : ∃ t, exec (.stageSection b) s = .next t
    ∧ OnlyChanges [.link, .staging] s t ∧ t.staging = (stageBlock .car b s).2.staging
    ∧ Answered .stageSection (stageBlock .car b s).1 [] s.link t := by
  have fr := stageBlock_frame .car b s
  refine ⟨_, rfl, OnlyChanges.answered fr.mono _ _ _, rfl, ?_⟩
  have h := answerResult_answered .stageSection (stageBlock .car b s)
  rwa [show (stageBlock .car b s).2.link = s.link from fr .link (by decide)] at h

/-! ### The locked span (R21) -/

theorem lockedInterval_yard {s : State} (h : s.sup.mode = .standby ∨ s.sup.mode = .depot) : lockedInterval s = none := by
  unfold lockedInterval; rw [if_pos (by simpa [inYard] using h)]

/-- The locked span outside STANDBY and DEPOT, by direction. -/
theorem lockedInterval_eq {s : State} (h : ¬ (s.sup.mode = .standby ∨ s.sup.mode = .depot)) :
    lockedInterval s = some
      (if s.sup.dir = .up then extentLo s.params.L (pMm s.odo) (uMm s.odo)
        else extentLo s.params.L (pMm s.odo) (uMm s.odo) - s.params.lockDistance,
       if s.sup.dir = .down then extentHi (pMm s.odo) (uMm s.odo)
        else extentHi (pMm s.odo) (uMm s.odo) + s.params.lockDistance) := by
  unfold lockedInterval
  rw [if_neg (by simpa [inYard] using h)]
  cases s.sup.dir <;> rfl

theorem inLockedSpan_iff (s : State) (number : Nat) : inLockedSpan s number = true ↔
    (s.sup.mode = .line ∨ s.sup.mode = .tripped)
    ∧ ∃ x ∈ s.line.records, x.number = number
      ∧ (let lo : Int := (s.odo.pUm / 1000 : Nat) - (s.params.L : Int) - ((s.odo.uUm + 999) / 1000 : Nat)
        let hi : Int := (s.odo.pUm / 1000 : Nat) + ((s.odo.uUm + 999) / 1000 : Nat)
        let d : Int := s.params.lockDistance
        (x.start : Int) ≤ (if s.sup.dir = .down then hi else hi + d)
          ∧ (if s.sup.dir = .up then lo else lo - d) < ((x.start + x.length : Nat) : Int)) := by
  have hmode : (s.sup.mode = .line ∨ s.sup.mode = .tripped) ↔ ¬ (s.sup.mode = .standby ∨ s.sup.mode = .depot) := by
    cases s.sup.mode <;> decide
  unfold inLockedSpan
  by_cases h : s.sup.mode = .standby ∨ s.sup.mode = .depot
  · rw [lockedInterval_yard h, hmode]
    simp [h]
  · rw [lockedInterval_eq h, hmode, and_iff_right h]
    simp only [Option.any_some, List.any_eq_true, Bool.and_eq_true, beq_iff_eq, sectionOverlaps, decide_eq_true_eq,
      extentLo, extentHi]
    rfl

/-- Whatever is asked of some record's geometry is answered the same. -/
theorem LineKept.any_eq {s t : State} (h : LineKept s t) (f : SectionRec → Bool)
    (g : Nat × Nat × Nat × Int × Kind → Bool) (hf : ∀ r, f r = g (Machine.geometry r)) :
    t.line.records.any f = s.line.records.any f := by
  obtain rfl : f = g ∘ Machine.geometry := funext hf
  rw [← List.any_map, ← List.any_map, h.geometry]

/-- What the locked span reads: mode, direction, position and uncertainty, two parameters and the geometry. -/
theorem inLockedSpan_congr {s t : State} (hmode : t.sup.mode = s.sup.mode) (hdir : t.sup.dir = s.sup.dir)
    (hp : t.odo.pUm = s.odo.pUm) (hu : t.odo.uUm = s.odo.uUm) (hpar : t.params = s.params) (hl : LineKept s t)
    (number : Nat) : inLockedSpan t number = inLockedSpan s number := by
  have hi : lockedInterval t = lockedInterval s := by
    unfold lockedInterval inYard pMm uMm; rw [hmode, hdir, hp, hu, hpar]
  unfold inLockedSpan
  rw [hi]
  congr 1
  funext ⟨lo, hi⟩
  exact hl.any_eq _ (fun g => g.1 == number && ((g.2.1 : Int) ≤ hi && lo < (g.2.1 + g.2.2.1 : Nat))) fun _ => rfl

theorem spanBlocks_iff {u : StagedUpdate} {s : State} :
    spanBlocks u s = true ↔ ∃ r, some r ∈ u.records ∧ inLockedSpan s r.number = true := by
  simp only [spanBlocks, List.any_eq_true, Option.any_eq_true]
  constructor
  · rintro ⟨_, ho, r, rfl, h⟩; exact ⟨r, ho, h⟩
  · rintro ⟨r, ho, h⟩; exact ⟨_, ho, r, rfl, h⟩

/-! ### Application (R22) -/

theorem deriveWindow_line (s : State) :
    (deriveWindow s).line = { s.line with update := (deriveWindow s).line.update } := by
  unfold deriveWindow; dsimp only; split <;> rfl

theorem FlagsGrow.getLsbD {s t : State} (h : FlagsGrow s t) {k : Nat} (hk : s.link.flags.getLsbD k = true) :
    t.link.flags.getLsbD k = true := by
  obtain ⟨f, hf⟩ := h
  simp [hf, hk]

theorem setFlag_getLsbD (f : EventFlag) (s : State) : (setFlag f s).link.flags.getLsbD (flagIndex f) = true := by
  have h := flagged_getLsbD f f s.link
  simpa using h

theorem addRadioCause_grows (c : RadioCause) (s : State) : FlagsGrow s (addRadioCause c s) := ⟨_, addRadioCause_link c s⟩

theorem radioCrossing_grows (cell : Nat) (s : State) : FlagsGrow s (radioCrossing cell s) := by
  unfold radioCrossing
  split
  · exact .refl _
  · exact addRadioCause_grows .handover _

theorem radioCrossingCurrent_grows (s : State) : FlagsGrow s (radioCrossingCurrent s) := by
  unfold radioCrossingCurrent
  split
  · exact .refl _
  · exact radioCrossing_grows _ _

theorem applied_line (u : StagedUpdate) (s : State) :
    (applied u s).line = { s.line with
      records := appliedRecords u s.line.records, check := lineCheckOf (appliedRecords u s.line.records),
      update := some (.commitDone u.id) } := by
  have h := deriveWindow_line (relaid u s)
  show ({ (deriveWindow (relaid u s)).line with update := some (.commitDone u.id) } : LineTable) = _
  rw [h]; rfl

theorem applied_grows (u : StagedUpdate) (s : State) : FlagsGrow s (applied u s) :=
  FlagsGrow.trans (deriveWindow_grows (relaid u s)) (setFlag_grows .lineUpdate _)

theorem applied_of_relaid_frame (u : StagedUpdate) (s : State) :
    OnlyChanges [.line, .window, .staging, .link, .tele] (relaid u s) (applied u s) := by
  have h1 : OnlyChanges [.window, .line, .link] (relaid u s) (deriveWindow (relaid u s)) := deriveWindow_frame _
  have h2 : OnlyChanges [.line, .link] (deriveWindow (relaid u s)) (setFlag .lineUpdate ((deriveWindow (relaid u s)).setLine
      { (deriveWindow (relaid u s)).line with update := some (.commitDone u.id) })) :=
    (setLine_frame _ _).andThen (setFlag_frame _ _)
  exact (h1.mono.trans h2.mono).trans (dropStaging_frame _).mono

theorem applied_frame (u : StagedUpdate) (s : State) :
    OnlyChanges [.line, .window, .staging, .link, .tele] s (applied u s) :=
  ((setLine_frame _ s).mono).trans (applied_of_relaid_frame u s)

/-- What an application does beside the handover: attributes, line check, window, records (R22). -/
structure Applied (u : StagedUpdate) (s t : State) : Prop where
  staging : t.staging = .idle
  line : t.line = { s.line with
    records := appliedRecords u s.line.records, check := lineCheckOf (appliedRecords u s.line.records),
    update := some (.commitDone u.id) }
  window : t.window = derivedWindow t
  tele : t.tele = { s.tele with heldStation := none }
  flag : t.link.flags.getLsbD (flagIndex .lineUpdate) = true
  grows : FlagsGrow s t

theorem Applied.of_applied (u : StagedUpdate) (s : State) : Applied u s (applied u s) where
  staging := rfl
  line := applied_line u s
  window := (deriveWindow_window _).trans
    (derivedWindow_of_frame (applied_of_relaid_frame u s) (by rw [applied_line]; rfl)).symm
  tele := by
    show ({ (deriveWindow (relaid u s)).tele with heldStation := none } : Telegrams) = _
    rw [show (deriveWindow (relaid u s)).tele = s.tele from deriveWindow_frame _ .tele (by decide)]
  flag := setFlag_getLsbD .lineUpdate _
  grows := applied_grows u s

/-- What changes only the radio and grows the flags leaves an application as it is. -/
theorem Applied.keep {u : StagedUpdate} {s t v : State} (h : Applied u s t) (fr : OnlyChanges [.radio, .link] t v)
    (hg : FlagsGrow t v) : Applied u s v where
  staging := Eq.trans (fr .staging (by decide)) h.staging
  line := Eq.trans (fr .line (by decide)) h.line
  window := Eq.trans (fr .window (by decide)) (h.window.trans
    (derivedWindow_of_frame fr (congrArg LineTable.records (fr .line (by decide)))).symm)
  tele := Eq.trans (fr .tele (by decide)) h.tele
  flag := hg.getLsbD h.flag
  grows := h.grows.trans hg

theorem applyUpdate_applied (u : StagedUpdate) (s : State) : Applied u s (applyUpdate u s) := by
  rw [applyUpdate_eq]
  split
  · exact .of_applied u s
  · exact (Applied.of_applied u s).keep (radioCrossingCurrent_frame _) (radioCrossingCurrent_grows _)

theorem stagedFor_none {u : StagedUpdate} {n : Nat} (h : ∀ r, some r ∈ u.records → r.number ≠ n) :
    stagedFor u n = none := by
  unfold stagedFor
  rw [List.find?_eq_none.2 fun o ho => ?_]
  · rfl
  · cases o with
    | none => simp
    | some r => simpa using h r ho

/-- Every stored record keeps its geometry, and its attributes become those of the staged record of its number (R22). -/
theorem appliedRecords_attributes (u : StagedUpdate) (rs : List SectionRec) :
    List.Forall₂ (fun x y => sameGeometry x y
        ∧ ((∀ r ∈ u.records.filterMap (fun o => o), r.number ≠ x.number) → y = x)
        ∧ (∀ r, stagedFor u x.number = some r →
            y = { r with number := x.number, start := x.start, length := x.length,
                         gradient := x.gradient, kind := x.kind }))
      rs (appliedRecords u rs) := by
  unfold appliedRecords
  rw [List.forall₂_map_right_iff, List.forall₂_same]
  intro x _
  refine ⟨?_, fun h => ?_, fun r hr => ?_⟩
  · cases stagedFor u x.number <;> exact ⟨rfl, rfl, rfl, rfl, rfl⟩
  · rw [stagedFor_none fun r hr => h r (List.mem_filterMap.2 ⟨_, hr, rfl⟩)]; rfl
  · rw [hr]; rfl

/-! ### Commits (R20, R23) -/

theorem commitUpdate_filling {o : Owner} {id crc : Nat} {s : State} {u : StagedUpdate} (h : s.staging = .filling u) :
    commitUpdate o id crc s =
      if o = .car ∧ inYard s = false then (.mode, s)
      else if u.owner ≠ o then (.busy, s)
      else
        match commitCheck id crc u s with
        | some code => (code, dropStaging s)
        | none =>
          if spanBlocks u s then (.held, s.setStaging (.held u s.params.tCommit))
          else (.done, applyUpdate u s) := by
  unfold commitUpdate; rw [h] <;> rfl

theorem mem_staged {u : StagedUpdate} {r : SectionRec} :
    r ∈ u.records.filterMap (fun o => o) ↔ some r ∈ u.records := by
  rw [List.mem_filterMap]; exact ⟨fun ⟨_, h, e⟩ => e ▸ h, fun h => ⟨_, h, rfl⟩⟩

theorem dropStaging_discarded (s : State) :
    OnlyChanges [.staging, .tele] s (dropStaging s) ∧ (dropStaging s).staging = .idle := ⟨dropStaging_frame s, rfl⟩

theorem any_isNone_iff {u : StagedUpdate} : u.records.any (·.isNone) = true ↔ none ∈ u.records := by
  simp [List.any_eq_true]

theorem unknown_iff {rs xs : List SectionRec} :
    rs.any (fun r => !xs.any (·.number == r.number)) = true ↔ ∃ r ∈ rs, ∀ x ∈ xs, x.number ≠ r.number := by
  simp [List.any_eq_true]

theorem otherGeometry_iff {rs xs : List SectionRec} :
    rs.any (fun r => xs.any (fun t => t.number == r.number &&
      !(t.start == r.start && t.length == r.length && t.gradient == r.gradient && t.kind == r.kind))) = true
      ↔ ∃ r ∈ rs, ∃ x ∈ xs, x.number = r.number ∧ ¬ sameGeometry x r := by
  simp only [List.any_eq_true, Bool.and_eq_true, beq_iff_eq, Bool.not_eq_true', ← Bool.not_eq_true]
  refine exists_congr fun r => and_congr_right fun _ => exists_congr fun x => and_congr_right fun _ =>
    and_congr_right fun hn => not_congr ?_
  simp only [sameGeometry, hn, true_and]
  tauto

theorem commitUpdate_discards {o : Owner} {id crc : Nat} {s : State} {u : StagedUpdate} {code : Result}
    (h : s.staging = .filling u) (hm : ¬ (o = .car ∧ inYard s = false)) (ho : ¬ u.owner ≠ o)
    (hc : commitCheck id crc u s = some code) : commitUpdate o id crc s = (code, dropStaging s) := by
  rw [commitUpdate_filling h, if_neg hm, if_neg ho, hc]

theorem commitUpdate_passes {o : Owner} {id crc : Nat} {s : State} {u : StagedUpdate}
    (h : s.staging = .filling u) (hm : ¬ (o = .car ∧ inYard s = false)) (ho : ¬ u.owner ≠ o)
    (hc : commitCheck id crc u s = none) :
    commitUpdate o id crc s = if spanBlocks u s = true then (.held, s.setStaging (.held u s.params.tCommit))
      else (.done, applyUpdate u s) := by
  rw [commitUpdate_filling h, if_neg hm, if_neg ho, hc]

theorem commitUpdate_filled (owner : Owner) (id crc : Nat) (s : State) (u : StagedUpdate) (hu : s.staging = .filling u) :
    let res := (commitUpdate owner id crc s).1
    let t := (commitUpdate owner id crc s).2
    let staged := u.records.filterMap (fun o => o)
    let discarded := OnlyChanges [.staging, .tele] s t ∧ t.staging = .idle
    if owner = .car ∧ s.sup.mode ≠ .standby ∧ s.sup.mode ≠ .depot then res = .mode ∧ t = s
    else if u.owner ≠ owner then res = .busy ∧ t = s
    else if id ≠ u.id then res = .notFound ∧ discarded
    else if none ∈ u.records then res = .incomplete ∧ discarded
    else if (crc16 (staged.flatMap sectionBytes)).toNat ≠ crc then res = .check ∧ discarded
    else if ∃ r ∈ staged, ∀ x ∈ s.line.records, x.number ≠ r.number then res = .unknownSection ∧ discarded
    else if ∃ r ∈ staged, ∃ x ∈ s.line.records, x.number = r.number ∧ ¬ sameGeometry x r then
      res = .geometry ∧ discarded
    else if ∃ r ∈ staged, inLockedSpan s r.number = true then
      res = .held ∧ t = s.setStaging (.held u s.params.tCommit)
    else
      res = .done ∧ t.staging = .idle ∧ t.line.update = some (.commitDone u.id)
      ∧ t.line.state = s.line.state ∧ t.line.check = crc16 (t.line.records.flatMap sectionBytes)
      ∧ t.link.flags.getLsbD (flagIndex .lineUpdate) = true ∧ t.window = derivedWindow t ∧ CellTold s t
      ∧ t.tele = { s.tele with heldStation := none }
      ∧ List.Forall₂ (fun x y => sameGeometry x y
          ∧ ((∀ r ∈ staged, r.number ≠ x.number) → y = x)
          ∧ (∀ r, stagedFor u x.number = some r →
              y = { r with number := x.number, start := x.start, length := x.length,
                           gradient := x.gradient, kind := x.kind }))
          s.line.records t.line.records := by
  intro res t staged discarded
  have hmode : (owner = .car ∧ s.sup.mode ≠ .standby ∧ s.sup.mode ≠ .depot) ↔ (owner = .car ∧ inYard s = false) := by
    rw [inYard_eq_false]
  have taken {x : Result × State} (e : commitUpdate owner id crc s = x) : res = x.1 ∧ t = x.2 :=
    ⟨congrArg Prod.fst e, congrArg Prod.snd e⟩
  by_cases h1 : owner = .car ∧ s.sup.mode ≠ .standby ∧ s.sup.mode ≠ .depot
  · rw [if_pos h1]; exact taken (by rw [commitUpdate_filling hu, if_pos (hmode.1 h1)])
  by_cases h2 : u.owner ≠ owner
  · rw [if_neg h1, if_pos h2]; exact taken (by rw [commitUpdate_filling hu, if_neg (mt hmode.2 h1), if_pos h2])
  rw [if_neg h1, if_neg h2]
  have discards {code : Result} (hc : commitCheck id crc u s = some code) : res = code ∧ discarded := by
    obtain ⟨hres, ht⟩ := taken (commitUpdate_discards hu (mt hmode.2 h1) h2 hc)
    refine ⟨hres, ?_⟩
    show OnlyChanges _ s t ∧ t.staging = .idle
    rw [ht]; exact dropStaging_discarded s
  have hck := commitCheck.eq_1 id crc u s
  simp only [any_isNone_iff, unknown_iff, otherGeometry_iff] at hck
  by_cases h3 : id ≠ u.id
  · rw [if_pos h3] at hck ⊢; exact discards hck
  rw [if_neg h3] at hck ⊢
  by_cases h4 : none ∈ u.records
  · rw [if_pos h4] at hck ⊢; exact discards hck
  rw [if_neg h4] at hck ⊢
  by_cases h5 : (crc16 (staged.flatMap sectionBytes)).toNat ≠ crc
  · rw [if_pos h5]; exact discards (hck.trans (if_pos h5))
  rw [if_neg h5]
  replace hck := hck.trans (if_neg h5)
  by_cases h6 : ∃ r ∈ staged, ∀ x ∈ s.line.records, x.number ≠ r.number
  · rw [if_pos h6] at hck ⊢; exact discards hck
  rw [if_neg h6] at hck ⊢
  by_cases h7 : ∃ r ∈ staged, ∃ x ∈ s.line.records, x.number = r.number ∧ ¬ sameGeometry x r
  · rw [if_pos h7] at hck ⊢; exact discards hck
  rw [if_neg h7] at hck ⊢
  have hspan : (∃ r ∈ staged, inLockedSpan s r.number = true) ↔ spanBlocks u s = true := by
    rw [spanBlocks_iff]; exact exists_congr fun r => and_congr_left fun _ => mem_staged
  have e := commitUpdate_passes hu (mt hmode.2 h1) h2 hck
  by_cases h8 : ∃ r ∈ staged, inLockedSpan s r.number = true
  · rw [if_pos (hspan.1 h8)] at e
    rw [if_pos h8]; exact taken e
  rw [if_neg (mt hspan.2 h8)] at e
  rw [if_neg h8]
  obtain ⟨hres, ht⟩ := taken e
  have ha := applyUpdate_applied u s
  rw [ht]
  refine ⟨hres, ha.staging, by rw [ha.line], by rw [ha.line], by rw [ha.line]; rfl, ha.flag, ha.window,
    applyUpdate_told u s, ha.tele, ?_⟩
  rw [ha.line]
  exact appliedRecords_attributes u s.line.records

/-! ### The re-test of a held commit (R23, R170) -/

/-- An acknowledgement goes into the uplink queue as R171 states. -/
theorem queueAck_acked (k : AckKind) (reference : Nat) (res : Result) (station : Nat) (s : State) :
    Acked k reference res station s (queueAck k reference res station s) := by
  refine ⟨queueAck_frame k reference res station s, fun hlt => ?_, fun hge hmem => ?_, fun hge hmem => ?_⟩
  · unfold queueAck; dsimp only; rw [if_pos hlt]; exact ⟨rfl, rfl, rfl⟩
  · unfold queueAck; dsimp only; rw [if_neg (by omega), if_pos (by simpa using hmem)]; exact ⟨rfl, rfl, rfl⟩
  · unfold queueAck; dsimp only; rw [if_neg (by omega), if_neg (by simpa using hmem)]; exact ⟨rfl, rfl, rfl⟩

theorem ackHeld_silent {u : StagedUpdate} {st : Option Nat} (h : u.owner = .car ∨ st = none) (res : Result)
    (s : State) : ackHeld u st res s = s := by
  unfold ackHeld
  split
  · next ho hst => rcases h with h | h <;> simp_all
  · rfl

theorem ackHeld_valley {u : StagedUpdate} (h : u.owner = .valley) (st : Nat) (res : Result) (s : State) :
    Acked .sectionCommit u.id res st s (ackHeld u (some st) res s) := by
  unfold ackHeld; rw [h]; exact queueAck_acked _ _ _ _ s

theorem queueAck_grows (k : AckKind) (reference : Nat) (res : Result) (station : Nat) (s : State) :
    FlagsGrow s (queueAck k reference res station s) := by
  unfold queueAck
  dsimp only
  repeat' split
  · exact .refl _
  · exact addRadioCause_grows .reportDisplaced _
  · exact addRadioCause_grows .uplinkFull _

theorem ackHeld_grows (u : StagedUpdate) (st : Option Nat) (res : Result) (s : State) :
    FlagsGrow s (ackHeld u st res s) := by
  unfold ackHeld
  split
  · exact queueAck_grows _ _ _ _ s
  · exact .refl _

theorem retestHeld_held {s : State} {u : StagedUpdate} {n : Nat} (h : s.staging = .held u n) :
    retestHeld s = if spanBlocks u s = true then s else ackHeld u s.tele.heldStation .done (applyUpdate u s) := by
  unfold retestHeld; rw [h]

theorem retestHeld_grows (s : State) : FlagsGrow s (retestHeld s) := by
  unfold retestHeld
  repeat' split
  · exact .refl _
  · exact (applyUpdate_applied _ s).grows.trans (ackHeld_grows _ _ _ _)
  · exact .refl _

/-- The acknowledgement of an applied update leaves what the application did (R170). -/
theorem applied_acked (u : StagedUpdate) (st : Option Nat) (s : State) :
    let t := ackHeld u st .done (applyUpdate u s)
    t.staging = .idle ∧ t.line.update = some (.commitDone u.id) ∧ t.line.state = s.line.state
    ∧ t.line.records = s.line.records.map (fun x => match stagedFor u x.number with
        | none => x
        | some r => { r with number := x.number, start := x.start, length := x.length, gradient := x.gradient,
                             kind := x.kind })
    ∧ t.line.check = crc16 (t.line.records.flatMap sectionBytes) ∧ t.window = derivedWindow t
    ∧ t.link.flags.getLsbD (flagIndex .lineUpdate) = true := by
  intro t
  have fr : OnlyChanges [.tele, .radio, .link] (applyUpdate u s) t := ackHeld_frame u st .done _
  have ha := applyUpdate_applied u s
  have hl : t.line = _ := Eq.trans (fr .line (by decide)) ha.line
  rw [hl]
  refine ⟨Eq.trans (fr .staging (by decide)) ha.staging, rfl, rfl, ?_, rfl, ?_,
    (ackHeld_grows u st .done _).getLsbD ha.flag⟩
  · show appliedRecords u s.line.records = _
    unfold appliedRecords
    refine List.map_congr_left fun x _ => ?_
    cases stagedFor u x.number <;> rfl
  · exact Eq.trans (fr .window (by decide)) (ha.window.trans
      (derivedWindow_of_frame fr (congrArg LineTable.records (fr .line (by decide)))).symm)

theorem retestHeld_spec (s : State) (u : StagedUpdate) (n : Nat) (h : s.staging = .held u n) :
    let t := retestHeld s
    OnlyChanges [.line, .window, .staging, .link, .radio, .tele] s t
    ∧ ((∃ r, some r ∈ u.records ∧ inLockedSpan s r.number = true) → t = s)
    ∧ ((∀ r, some r ∈ u.records → inLockedSpan s r.number = false) →
        t.staging = .idle ∧ t.line.update = some (.commitDone u.id) ∧ t.line.state = s.line.state
        ∧ t.line.records = s.line.records.map (fun x => match stagedFor u x.number with
            | none => x
            | some r => { r with number := x.number, start := x.start, length := x.length, gradient := x.gradient,
                                 kind := x.kind })
        ∧ t.line.check = crc16 (t.line.records.flatMap sectionBytes) ∧ t.window = derivedWindow t
        ∧ t.link.flags.getLsbD (flagIndex .lineUpdate) = true
        ∧ (u.owner = .car ∨ s.tele.heldStation = none →
            t.tele = { s.tele with heldStation := none } ∧ CellTold s t)
        ∧ (∀ station, u.owner = .valley → s.tele.heldStation = some station →
            ∃ m, Acked .sectionCommit u.id .done station m t ∧ m.tele = { s.tele with heldStation := none }
              ∧ m.line = t.line ∧ CellTold s m)) := by
  intro t
  refine ⟨(retestHeld_frame s).mono, fun hb => ?_, fun hclear => ?_⟩
  · exact (retestHeld_held h).trans (if_pos (spanBlocks_iff.2 hb))
  have hb : ¬ spanBlocks u s = true := by
    rw [spanBlocks_iff]; rintro ⟨r, hr, hin⟩; rw [hclear r hr] at hin; exact Bool.noConfusion hin
  have e : t = ackHeld u s.tele.heldStation .done (applyUpdate u s) := (retestHeld_held h).trans (if_neg hb)
  have ha := applyUpdate_applied u s
  rw [e]
  obtain ⟨h1, h2, h3, h4, h5, h6, h7⟩ := applied_acked u s.tele.heldStation s
  refine ⟨h1, h2, h3, h4, h5, h6, h7, fun ho => ?_, fun st ho hst => ?_⟩
  · rw [ackHeld_silent ho]; exact ⟨ha.tele, applyUpdate_told u s⟩
  · rw [hst]
    exact ⟨applyUpdate u s, ackHeld_valley ho st .done _, ha.tele,
      (ackHeld_frame u (some st) .done (applyUpdate u s) .line (by decide)).symm, applyUpdate_told u s⟩

/-! ### Aborts and the hold timer (R24, R25) -/

theorem abortUpdate_open {o : Owner} {id : Nat} {s : State} {u : StagedUpdate} (h : openStaged s = some u) :
    abortUpdate o id s = if u.owner ≠ o then (.notOwner, s) else if u.id ≠ id then (.notFound, s)
      else (.done, dropStaging s) := by
  unfold abortUpdate; rw [h]

theorem openStaged_iff {s : State} {u : StagedUpdate} :
    openStaged s = some u ↔ (s.staging = .filling u ∨ ∃ n, s.staging = .held u n) := by
  unfold openStaged; cases s.staging <;> simp

theorem holdExpired_held {s : State} {u : StagedUpdate} {n : Nat} (h : s.staging = .held u n) :
    holdExpired s = ackHeld u s.tele.heldStation .timeout
      (setFlag .lineUpdate (dropStaging (s.setLine { s.line with update := some (.commitTimeout u.id) }))) := by
  unfold holdExpired; rw [h]

theorem holdExpired_idle {s : State} (h : ∀ u n, s.staging ≠ .held u n) : holdExpired s = s := by
  unfold holdExpired
  split
  · next hs => exact absurd hs (h _ _)
  · rfl

end Sys2Proof.Machine

namespace Sys2Proof.Proofs

set_option Elab.async false

open Machine

/-- Settles O16: the checks of a block, then what the Staging Buffer holds. -/
theorem stagingBlocks : Obligations.StagingBlocks := by
  unfold Obligations.StagingBlocks
  refine ⟨fun o b s => ⟨stageBlock_frame o b s, fun h => (stageBlock_refused o b s).resolve_left h, ?_⟩,
    stageSection_answered⟩
  by_cases hs : s.line.state ≠ .sealed
  · rw [if_pos hs, stageBlock_unsealed o b hs]
  have hs' : s.line.state = .sealed := not_not.1 hs
  rw [if_neg hs]
  by_cases hm : o = .car ∧ s.sup.mode ≠ .standby ∧ s.sup.mode ≠ .depot
  · rw [if_pos hm, stageBlock_moving b hs' hm]
  rw [if_neg hm]
  by_cases hb : blockRecord b = none
  · rw [if_pos (blockRecord_eq_none.1 hb), stageBlock_bad hs' hm hb]
  rw [if_neg (mt blockRecord_eq_none.2 hb)]
  obtain ⟨r, hr⟩ := Option.ne_none_iff_exists'.1 hb
  refine ⟨r, blockRecord_eq_some hr, ?_⟩
  rw [stageBlock_taken hs' hm hr]
  cases s.staging with
  | idle => exact ⟨rfl, rfl⟩
  | held u n => rfl
  | filling u =>
    by_cases h1 : u.owner ≠ o
    · simp only [if_pos h1]
    by_cases h2 : u.id ≠ b.id
    · simp only [if_neg h1, if_pos h2]; exact ⟨trivial, rfl⟩
    by_cases h3 : u.first ≠ b.first ∨ u.count ≠ b.count
    · simp only [if_neg h1, if_neg h2, if_pos h3]
    · simp only [if_neg h1, if_neg h2, if_neg h3]; exact ⟨trivial, rfl⟩

/-- Settles O17: the commit by `commitUpdate_filled`, the re-test by `retestHeld_spec`. -/
theorem commits : Obligations.Commits := by
  unfold Obligations.Commits
  refine ⟨fun o id crc s => ⟨(commitUpdate_frame o id crc s).mono, fun h => ?_, fun u n h => ?_,
    fun u hu => commitUpdate_filled o id crc s u hu⟩, fun id crc s => ?_, inLockedSpan_iff, retestHeld_spec⟩
  · unfold commitUpdate; rw [h]; exact ⟨rfl, rfl⟩
  · unfold commitUpdate; rw [h]; exact ⟨rfl, rfl⟩
  · exact ⟨_, rfl, OnlyChanges.answered (commitUpdate_frame .car id crc s).mono _ _ _, rfl, rfl, rfl, rfl, rfl,
      answerResult_answered .commitStage (commitUpdate .car id crc s)⟩

/-- Settles O18: the abort by its checks, the expiry with the acknowledgement of `ackHeld`. -/
theorem stagingEnds : Obligations.StagingEnds := by
  unfold Obligations.StagingEnds
  refine ⟨fun id s => ⟨_, rfl, fun h => ?_, fun u h => ?_⟩, fun s => ⟨_, rfl, (holdExpired_frame s).mono,
    holdExpired_idle, fun u n h => ?_⟩⟩
  · exact answerResult_only _ (by unfold abortUpdate openStaged; rw [h])
  · have e := abortUpdate_open (o := .car) (id := id) (openStaged_iff.2 h)
    refine ⟨fun ho => ?_, fun ho hid => ?_, fun ho hid => ?_⟩
    · exact answerResult_only _ (by rw [e, if_pos (by simp [ho])])
    · exact answerResult_only _ (by rw [e, if_neg (by simp [ho]), if_pos hid])
    · rw [e, if_neg (by simp [ho]), if_neg (by simpa using hid)]
      exact ⟨OnlyChanges.answered (dropStaging_frame s).mono _ _ _, rfl, rfl, answerResult_answered _ _⟩
  · let m := setFlag .lineUpdate (dropStaging (s.setLine { s.line with update := some (.commitTimeout u.id) }))
    have fr := ackHeld_frame u s.tele.heldStation .timeout m
    rw [holdExpired_held h]
    refine ⟨fr .staging (by decide), fr .line (by decide),
      (ackHeld_grows u _ .timeout m).getLsbD (setFlag_getLsbD .lineUpdate _), fun ho => ?_, fun st ho hst => ?_⟩
    · rw [ackHeld_silent (.inl ho)]; exact ⟨rfl, rfl, rfl⟩
    · rw [hst]; exact ⟨m, ackHeld_valley ho st .timeout m, rfl, rfl, rfl⟩

end Sys2Proof.Proofs
end

section
/-! PROOFS. What a boundary crossing does in the other blocks: the Staging Buffer, the Radio Frame Controller and the
event flags (R14, R23, R37, R157). -/

namespace Sys2Proof.Machine

set_option Elab.async false

/-! ### Event flags -/

theorem addOdoCause_grows (c : OdoCause) (s : State) : FlagsGrow s (addOdoCause c s) := ⟨_, addOdoCause_link c s⟩

theorem enterOdoFault_grows (f : OdoFault) (s : State) : FlagsGrow s (enterOdoFault f s) := by
  unfold enterOdoFault
  split
  · have h1 := addOdoCause_grows (faultCause f) (s.setOdo { s.odo with state := .fault, fault := some f })
    exact FlagsGrow.trans h1 (FlagsGrow.trans (.of_frame (latchDemand_frame .odometry _)) (judgePart_grows _ _))
  · exact .refl _

theorem crossCheck_grows (s : State) : FlagsGrow s (crossCheck s) := by
  unfold crossCheck
  dsimp only
  repeat' split
  · exact enterOdoFault_grows .mismatch _
  · exact .refl _
  · exact .refl _

theorem issueCrossing_grows (s : State) : FlagsGrow s (issueCrossing s) :=
  (deriveWindow_grows s).trans ((retestHeld_grows _).trans (radioCrossingCurrent_grows _))

theorem takeCompares_grows (held : Option Sense) (s : State) : FlagsGrow s (takeCompares held s) := by
  unfold takeCompares
  split
  · exact .refl _
  · exact issueCrossing_grows (s.setOdo _)
  · exact issueCrossing_grows (s.setOdo _)
  · exact enterOdoFault_grows .offLine s

/-! ### The Radio Frame Controller (R22, R157) -/

/-- The controller with causes added. -/
def CausesGrow (r r' : Radio) : Prop := ∃ f, r' = { r with causes := r.causes ||| f }

theorem CausesGrow.of_eq {r r' : Radio} (h : r' = r) : CausesGrow r r' := ⟨0, by simp [h]⟩

theorem queueAck_causes (k : AckKind) (reference : Nat) (res : Result) (station : Nat) (s : State) :
    CausesGrow s.radio (queueAck k reference res station s).radio := by
  unfold queueAck
  dsimp only
  repeat' split
  · exact .of_eq rfl
  · exact ⟨_, addRadioCause_radio .reportDisplaced _⟩
  · exact ⟨_, addRadioCause_radio .uplinkFull _⟩

theorem ackHeld_causes (u : StagedUpdate) (st : Option Nat) (res : Result) (s : State) :
    CausesGrow s.radio (ackHeld u st res s).radio := by
  unfold ackHeld
  split
  · exact queueAck_causes _ _ _ _ s
  · exact .of_eq rfl

/-- What the controller does for the cell of a section entered: nothing in INIT, nothing when that cell is tuned, else a
handover (R149, R157). -/
structure Retuned (cell : Nat) (s t : State) : Prop where
  init : s.radio.sync = .init → t.radio.sync = .init ∧ t.radio.tuned = s.radio.tuned
  tuned : s.radio.sync ≠ .init → t.radio.tuned = some cell
  stays : s.radio.sync ≠ .init → s.radio.tuned = some cell →
    t.radio.sync = s.radio.sync ∧ t.radio.grant = s.radio.grant ∧ t.radio.chsel = s.radio.chsel
      ∧ t.radio.holdover = s.radio.holdover
  moves : s.radio.sync ≠ .init → s.radio.tuned ≠ some cell →
    t.radio.sync = .search ∧ t.radio.grant = none ∧ t.radio.chsel = s.radio.channels.getD cell 0
      ∧ t.radio.holdover = none ∧ t.radio.miss = 0
      ∧ (∀ g, s.radio.grant = some g → t.radio.routes = s.radio.routes.set g.slot .off)
      ∧ t.radio.causes.getLsbD 4 = true ∧ t.link.flags.getLsbD (flagIndex .radioEvent) = true

theorem radioCrossing_retuned (cell : Nat) (s : State) : Retuned cell s (radioCrossing cell s) := by
  obtain ⟨hsame, hmove⟩ := radioCrossing_handedOver cell s
  refine ⟨fun h => ?_, fun h => ?_, fun h1 h2 => ?_, fun h1 h2 => ?_⟩
  · rw [hsame (.inl h)]; exact ⟨h, rfl⟩
  · by_cases ht : s.radio.tuned = some cell
    · rw [hsame (.inr ht)]; exact ht
    · rw [(hmove h ht).1]
  · rw [hsame (.inr h2)]; exact ⟨rfl, rfl, rfl, rfl⟩
  · obtain ⟨hr, hf⟩ := hmove h1 h2
    rw [hr]
    exact ⟨rfl, rfl, rfl, rfl, rfl, fun g hg => by simp only [soughtAnew, hg], by simp, hf⟩

/-- Causes added before a crossing. -/
theorem Retuned.of_causes {cell : Nat} {s u t : State} (hc : CausesGrow s.radio u.radio) (h : Retuned cell u t) :
    Retuned cell s t := by
  obtain ⟨f, hf⟩ := hc
  obtain ⟨h1, h2, h3, h4⟩ := h
  rw [hf] at h1 h2 h3 h4
  exact ⟨h1, h2, h3, h4⟩

/-- Causes and flags added after a crossing. -/
theorem Retuned.then_causes {cell : Nat} {s u t : State} (h : Retuned cell s u) (hc : CausesGrow u.radio t.radio)
    (hg : FlagsGrow u t) : Retuned cell s t := by
  obtain ⟨f, hf⟩ := hc
  obtain ⟨h1, h2, h3, h4⟩ := h
  refine ⟨by rw [hf]; exact h1, by rw [hf]; exact h2, by rw [hf]; exact h3, fun a b => ?_⟩
  obtain ⟨k1, k2, k3, k4, k5, k6, k7, k8⟩ := h4 a b
  rw [hf]
  exact ⟨k1, k2, k3, k4, k5, k6, by simp [k7], hg.getLsbD k8⟩

/-- A second crossing for the same cell does nothing. -/
theorem Retuned.again {cell : Nat} {s t : State} (h : Retuned cell s t) : radioCrossing cell t = t := by
  unfold radioCrossing
  by_cases hs : s.radio.sync = .init
  · rw [if_pos (.inl (h.init hs).1)]
  · rw [if_pos (.inr (h.tuned hs))]

theorem radioCrossingCurrent_eq {s : State} {r : SectionRec} (h : currentRecord s = some r) :
    radioCrossingCurrent s = radioCrossing r.cell s := by unfold radioCrossingCurrent; rw [h]

theorem currentRecord_congr {s t : State} (ho : t.odo.cur = s.odo.cur) (hl : t.line.records = s.line.records) :
    currentRecord t = currentRecord s := by unfold currentRecord recordAt; rw [ho, hl]

/-- An application and its acknowledgement, with the crossing told after them: one handover at most. -/
theorem applied_retuned (u : StagedUpdate) (st : Option Nat) (res : Result) {s : State} {r : SectionRec}
    (h : currentRecord (ackHeld u st res (applyUpdate u s)) = some r) :
    Retuned r.cell s (radioCrossingCurrent (ackHeld u st res (applyUpdate u s))) := by
  have hc := ackHeld_causes u st res (applyUpdate u s)
  have hg := ackHeld_grows u st res (applyUpdate u s)
  have fr := ackHeld_frame u st res (applyUpdate u s)
  rw [radioCrossingCurrent_eq h]
  have hr : (applied u s).radio = s.radio := applied_frame u s .radio (by decide)
  rw [applyUpdate_eq] at hc hg fr ⊢
  split at hc <;> rename_i hcell
  · rw [if_pos hcell]
    exact (radioCrossing_retuned r.cell _).of_causes (hr ▸ hc)
  · rw [if_neg hcell] at hg fr ⊢
    have hcur : currentRecord (applied u s) = some r := by
      rw [applyUpdate_eq, if_neg hcell] at h
      rw [← h]
      have frc := radioCrossingCurrent_frame (applied u s)
      exact (currentRecord_congr (congrArg _ (Eq.trans (fr .odo (by decide)) (frc .odo (by decide))))
        (congrArg _ (Eq.trans (fr .line (by decide)) (frc .line (by decide))))).symm
    rw [radioCrossingCurrent_eq hcur] at hc hg ⊢
    have h1 : Retuned r.cell s (ackHeld u st res (radioCrossing r.cell (applied u s))) :=
      ((radioCrossing_retuned r.cell (applied u s)).of_causes (.of_eq hr)).then_causes hc hg
    rw [h1.again]
    exact h1

theorem retestHeld_cases (s : State) :
    retestHeld s = s ∨ ∃ u n, s.staging = .held u n ∧ ¬ spanBlocks u s = true
      ∧ retestHeld s = ackHeld u s.tele.heldStation .done (applyUpdate u s) := by
  unfold retestHeld
  split
  · next u n h =>
    split
    · exact .inl rfl
    · next hb => exact .inr ⟨u, n, h, hb, rfl⟩
  · exact .inl rfl

/-- The controller after a crossing event is tuned to the cell of the section that is current then (R37, R157). -/
theorem issueCrossing_retuned {s : State} {r : SectionRec} (h : currentRecord (issueCrossing s) = some r) :
    Retuned r.cell s (issueCrossing s) := by
  have fr := radioCrossingCurrent_frame (retestHeld (deriveWindow s))
  have hcur : currentRecord (retestHeld (deriveWindow s)) = some r := by
    rw [← h]
    exact (currentRecord_congr (congrArg _ (fr .odo (by decide))) (congrArg _ (fr .line (by decide)))).symm
  have hr : (deriveWindow s).radio = s.radio := deriveWindow_frame s .radio (by decide)
  unfold issueCrossing
  rcases retestHeld_cases (deriveWindow s) with e | ⟨u, n, -, -, e⟩
  · rw [e] at hcur ⊢
    rw [radioCrossingCurrent_eq hcur]
    exact (radioCrossing_retuned r.cell _).of_causes (.of_eq hr)
  · rw [e] at hcur ⊢
    exact (applied_retuned _ _ _ hcur).of_causes (.of_eq hr)

theorem radioCrossingCurrent_init {s : State} (h : s.radio.sync = .init) : radioCrossingCurrent s = s := by
  unfold radioCrossingCurrent
  split
  · rfl
  · unfold radioCrossing; rw [if_pos (.inl h)]

/-- In INIT a crossing event leaves the controller tuned as it was (R149). -/
theorem issueCrossing_init {s : State} (h : s.radio.sync = .init) :
    (issueCrossing s).radio.sync = .init ∧ (issueCrossing s).radio.tuned = s.radio.tuned := by
  have hr : (deriveWindow s).radio = s.radio := deriveWindow_frame s .radio (by decide)
  have hv : CausesGrow s.radio (retestHeld (deriveWindow s)).radio := by
    rcases retestHeld_cases (deriveWindow s) with e | ⟨u, n, -, -, e⟩
    · rw [e]; exact .of_eq hr
    · have ha : (applied u (deriveWindow s)).radio = s.radio := Eq.trans (applied_frame u _ .radio (by decide)) hr
      have hu : (applyUpdate u (deriveWindow s)).radio = s.radio := by
        rw [applyUpdate_eq]
        split
        · exact ha
        · rw [radioCrossingCurrent_init (by rw [ha]; exact h)]; exact ha
      rw [e, ← hu]
      exact ackHeld_causes _ _ _ _
  obtain ⟨f, hf⟩ := hv
  unfold issueCrossing
  rw [radioCrossingCurrent_init (by rw [hf]; exact h), hf]
  exact ⟨h, rfl⟩

/-! ### The window and the Staging Buffer (R14, R23) -/

theorem retestHeld_window {s : State} (h : s.window = derivedWindow s) :
    (retestHeld s).window = derivedWindow (retestHeld s) := by
  rcases retestHeld_cases s with e | ⟨u, n, -, -, e⟩
  · rw [e]; exact h
  · obtain ⟨-, -, -, -, -, hw, -⟩ := applied_acked u s.tele.heldStation s
    rw [e]; exact hw

theorem deriveWindow_derived (s : State) : (deriveWindow s).window = derivedWindow (deriveWindow s) :=
  (deriveWindow_window s).trans (derivedWindow_of_frame (deriveWindow_frame s) (deriveWindow_records s)).symm

theorem issueCrossing_window (s : State) : (issueCrossing s).window = derivedWindow (issueCrossing s) := by
  have fr := radioCrossingCurrent_frame (retestHeld (deriveWindow s))
  exact Eq.trans (fr .window (by decide)) ((retestHeld_window (deriveWindow_derived s)).trans
    (derivedWindow_of_frame fr (congrArg _ (fr .line (by decide)))).symm)

/-- A held commit stays while a staged section lies in the locked span, and is applied when none does (R23). -/
def HeldTested (s t : State) : Prop :=
  (∀ u n, s.staging = .held u n →
    ((∃ r, some r ∈ u.records ∧ inLockedSpan t r.number = true) → t.staging = .held u n)
    ∧ ((∀ r, some r ∈ u.records → inLockedSpan t r.number = false) →
        t.staging = .idle ∧ t.line.update = some (.commitDone u.id)))
  ∧ ((∀ u n, s.staging ≠ .held u n) → t.staging = s.staging ∧ t.line.records = s.line.records)

theorem retestHeld_tested {s t : State} (hspan : ∀ n, inLockedSpan t n = inLockedSpan s n)
    (hst : t.staging = (retestHeld s).staging) (hl : t.line = (retestHeld s).line) : HeldTested s t := by
  refine ⟨fun u n h => ⟨fun ⟨r, hr, hin⟩ => ?_, fun hclear => ?_⟩, fun h => ?_⟩
  · obtain ⟨-, hstay, -⟩ := retestHeld_spec s u n h
    rw [hst, hstay ⟨r, hr, hspan r.number ▸ hin⟩, h]
  · obtain ⟨-, -, happly⟩ := retestHeld_spec s u n h
    obtain ⟨hidle, hup, -⟩ := happly fun r hr => hspan r.number ▸ hclear r hr
    rw [hst, hl]; exact ⟨hidle, hup⟩
  · rcases retestHeld_cases s with e | ⟨u, n, hs, -⟩
    · rw [hst, hl, e]; exact ⟨rfl, rfl⟩
    · exact absurd hs (h u n)

theorem inLockedSpan_of_frame {bs : List Block} {s t : State} (h : OnlyChanges bs s t) (hl : LineKept s t)
    (hb : Block.params ∉ bs ∧ Block.odo ∉ bs ∧ Block.sup ∉ bs := by decide) (n : Nat) :
    inLockedSpan t n = inLockedSpan s n := by
  have ho : t.odo = s.odo := h .odo hb.2.1
  have hs : t.sup = s.sup := h .sup hb.2.2
  exact inLockedSpan_congr (congrArg _ hs) (congrArg _ hs) (congrArg _ ho) (congrArg _ ho) (h .params hb.1) hl n

theorem issueCrossing_tested (s : State) : HeldTested s (issueCrossing s) := by
  have frd := deriveWindow_frame s
  have frr := radioCrossingCurrent_frame (retestHeld (deriveWindow s))
  have fr := (retestHeld_frame (deriveWindow s)).mono.trans frr.mono
    (bs := [.line, .window, .staging, .link, .radio, .tele])
  obtain ⟨h1, h2⟩ := retestHeld_tested (s := deriveWindow s) (t := issueCrossing s)
    (inLockedSpan_of_frame fr ((retestHeld_lineKept _).trans (.of_frame frr))) (frr .staging (by decide))
    (frr .line (by decide))
  have hst : (deriveWindow s).staging = s.staging := frd .staging (by decide)
  rw [hst] at h1 h2
  rw [deriveWindow_records s] at h2
  exact ⟨h1, h2⟩

end Sys2Proof.Machine
end

section
/-! PROOFS. A count that takes the position past a compare, or that a bound holds back (O21). -/

namespace Sys2Proof.Machine

set_option Elab.async false

/-! ### An emergency written to the demand table (R103, R104, R116) -/

/-- An entry with an emergency brings the emergency, full effort and no traction permit. -/
theorem writeDemand_emergency (src : BrakeSource) {d : Demand} (h : d.emergency ≠ .none) (s : State) :
    getDemand (writeDemand src d s).brakes src = d ∧ (writeDemand src d s).brakes.emergency = true
      ∧ (writeDemand src d s).brakes.effort = 100 ∧ (writeDemand src d s).brakes.tperm = false := by
  obtain ⟨hd, -, hem, heff, hperm⟩ := writeDemand_spec src d s
  have h1 : emergencyOf (putDemand src d s.brakes) = true := (emergencyOf_iff _).2 ⟨src, by simpa using h⟩
  have h2 : emergencyOf (writeDemand src d s).brakes = true := (emergencyOf_iff _).2 ⟨src, by rw [hd]; exact h⟩
  refine ⟨hd, hem.trans h1, by rw [heff, effortOf, if_pos h1], ?_⟩
  rw [hperm]
  simp [permitHolds, h2]

/-- Leaving the line faults the odometry, outside UNSET (R38, R48). -/
theorem offLine_spec {s : State} (h : s.odo.state ≠ .unset) :
    (enterOdoFault .offLine s).odo.state = .fault
      ∧ (s.odo.state ≠ .fault →
          (enterOdoFault .offLine s).odo.fault = some .offLine
          ∧ (enterOdoFault .offLine s).brakes.odometry.emergency = .latched
          ∧ (enterOdoFault .offLine s).brakes.emergency = true ∧ (enterOdoFault .offLine s).brakes.effort = 100
          ∧ (enterOdoFault .offLine s).brakes.tperm = false
          ∧ (enterOdoFault .offLine s).odo.causes.getLsbD 8 = true
          ∧ (enterOdoFault .offLine s).link.flags.getLsbD 6 = true) := by
  by_cases hk : known s.odo.state = true
  · rw [enterOdoFault_odo _ hk]
    refine ⟨rfl, fun _ => ?_⟩
    let u := addOdoCause .offLine (s.setOdo { s.odo with state := .fault, fault := some .offLine })
    have e : enterOdoFault .offLine s = judgePart .odoDegraded (latchDemand .odometry u) := by
      unfold enterOdoFault; rw [if_pos hk]; rfl
    have hb : (judgePart .odoDegraded (latchDemand .odometry u)).brakes = (latchDemand .odometry u).brakes :=
      judgePart_frame _ _ .brakes (by decide)
    obtain ⟨hd, hem, heff, hperm⟩ := writeDemand_emergency .odometry
      (d := { getDemand u.brakes .odometry with emergency := .latched }) (by simp) u
    have hflag : u.link.flags.getLsbD 6 = true := setFlag_getLsbD .odometry _
    have hgrow : FlagsGrow u (judgePart .odoDegraded (latchDemand .odometry u)) :=
      (FlagsGrow.of_frame (latchDemand_frame .odometry u)).trans (judgePart_grows _ _)
    refine ⟨rfl, ?_, ?_, ?_, ?_, ?_, ?_⟩
    · rw [e, hb]; exact congrArg Demand.emergency hd
    · rw [e, hb]; exact hem
    · rw [e, hb]; exact heff
    · rw [e, hb]; exact hperm
    · simp [odoCauseBit, faultCause, odoCauseIndex]
    · rw [e]; exact hgrow.getLsbD hflag
  · have hf : s.odo.state = .fault := by
      rw [Bool.not_eq_true, not_known_iff] at hk; exact hk.resolve_left h
    rw [enterOdoFault_unknown _ (by simpa using hk)]
    exact ⟨hf, fun hne => absurd hf hne⟩

/-! ### The test of the compares, outcome by outcome (R36, R38) -/

section Compares

variable {held : Option Sense} {o : Odometry} {c lo up : Nat} (hc : o.cur = some c) (hlo : o.lower = some lo)
  (hup : o.upper = some up)
include hc hlo hup

theorem testCompares_up {n : Nat} (hn : o.nextUpper = some n) (hp : up * 1000 ≤ o.pUm) :
    testCompares held o = .up c up n := by
  rcases testCompares_cases (held := held) hc hlo hup with ⟨n', hn', -, e⟩ | ⟨hn', -⟩ | ⟨-, hlt, -⟩ | ⟨-, hlt, -⟩ |
    ⟨-, -, -, hlt, -⟩
  · rw [e, Option.some.inj (hn.symm.trans hn')]
  · rw [hn] at hn'; exact absurd hn' (by simp)
  all_goals omega

theorem testCompares_down {n : Nat} (htop : ¬(held = some .up ∧ o.nextUpper = none)) (hn : o.nextLower = some n)
    (hp : o.pUm < up * 1000) (hp' : o.pUm < lo * 1000) : testCompares held o = .down c lo n := by
  rcases testCompares_cases (held := held) hc hlo hup with ⟨-, -, hge, -⟩ | ⟨hn', h | h, -⟩ | ⟨-, -, n', hn', -, e⟩ |
    ⟨-, -, hn', -⟩ | ⟨-, -, hge, -⟩
  · omega
  · omega
  · exact absurd ⟨h, hn'⟩ htop
  · rw [e, Option.some.inj (hn.symm.trans hn')]
  · rw [hn] at hn'; exact absurd hn' (by simp)
  · omega

theorem testCompares_stays (htop : ¬(held = some .up ∧ o.nextUpper = none))
    (hfoot : ¬(held = some .down ∧ o.nextLower = none)) (hp : lo * 1000 ≤ o.pUm) (hp' : o.pUm < up * 1000) :
    testCompares held o = .none := by
  rcases testCompares_cases (held := held) hc hlo hup with ⟨-, -, hge, -⟩ | ⟨hn, h | h, -⟩ | ⟨-, -, -, -, hlt, -⟩ |
    ⟨-, -, hn, h | h, -⟩ | ⟨-, -, -, -, e⟩
  · omega
  · omega
  · exact absurd ⟨h, hn⟩ htop
  · omega
  · omega
  · exact absurd ⟨h, hn⟩ hfoot
  · exact e

theorem testCompares_leaves
    (h : (o.nextUpper = none ∧ (up * 1000 ≤ o.pUm ∨ held = some .up))
      ∨ (o.nextLower = none ∧ o.pUm < up * 1000 ∧ (o.pUm < lo * 1000 ∨ held = some .down))) :
    testCompares held o = .leaves := by
  rcases testCompares_cases (held := held) hc hlo hup with ⟨n, hn, hge, -⟩ | ⟨-, -, e⟩ | ⟨htop, hlt, n, hn, -⟩ |
    ⟨-, -, -, -, e⟩ | ⟨htop, hfoot, hge, hlt, -⟩
  · rcases h with ⟨hn', -⟩ | ⟨-, hlt, -⟩
    · rw [hn] at hn'; exact absurd hn' (by simp)
    · omega
  · exact e
  · rcases h with ⟨hn', hge | hh⟩ | ⟨hn', -⟩
    · omega
    · exact absurd ⟨hh, hn'⟩ htop
    · rw [hn] at hn'; exact absurd hn' (by simp)
  · exact e
  · rcases h with ⟨hn, hge' | hh⟩ | ⟨hn, -, hlt' | hh⟩
    · omega
    · exact absurd ⟨hh, hn⟩ htop
    · omega
    · exact absurd ⟨hh, hn⟩ hfoot

end Compares

/-! ### The cross-check after a movement (R46, R47) -/

/-- What a cross-check leaves of the odometry beside its state and the accumulators. -/
def located (o : Odometry) :
    (Option Nat × Option Nat × Option Nat × Option Nat × Option Nat) × Source × Option CalRef × Nat × Nat :=
  (compares o, o.source, o.cal, o.pUm, o.uUm)

theorem enterOdoFault_located (f : OdoFault) (s : State) : located (enterOdoFault f s).odo = located s.odo := by
  by_cases h : known s.odo.state = true
  · rw [enterOdoFault_odo f h]; rfl
  · rw [enterOdoFault_unknown f (by simpa using h)]

theorem crossCheck_located (s : State) : located (crossCheck s).odo = located s.odo := by
  unfold crossCheck
  dsimp only
  repeat' split
  · exact enterOdoFault_located .mismatch _
  · rfl
  · rfl

/-- In FAULT a completed span closes and nothing more (R47, R48). -/
theorem crossCheck_of_fault {s : State} (h : s.odo.state = .fault) :
    OnlyChanges [.odo] s (crossCheck s) ∧ (crossCheck s).odo.state = .fault
      ∧ (crossCheck s).odo.fault = s.odo.fault ∧ (crossCheck s).odo.causes = s.odo.causes := by
  unfold crossCheck
  dsimp only
  repeat' split
  · rw [enterOdoFault_unknown .mismatch (by simp [h, known])]; exact ⟨setOdo_frame _ s, h, rfl, rfl⟩
  · exact ⟨setOdo_frame _ s, h, rfl, rfl⟩
  · exact ⟨.refl _ _, h, rfl, rfl⟩

/-- The state after a movement, or after the cross-check that a pinion count on RACK completes. -/
def Checked (s v t : State) : Prop := t = v ∨ (onRack s = true ∧ t = crossCheck v)

theorem Checked.located {s v t : State} (h : Checked s v t) : located t.odo = located v.odo := by
  rcases h with rfl | ⟨-, rfl⟩
  · rfl
  · exact crossCheck_located v

theorem Checked.frame {s v t : State} (h : Checked s v t) : OnlyChanges [.odo, .restr, .brakes, .link] v t := by
  rcases h with rfl | ⟨-, rfl⟩
  · exact .refl _ _
  · exact crossCheck_frame v

theorem Checked.grows {s v t : State} (h : Checked s v t) : FlagsGrow v t := by
  rcases h with rfl | ⟨-, rfl⟩
  · exact .refl _
  · exact crossCheck_grows v

theorem Checked.eq {s v t : State} (h : Checked s v t) (hr : onRack s = false) : t = v := by
  rcases h with h | ⟨hr', -⟩
  · exact h
  · rw [hr] at hr'; exact Bool.noConfusion hr'

/-! ### The movement of a count of the active source (R29, R31, R32) -/

/-- A count of the active source before its test of the compares. -/
def counted (sensor : Sensor) (x : Sense) (s : State) : State := degradeAtBound (moved sensor x (fed sensor x s))

theorem takeCount_checked {sensor : Sensor} {x : Sense} {s : State} (hact : isActive sensor s.odo = true)
    (hs : s.odo.state ≠ .unset) :
    Checked s (takeCompares (movePos s.odo.pUm (sign x * (weight s.params sensor : Int))).2 (counted sensor x s))
      (takeCount sensor x s) := by
  have hfed : track (fed sensor x s).odo = track s.odo :=
    (feedCheck_kept sensor x _).1.trans (feedCal_kept sensor x s.odo).1
  simp only [track, Prod.mk.injEq] at hfed
  obtain ⟨h1, h2, -⟩ := hfed
  have hp : (fed sensor x s).params = s.params := fed_frame sensor x s .params (by decide)
  have e : activeCount sensor x (fed sensor x s)
      = takeCompares (movePos s.odo.pUm (sign x * (weight s.params sensor : Int))).2 (counted sensor x s) := by
    rw [activeCount_eq (by rw [h1]; exact hs), h2, hp]; rfl
  rw [takeCount_eq]
  dsimp only
  rw [if_pos hact, e]
  by_cases hr : (known s.odo.state && onRack s && sensor == .pinion) = true
  · rw [if_pos hr]
    simp only [Bool.and_eq_true] at hr
    exact .inr ⟨hr.1.2, rfl⟩
  · rw [if_neg hr]; exact .inl rfl

theorem fed_throughout (sensor : Sensor) (x : Sense) (s : State) :
    (fed sensor x s).odo.cal.map (·.throughout) = s.odo.cal.map (·.throughout) := by
  have h : (fed sensor x s).odo.cal = (feedCal sensor x (decodeCount sensor x s.odo)).cal := by
    unfold fed feedCheck; split
    · cases sensor <;> rfl
    · rfl
  rw [h]
  cases sensor with
  | pinion => rfl
  | wheel => show (s.odo.cal.map _).map _ = _; rw [Option.map_map]; rfl

theorem degradeAtBound_located (s : State) : located (degradeAtBound s).odo = located s.odo := by
  rw [degradeAtBound_odo]; split <;> rfl

theorem counted_frame (sensor : Sensor) (x : Sense) (s : State) :
    OnlyChanges [.odo, .restr, .link] s (counted sensor x s) :=
  ((fed_frame sensor x s).mono.trans (setOdo_frame _ _).mono).trans (degradeAtBound_frame _)

/-- The odometry after the movement: compares and source stand, `p_um` is moved (R31). -/
theorem counted_odo (sensor : Sensor) (x : Sense) (s : State) :
    compares (counted sensor x s).odo = compares s.odo
      ∧ (counted sensor x s).odo.source = s.odo.source
      ∧ (counted sensor x s).odo.pUm = (movePos s.odo.pUm (sign x * (weight s.params sensor : Int))).1
      ∧ (counted sensor x s).odo.cal.map (·.throughout) = s.odo.cal.map (·.throughout)
      ∧ ((counted sensor x s).odo.state = .unset ↔ s.odo.state = .unset)
      ∧ ((counted sensor x s).odo.state = .fault ↔ s.odo.state = .fault) := by
  have hfed := (feedCheck_kept sensor x (s.setOdo (feedCal sensor x (decodeCount sensor x s.odo))))
  have hcal := (feedCal_kept sensor x s.odo).1
  have hsrc : (feedCal sensor x (decodeCount sensor x s.odo)).source = s.odo.source := by cases sensor <;> rfl
  have htrack : track (fed sensor x s).odo = track s.odo := hfed.1.trans hcal
  have hsource : (fed sensor x s).odo.source = s.odo.source := hfed.2.2.trans hsrc
  simp only [track, Prod.mk.injEq] at htrack
  obtain ⟨h1, h2, -, h4⟩ := htrack
  have hp : (fed sensor x s).params = s.params := fed_frame sensor x s .params (by decide)
  have hloc := degradeAtBound_located (moved sensor x (fed sensor x s))
  simp only [located, Prod.mk.injEq] at hloc
  obtain ⟨k1, k2, k3, k4, -⟩ := hloc
  have hstate : (moved sensor x (fed sensor x s)).odo.state = s.odo.state := h1
  refine ⟨k1.trans h4, k2.trans hsource, ?_, ?_, ?_, ?_⟩
  · refine k4.trans ?_
    show (movePos (fed sensor x s).odo.pUm _).1 = _
    rw [h2, hp]
  · exact (congrArg _ k3).trans (fed_throughout sensor x s)
  · unfold counted; rw [degradeAtBound_odo, ← hstate]
    split
    · next h => simp [h.1]
    · rfl
  · unfold counted; rw [degradeAtBound_odo, ← hstate]
    split
    · next h => simp [h.1]
    · rfl

/-! ### The section entered (R30, R37, R44, R46) -/

/-- The current section's kind at an index is RACK. -/
def rackAt (s : State) (i : Nat) : Bool := (s.line.records[i]?).any (·.kind == .rack)

/-- What a crossing from section `c` into section `i` does, in every block (R14, R23, R30, R37, R44, R46, R157). -/
def Entered (c i : Nat) (s t : State) : Prop :=
  t.odo.cur = some i ∧ t.odo.source = (if rackAt s i then .pinion else .wheel)
  ∧ (rackAt s i = true → rackAt s c = false → t.odo.accPin = 0 ∧ t.odo.accWhl = 0)
  ∧ t.odo.cal.map (·.throughout) = s.odo.cal.map (fun y =>
      y.throughout && !(rackAt s i && s.odo.source == .wheel))
  ∧ t.window = derivedWindow t
  ∧ (∀ u n, s.staging = .held u n →
      ((∃ r, some r ∈ u.records ∧ inLockedSpan t r.number = true) → t.staging = .held u n)
      ∧ ((∀ r, some r ∈ u.records → inLockedSpan t r.number = false) →
          t.staging = .idle ∧ t.line.update = some (.commitDone u.id)))
  ∧ ((∀ u n, s.staging ≠ .held u n) → t.staging = s.staging ∧ t.line.records = s.line.records)
  ∧ (s.radio.sync = .init → t.radio.sync = .init ∧ t.radio.tuned = s.radio.tuned)
  ∧ (∀ r, s.radio.sync ≠ .init → t.line.records[i]? = some r →
      t.radio.tuned = some r.cell
      ∧ (s.radio.tuned = some r.cell → t.radio.sync = s.radio.sync ∧ t.radio.grant = s.radio.grant
          ∧ t.radio.chsel = s.radio.chsel ∧ t.radio.holdover = s.radio.holdover)
      ∧ (s.radio.tuned ≠ some r.cell → t.radio.sync = .search ∧ t.radio.grant = none
          ∧ t.radio.chsel = s.radio.channels.getD r.cell 0 ∧ t.radio.holdover = none ∧ t.radio.miss = 0
          ∧ (∀ g, s.radio.grant = some g → t.radio.routes = s.radio.routes.set g.slot .off)
          ∧ t.radio.causes.getLsbD 4 = true ∧ t.link.flags.getLsbD (flagIndex .radioEvent) = true))

theorem currentRecord_at {s : State} {c : Nat} (h : s.odo.cur = some c) : currentRecord s = s.line.records[c]? := by
  unfold currentRecord recordAt; rw [h]; rfl

theorem onRack_at {s : State} {c : Nat} (h : s.odo.cur = some c) : onRack s = rackAt s c := by
  unfold onRack rackAt; rw [currentRecord_at h]

theorem calAfterSource_throughout (src : Source) (o : Odometry) :
    (calAfterSource src o).map (·.throughout)
      = (o.cal.map (·.throughout)).map (fun b => b && !(src == .pinion && o.source == .wheel)) := by
  unfold calAfterSource
  cases src <;> cases o.source <;> cases o.cal <;> simp

/-- The odometry's own part of entering a section: the fields `enterSection` sets. -/
def EntersAs (i : Nat) (w : State) (o : Odometry) : Prop :=
  o.cur = some i ∧ o.source = (enterSection i w w.odo).source ∧ o.cal = (enterSection i w w.odo).cal
    ∧ o.accPin = (enterSection i w w.odo).accPin ∧ o.accWhl = (enterSection i w w.odo).accWhl

/-- The state before a crossing keeps what a count never changes. -/
structure CountedFrom (c : Nat) (s w : State) : Prop where
  frame : OnlyChanges [.odo, .restr, .link] s w
  section_eq : s.odo.cur = some c
  compares_eq : compares w.odo = compares s.odo
  source_eq : w.odo.source = s.odo.source
  throughout_eq : w.odo.cal.map (·.throughout) = s.odo.cal.map (·.throughout)

theorem CountedFrom.line_eq {c : Nat} {s w : State} (h : CountedFrom c s w) : w.line = s.line :=
  h.frame .line (by decide)

theorem CountedFrom.cur_eq {c : Nat} {s w : State} (h : CountedFrom c s w) : w.odo.cur = some c :=
  (congrArg Prod.fst h.compares_eq).trans h.section_eq

theorem crossing_odo {c i : Nat} {s w v t : State} {o : Odometry} (hw : CountedFrom c s w) (ho : EntersAs i w o)
    (hv : v.odo = o) (ht : Checked s v t) :
    t.odo.cur = some i ∧ t.odo.source = (if rackAt s i then .pinion else .wheel)
    ∧ (rackAt s i = true → rackAt s c = false → t.odo.accPin = 0 ∧ t.odo.accWhl = 0)
    ∧ t.odo.cal.map (·.throughout) = s.odo.cal.map (fun y =>
        y.throughout && !(rackAt s i && s.odo.source == .wheel)) := by
  have hrack (k : Nat) : rackAt w k = rackAt s k := by unfold rackAt; rw [hw.line_eq]
  obtain ⟨hcur, hsrc, hcal, hpin, hwhl⟩ := ho
  have hloc := ht.located
  simp only [located, compares, Prod.mk.injEq, hv] at hloc
  obtain ⟨⟨l1, -⟩, l2, l3, -⟩ := hloc
  have hsource : o.source = if rackAt s i then .pinion else .wheel := by rw [← hrack]; exact hsrc
  refine ⟨l1.trans hcur, l2.trans hsource, fun hi hc => ?_, ?_⟩
  · rw [ht.eq ((onRack_at hw.section_eq).trans hc), hv, hpin, hwhl]
    have hanew : ((recordAt w i).any (·.kind == .rack) && !onRack w) = true := by
      rw [onRack_at hw.cur_eq, hrack, hc, show (recordAt w i).any (·.kind == .rack) = rackAt w i from rfl, hrack, hi]; rfl
    exact ⟨if_pos hanew, if_pos hanew⟩
  · have hsrc' : (enterSection i w w.odo).source = if rackAt s i then .pinion else .wheel := hsrc ▸ hsource
    rw [l3, hcal, show (enterSection i w w.odo).cal = calAfterSource (enterSection i w w.odo).source w.odo from rfl,
      calAfterSource_throughout, hw.throughout_eq, hw.source_eq, Option.map_map, hsrc']
    congr 1
    funext y
    cases rackAt s i <;> simp

theorem crossing_enters {c i : Nat} {s w t : State} {o : Odometry} (hw : CountedFrom c s w) (ho : EntersAs i w o)
    (ht : Checked s (issueCrossing (w.setOdo o)) t) : Entered c i s t := by
  have hv : (issueCrossing (w.setOdo o)).odo = o := issueCrossing_odo _
  obtain ⟨h1, h2, h3, h4⟩ := crossing_odo hw ho hv ht
  have hloc := ht.located
  simp only [located, compares, Prod.mk.injEq] at hloc
  obtain ⟨⟨l1, -⟩, -, -, l4, l5⟩ := hloc
  have fr := ht.frame
  have frw : OnlyChanges [.odo, .restr, .link] s (w.setOdo o) := hw.frame.trans (setOdo_frame o w).mono
  have hline : t.line = (issueCrossing (w.setOdo o)).line := fr .line (by decide)
  have hsup : t.sup = (issueCrossing (w.setOdo o)).sup := fr .sup (by decide)
  have hpar : t.params = (issueCrossing (w.setOdo o)).params := fr .params (by decide)
  have hradio : t.radio = (issueCrossing (w.setOdo o)).radio := fr .radio (by decide)
  have hradio' : (w.setOdo o).radio = s.radio := frw .radio (by decide)
  have hst : t.staging = (issueCrossing (w.setOdo o)).staging := fr .staging (by decide)
  have hst' : (w.setOdo o).staging = s.staging := frw .staging (by decide)
  have hspan (n : Nat) : inLockedSpan t n = inLockedSpan (issueCrossing (w.setOdo o)) n :=
    inLockedSpan_congr (congrArg _ hsup) (congrArg _ hsup) l4 l5 hpar (.of_eq hline) n
  obtain ⟨t1, t2⟩ := issueCrossing_tested (w.setOdo o)
  refine ⟨h1, h2, h3, h4, ?_, fun u n hs => ?_, fun hs => ?_, fun hs => ?_, fun r hs hr => ?_⟩
  · exact Eq.trans (fr .window (by decide)) ((issueCrossing_window _).trans
      (derivedWindow_congr l1 (congrArg _ hsup) (congrArg _ hline) (congrArg _ hpar) (congrArg _ hpar)).symm)
  · obtain ⟨k1, k2⟩ := t1 u n (hst'.trans hs)
    simp only [hspan, hst, hline]
    exact ⟨k1, k2⟩
  · obtain ⟨k1, k2⟩ := t2 (by rw [hst']; exact hs)
    rw [hst, hline, k1, k2]
    exact ⟨hst', congrArg LineTable.records hw.line_eq⟩
  · rw [hradio, ← hradio']
    exact issueCrossing_init (by rw [hradio']; exact hs)
  · have hcur : currentRecord (issueCrossing (w.setOdo o)) = some r := by
      rw [currentRecord_at (l1.symm.trans h1), ← hline]; exact hr
    obtain ⟨-, r2, r3, r4⟩ := issueCrossing_retuned hcur
    rw [hradio'] at r2 r3 r4
    rw [hradio]
    refine ⟨r2 hs, r3 hs, fun hne => ?_⟩
    obtain ⟨k1, k2, k3, k4, k5, k6, k7, k8⟩ := r4 hs hne
    exact ⟨k1, k2, k3, k4, k5, k6, k7, ht.grows.getLsbD k8⟩

/-- The test of the compares moves no position (R36, R38). -/
theorem takeCompares_pUm (held : Option Sense) (s : State) : (takeCompares held s).odo.pUm = s.odo.pUm := by
  unfold takeCompares
  split
  · rfl
  · rw [crossUp_eq, issueCrossing_odo]; rfl
  · rw [crossDown_eq, issueCrossing_odo]; rfl
  · exact congrArg (·.2.2.2.1) (enterOdoFault_located .offLine s)

theorem signedWeight_eq (sensor : Sensor) (x : Sense) (p : Params) :
    signedWeight sensor x p = sign x * (weight p sensor : Int) := by
  unfold signedWeight; cases sensor <;> cases x <;> rfl

/-- A count of the active source in a held section: what the test of the compares then finds. -/
theorem counted_from (sensor : Sensor) (x : Sense) {s : State} {c : Nat} (hc : s.odo.cur = some c) :
    CountedFrom c s (counted sensor x s) := by
  obtain ⟨h1, h2, -, h4, -⟩ := counted_odo sensor x s
  exact ⟨counted_frame sensor x s, hc, h1, h2, h4⟩

/-- Leaving the line at a count: FAULT in the section held (R38, R48). -/
theorem leaving_faults {c : Nat} {s w t : State} (hw : CountedFrom c s w) (hs : s.odo.state ≠ .unset)
    (hu : w.odo.state = .unset ↔ s.odo.state = .unset) (hf : w.odo.state = .fault ↔ s.odo.state = .fault)
    (ht : Checked s (enterOdoFault .offLine w) t) :
    t.odo.state = .fault ∧ compares t.odo = compares s.odo ∧ OnlyChanges [.odo, .restr, .brakes, .link] s t
      ∧ (s.odo.state ≠ .fault →
          t.odo.fault = some .offLine ∧ t.brakes.odometry.emergency = .latched
          ∧ t.brakes.emergency = true ∧ t.brakes.effort = 100 ∧ t.brakes.tperm = false
          ∧ t.odo.causes.getLsbD 8 = true ∧ t.link.flags.getLsbD 6 = true) := by
  obtain ⟨hst, hfaults⟩ := offLine_spec (mt hu.1 hs)
  have hcmp : compares t.odo = compares s.odo :=
    (congrArg Prod.fst (ht.located.trans (enterOdoFault_located _ _))).trans hw.compares_eq
  have fr : OnlyChanges [.odo, .restr, .brakes, .link] s t :=
    (hw.frame.mono.trans (enterOdoFault_frame _ w)).trans ht.frame
  have hkeep : OnlyChanges [.odo] (enterOdoFault .offLine w) t → t.odo.state = .fault →
      t.odo.fault = (enterOdoFault .offLine w).odo.fault → t.odo.causes = (enterOdoFault .offLine w).odo.causes →
      t.odo.state = .fault ∧ compares t.odo = compares s.odo ∧ OnlyChanges [.odo, .restr, .brakes, .link] s t
      ∧ (s.odo.state ≠ .fault →
          t.odo.fault = some .offLine ∧ t.brakes.odometry.emergency = .latched
          ∧ t.brakes.emergency = true ∧ t.brakes.effort = 100 ∧ t.brakes.tperm = false
          ∧ t.odo.causes.getLsbD 8 = true ∧ t.link.flags.getLsbD 6 = true) := by
    intro fr' h1 h2 h3
    have hb : t.brakes = (enterOdoFault .offLine w).brakes := fr' .brakes (by decide)
    have hl : t.link = (enterOdoFault .offLine w).link := fr' .link (by decide)
    refine ⟨h1, hcmp, fr, fun hne => ?_⟩
    rw [h2, h3, hb, hl]
    exact hfaults (mt hf.1 hne)
  rcases ht with rfl | ⟨-, rfl⟩
  · exact hkeep (.refl _ _) hst rfl rfl
  · obtain ⟨k1, k2, k3, k4⟩ := crossCheck_of_fault hst
    exact hkeep k1 k2 k3 k4

end Sys2Proof.Machine

namespace Sys2Proof.Proofs

set_option Elab.async false

open Machine

/-- Settles O21: the outcome of the test of the compares, then the crossing by `crossing_enters` or the fault by
`leaving_faults`. -/
theorem countsCrossBoundaries : Obligations.CountsCrossBoundaries := by
  unfold Obligations.CountsCrossBoundaries
  intro sensor x s t c lo up ht hsrc hs hc hlo hup hlt hmax
  extract_lets moved heldAtTop heldAtFoot rack crossed
  have hact : isActive sensor s.odo = true := by cases sensor <;> simp [isActive, hsrc]
  obtain rfl : takeCount sensor x s = t := Host.Outcome.next.inj ht
  have hchk := takeCount_checked (x := x) hact hs
  have hw := counted_from sensor x hc
  obtain ⟨hcmp, hsource, hpos, -, hunset, hfault⟩ := counted_odo sensor x s
  set w := counted sensor x s
  set t := takeCount sensor x s
  have hcmp' := hcmp
  simp only [compares, Prod.mk.injEq, hc, hlo, hup] at hcmp'
  obtain ⟨wcur, wlo, wup, wnl, wnu⟩ := hcmp'
  obtain ⟨hm, hheld, hfoot⟩ := movePos_spec s.odo.pUm (sign x * (weight s.params sensor : Int))
  set held := (movePos s.odo.pUm (sign x * (weight s.params sensor : Int))).2
  rw [← hpos, ← signedWeight_eq] at hm
  rw [← signedWeight_eq] at hheld hfoot
  have hp : t.odo.pUm = w.odo.pUm :=
    Eq.trans (congrArg (·.2.2.2.1) hchk.located) (takeCompares_pUm held w)
  have htop : (held = some .up ∧ w.odo.nextUpper = none) → 67108863999 ≤ t.odo.pUm := by
    rintro ⟨hh, -⟩
    have := hheld.1 hh
    omega
  have leaves (h : testCompares held w.odo = .leaves) := by
    rw [takeCompares_leaves h] at hchk
    exact leaving_faults hw hs hunset hfault hchk
  refine ⟨fun n hn hge => ?_, fun n hn hlt1 hlt2 => ?_, fun hge hlt1 htop' hfoot' => ?_, fun h => ?_, fun h => ?_,
    fun h => ?_⟩
  · rw [takeCompares_up (testCompares_up wcur wlo wup (wnu.trans hn) (hp ▸ hge))] at hchk
    have hloc := hchk.located
    rw [issueCrossing_odo] at hloc
    simp only [located, compares, Prod.mk.injEq] at hloc
    obtain ⟨⟨-, l2, l3, l4, l5⟩, -⟩ := hloc
    refine ⟨crossing_enters (o := crossedUp c up n w) hw ⟨rfl, rfl, rfl, rfl, rfl⟩ hchk, l2, l3, l4.trans wlo, l5.trans ?_⟩
    exact congrArg (fun l : LineTable => (l.records[c + 2]?).map fun r => r.start + r.length) hw.line_eq
  · have hnt : ¬(held = some .up ∧ w.odo.nextUpper = none) := fun h => by have := htop h; omega
    rw [takeCompares_down (testCompares_down wcur wlo wup hnt (wnl.trans hn) (hp ▸ hlt1) (hp ▸ hlt2))] at hchk
    have hloc := hchk.located
    rw [issueCrossing_odo] at hloc
    simp only [located, compares, Prod.mk.injEq] at hloc
    obtain ⟨⟨-, l2, l3, l4, l5⟩, -⟩ := hloc
    refine ⟨crossing_enters (o := crossedDown c lo n w) hw ⟨rfl, rfl, rfl, rfl, rfl⟩ hchk, l3, l2, l5.trans wup, l4.trans ?_⟩
    exact congrArg (fun l : LineTable => if c - 1 = 0 then none else (l.records[c - 2]?).map (·.start)) hw.line_eq
  · have hnt : ¬(held = some .up ∧ w.odo.nextUpper = none) := fun h => htop' ⟨wnu ▸ h.2, hheld.1 h.1⟩
    have hnf : ¬(held = some .down ∧ w.odo.nextLower = none) := fun h => hfoot' ⟨wnl ▸ h.2, hfoot.1 h.1⟩
    rw [takeCompares_none (testCompares_stays wcur wlo wup hnt hnf (hp ▸ hge) (hp ▸ hlt1))] at hchk
    have hloc := hchk.located
    simp only [located, compares, Prod.mk.injEq] at hloc
    obtain ⟨⟨l1, l2, l3, l4, l5⟩, l6, -⟩ := hloc
    exact ⟨l1.trans wcur, l2.trans wlo, l3.trans wup, l4.trans wnl, l5.trans wnu, l6.trans hsource,
      hw.frame.mono.trans hchk.frame⟩
  · have := h.2
    omega
  · have := h.2
    omega
  · have hleaves : testCompares held w.odo = .leaves := by
      refine testCompares_leaves wcur wlo wup ?_
      rw [wnu, wnl, ← hp]
      rcases h with ⟨hn, hge⟩ | ⟨hn, hover⟩ | ⟨hn, hunder⟩ | ⟨hn, hlt1, hlt2⟩
      · exact .inl ⟨hn, .inl hge⟩
      · exact .inl ⟨hn, .inr (hheld.2 hover)⟩
      · exact .inr ⟨hn, by omega, .inr (hfoot.2 hunder)⟩
      · exact .inr ⟨hn, hlt1, .inl hlt2⟩
    obtain ⟨k1, k2, k3, k4⟩ := leaves hleaves
    simp only [compares, Prod.mk.injEq] at k2
    exact ⟨k1, k2.1.trans hc, k2.2.1.trans hlo, k2.2.2.1.trans hup, k3, k4⟩

end Sys2Proof.Proofs
end

section
/-! PROOFS. Mark detections (O26). -/

namespace Sys2Proof.Machine

set_option Elab.async false

/-! ### The candidates and the match (R39) -/

theorem mem_candidates {s : State} {c : Candidate} :
    c ∈ candidates s ↔ ∃ e r, some e ∈ s.window ∧ s.line.records[e.index]? = some r ∧ r.mark = some c.mark
      ∧ c.index = e.index ∧ c.number = r.number := by
  simp only [candidates, List.mem_filterMap, Option.bind_eq_some_iff, Option.map_eq_some_iff]
  constructor
  · rintro ⟨o, ho, e, rfl, r, hr, m, hm, rfl⟩
    exact ⟨e, r, ho, hr, hm, rfl, rfl⟩
  · obtain ⟨mark, index, number⟩ := c
    rintro ⟨e, r, he, hr, hm, rfl, rfl⟩
    exact ⟨some e, he, e, rfl, r, hr, mark, hm, rfl⟩

/-- A candidate is chosen before another: nearer, or as near and of no higher index (R39, step 3). -/
def Preferred (p : Nat) (c d : Candidate) : Prop :=
  markDistance p c < markDistance p d ∨ (markDistance p c = markDistance p d ∧ c.index ≤ d.index)

theorem Preferred.refl (p : Nat) (c : Candidate) : Preferred p c c := .inr ⟨rfl, le_rfl⟩

theorem Preferred.trans {p : Nat} {a b c : Candidate} : Preferred p a b → Preferred p b c → Preferred p a c := by
  unfold Preferred; omega

theorem nearerMark_some (p : Nat) (b c : Candidate) :
    ∃ d, nearerMark p (some b) c = some d ∧ (d = b ∨ d = c) ∧ Preferred p d b ∧ Preferred p d c := by
  unfold nearerMark Preferred
  dsimp only
  split
  · next h => exact ⟨c, rfl, .inr rfl, by omega, by omega⟩
  · next h => exact ⟨b, rfl, .inl rfl, by omega, by omega⟩

theorem nearest_from (p : Nat) (l : List Candidate) (b : Candidate) :
    ∃ d, l.foldl (nearerMark p) (some b) = some d ∧ (d = b ∨ d ∈ l) ∧ Preferred p d b ∧ ∀ c ∈ l, Preferred p d c := by
  induction l generalizing b with
  | nil => exact ⟨b, rfl, .inl rfl, .refl p b, by simp⟩
  | cons c l ih =>
    obtain ⟨d, hd, hmem, hb, hc⟩ := nearerMark_some p b c
    obtain ⟨e, he, hmem', hd', hl⟩ := ih d
    refine ⟨e, by rw [List.foldl_cons, hd, he], ?_, hd'.trans hb, ?_⟩
    · rcases hmem' with rfl | h
      · exact hmem.imp_right fun h => by rw [h]; exact List.mem_cons_self
      · exact .inr (List.mem_cons_of_mem _ h)
    · exact List.forall_mem_cons.2 ⟨hd'.trans hc, hl⟩

/-- The chosen candidate is preferred to every other; none is chosen when there is none. -/
theorem nearest_spec (p : Nat) (l : List Candidate) :
    (l = [] ∧ l.foldl (nearerMark p) none = none)
      ∨ ∃ d ∈ l, l.foldl (nearerMark p) none = some d ∧ ∀ c ∈ l, Preferred p d c := by
  cases l with
  | nil => exact .inl ⟨rfl, rfl⟩
  | cons b l =>
    obtain ⟨d, hd, hmem, hb, hl⟩ := nearest_from p l b
    exact .inr ⟨d, List.mem_cons.2 hmem, hd, List.forall_mem_cons.2 ⟨hb, hl⟩⟩

theorem matchedMark_some {s : State} {c : Candidate} (h : matchedMark s = some c) :
    c ∈ candidates s ∧ markDistance s.odo.pUm c ≤ ((s.odo.uUm + 999) / 1000 + s.params.markWindow) * 1000
      ∧ ∀ d ∈ candidates s, Preferred s.odo.pUm c d := by
  unfold matchedMark at h
  rcases nearest_spec s.odo.pUm (candidates s) with ⟨-, e⟩ | ⟨d, hd, e, hall⟩
  · rw [e] at h; exact absurd h (by simp)
  · rw [e] at h
    dsimp only at h
    split at h
    · next hw => cases h; exact ⟨hd, hw, hall⟩
    · exact absurd h (by simp)

theorem matchedMark_none {s : State} (h : matchedMark s = none) :
    ∀ d ∈ candidates s, ((s.odo.uUm + 999) / 1000 + s.params.markWindow) * 1000 < markDistance s.odo.pUm d := by
  unfold matchedMark at h
  rcases nearest_spec s.odo.pUm (candidates s) with ⟨hnil, -⟩ | ⟨d, hd, e, hall⟩
  · rw [hnil]; simp
  · rw [e] at h
    dsimp only at h
    split at h
    · exact absurd h (by simp)
    · next hw =>
      intro c hc
      have hdist : markDistance s.odo.pUm d ≤ markDistance s.odo.pUm c := by
        have := hall c hc; unfold Preferred at this; omega
      exact lt_of_lt_of_le (not_le.1 hw) hdist

/-! ### What a correction keeps of the odometry -/

/-- The cause set grows (R51). -/
def OdoCausesGrow (o o' : Odometry) : Prop := ∃ f, o'.causes = o.causes ||| f

theorem OdoCausesGrow.of_eq {o o' : Odometry} (h : o'.causes = o.causes) : OdoCausesGrow o o' := ⟨0, by simp [h]⟩

theorem OdoCausesGrow.getLsbD {o o' : Odometry} (h : OdoCausesGrow o o') {k : Nat} (hk : o.causes.getLsbD k = true) :
    o'.causes.getLsbD k = true := by
  obtain ⟨f, hf⟩ := h
  simp [hf, hk]

/-- The fields that the test of the compares and the calibration never touch. -/
def measured (o : Odometry) : (Nat × Nat × Nat × Nat) × Int × Sample × Bool × Option MarkReport :=
  ((o.pUm, o.uUm, o.carry, o.capture), o.travel, o.sample, o.standstill, o.report)

theorem handleCal_spec (m : Nat) (s : State) :
    ∃ cs, (handleCal m s).odo = { s.odo with causes := s.odo.causes ||| cs, cal := some ⟨m, 0, s.odo.source == .wheel⟩ }
      ∧ (handleCal m s).params.aRack = s.params.aRack ∧ (handleCal m s).params.aAdh = s.params.aAdh
      ∧ FlagsGrow s (handleCal m s) := by
  have h : ∃ cs, (evaluateCal m s).odo = { s.odo with causes := s.odo.causes ||| cs }
      ∧ (evaluateCal m s).params.aRack = s.params.aRack ∧ (evaluateCal m s).params.aAdh = s.params.aAdh
      ∧ FlagsGrow s (evaluateCal m s) := by
    unfold evaluateCal
    repeat' split
    · exact ⟨0, by simp, rfl, rfl, .refl _⟩
    · exact ⟨_, rfl, rfl, rfl, addOdoCause_grows .wheelCalAdopted _⟩
    · exact ⟨_, rfl, rfl, rfl, addOdoCause_grows .wheelCalOutlier s⟩
    · exact ⟨0, by simp, rfl, rfl, .refl _⟩
  obtain ⟨cs, ho, hr, ha, hg⟩ := h
  exact ⟨cs, by unfold handleCal; dsimp only [State.setOdo_odo]; rw [ho], hr, ha, hg⟩

theorem offerReport_grows (r : MarkReport) (s : State) : FlagsGrow s (offerReport r s) := by
  unfold offerReport
  split
  · exact .refl _
  · exact addOdoCause_grows .markReport (s.setOdo _)

/-! ### The test of the compares at a mark (R36, R38) -/

/-- The line is left at a position: past the compare of a section that has no neighbour there. -/
def BeyondLine (o : Odometry) : Prop :=
  (o.nextUpper = none ∧ ∃ up, o.upper = some up ∧ up * 1000 ≤ o.pUm)
    ∨ (o.nextLower = none ∧ ∃ lo, o.lower = some lo ∧ o.pUm < lo * 1000)

theorem takeCompares_unheld (s : State) :
    takeCompares none s = s
      ∨ (∃ i o, EntersAs i s o ∧ measured o = measured s.odo ∧ o.state = s.odo.state ∧ o.causes = s.odo.causes
          ∧ (s.odo.cur = some i → o.accPin = s.odo.accPin ∧ o.accWhl = s.odo.accWhl)
          ∧ takeCompares none s = issueCrossing (s.setOdo o))
      ∨ (BeyondLine s.odo ∧ takeCompares none s = enterOdoFault .offLine s) := by
  have hstay {i : Nat} (h : s.odo.cur = some i) : (enterSection i s s.odo).accPin = s.odo.accPin
      ∧ (enterSection i s s.odo).accWhl = s.odo.accWhl := by
    have hr : ((recordAt s i).any (·.kind == .rack) && !onRack s) = false := by
      rw [onRack_at h, show (recordAt s i).any (·.kind == .rack) = rackAt s i from rfl]; cases rackAt s i <;> rfl
    unfold enterSection
    simp only [hr]
    exact ⟨rfl, rfl⟩
  cases hc : s.odo.cur with
  | none => exact .inl (takeCompares_none (testCompares_no_section hc))
  | some c =>
    cases hlo : s.odo.lower with
    | none => exact .inl (takeCompares_none (by simp [testCompares, hc, hlo]))
    | some lo =>
      cases hup : s.odo.upper with
      | none => exact .inl (takeCompares_none (by simp [testCompares, hc, hup]))
      | some up =>
        rcases testCompares_cases (held := none) hc hlo hup with ⟨n, -, -, e⟩ | ⟨hn, hge, e⟩ | ⟨-, -, n, -, -, e⟩ |
          ⟨-, -, hn, hlt, e⟩ | ⟨-, -, -, -, e⟩
        · exact .inr (.inl ⟨c + 1, crossedUp c up n s, ⟨rfl, rfl, rfl, rfl, rfl⟩, rfl, rfl, rfl,
            fun h => hstay (hc.trans h), takeCompares_up e⟩)
        · exact .inr (.inr ⟨.inl ⟨hn, up, hup, hge.resolve_right (by simp)⟩, takeCompares_leaves e⟩)
        · exact .inr (.inl ⟨c - 1, crossedDown c lo n s, ⟨rfl, rfl, rfl, rfl, rfl⟩, rfl, rfl, rfl,
            fun h => hstay (hc.trans h), takeCompares_down e⟩)
        · exact .inr (.inr ⟨.inr ⟨hn, lo, hlo, hlt.resolve_right (by simp)⟩, takeCompares_leaves e⟩)
        · exact .inl (takeCompares_none e)

/-- After the test of the compares: a section newly entered has its window and its cell tuned (R14, R157). -/
def NewlyTold (s t : State) : Prop :=
  t.window = derivedWindow t
    ∧ ∀ i r, s.radio.sync ≠ .init → t.odo.cur = some i → t.line.records[i]? = some r → t.radio.tuned = some r.cell

theorem takeCompares_spec (s : State) (hk : known s.odo.state = true) :
    let t := takeCompares none s
    measured t.odo = measured s.odo ∧ OdoCausesGrow s.odo t.odo
    ∧ ((t.odo.state = s.odo.state ∧ t.brakes = s.brakes) ∨ (t.odo.state = .fault ∧ BeyondLine s.odo))
    ∧ (t.odo.cur = s.odo.cur → t.odo.accPin = s.odo.accPin ∧ t.odo.accWhl = s.odo.accWhl)
    ∧ (t.odo.cur ≠ s.odo.cur → NewlyTold s t) := by
  intro t
  rcases takeCompares_unheld s with e | ⟨i, o, ho, hm, hst, hcs, hacc, e⟩ | ⟨hb, e⟩
  · rw [show t = s from e]
    exact ⟨rfl, .of_eq rfl, .inl ⟨rfl, rfl⟩, fun _ => ⟨rfl, rfl⟩, fun h => absurd rfl h⟩
  · have hodo : t.odo = o := (congrArg State.odo e).trans (issueCrossing_odo _)
    have hbr : t.brakes = s.brakes :=
      (congrArg State.brakes e).trans (issueCrossing_frame (s.setOdo o) .brakes (by decide))
    rw [hodo, hbr]
    refine ⟨hm, .of_eq hcs, .inl ⟨hst, rfl⟩, fun h => hacc (h ▸ ho.1), fun _ => ?_⟩
    rw [show t = issueCrossing (s.setOdo o) from e]
    refine ⟨issueCrossing_window _, fun j r hs hj hr => ?_⟩
    exact (issueCrossing_retuned ((currentRecord_at hj).trans hr)).tuned hs
  · have hodo : t.odo = _ := (congrArg State.odo e).trans (enterOdoFault_odo .offLine hk)
    rw [hodo]
    exact ⟨rfl, ⟨_, rfl⟩, .inr ⟨rfl, hb⟩, fun _ => ⟨rfl, rfl⟩, fun h => absurd rfl h⟩

/-! ### An applied mark (R40, R44, R45) -/

theorem correctPosition_spec (m : Nat) {s : State} (hk : known s.odo.state = true) :
    let w := correctPosition m s
    measured w.odo = ((m * 1000, s.params.markTol * 1000, 0, s.odo.capture), (measured s.odo).2)
    ∧ w.odo.state = .valid ∧ compares w.odo = compares s.odo
    ∧ w.odo.accPin = s.odo.accPin ∧ w.odo.accWhl = s.odo.accWhl
    ∧ (s.odo.state = .degraded → w.odo.causes.getLsbD 3 = true ∧ w.link.flags.getLsbD 6 = true) := by
  intro w
  have ho := correctPosition_odo m s
  rcases (known_iff _).1 hk with hv | hd
  · rw [if_neg (by rw [hv]; decide)] at ho
    rw [show w.odo = _ from ho]
    exact ⟨rfl, hv, rfl, rfl, rfl, fun h => by rw [hv] at h; exact absurd h (by decide)⟩
  · rw [if_pos hd] at ho
    refine ⟨by rw [show w.odo = _ from ho]; rfl, by rw [show w.odo = _ from ho], by rw [show w.odo = _ from ho]; rfl,
      by rw [show w.odo = _ from ho], by rw [show w.odo = _ from ho], fun _ => ⟨?_, ?_⟩⟩
    · rw [show w.odo = _ from ho]; simp [odoCauseBit, odoCauseIndex]
    · show (correctPosition m s).link.flags.getLsbD 6 = true
      unfold correctPosition
      dsimp only
      rw [if_pos hd]
      exact (judgePart_grows _ _).getLsbD (setFlag_getLsbD .odometry _)

theorem applyMark_spec (m : Nat) {s : State} (hk : known s.odo.state = true) :
    let t := applyMark m s
    measured t.odo = ((m * 1000, s.params.markTol * 1000, 0, s.odo.capture), (measured s.odo).2)
    ∧ ((t.odo.state = .valid ∧ t.brakes = s.brakes)
        ∨ (t.odo.state = .fault ∧ ((s.odo.nextUpper = none ∧ s.odo.upper.any (· ≤ m))
            ∨ (s.odo.nextLower = none ∧ s.odo.lower.any (m < ·)))))
    ∧ (t.odo.cur = s.odo.cur → t.odo.accPin = s.odo.accPin ∧ t.odo.accWhl = s.odo.accWhl)
    ∧ (t.odo.cur ≠ s.odo.cur → NewlyTold s t)
    ∧ t.odo.cal = some ⟨m, 0, t.odo.source == .wheel⟩
    ∧ (s.odo.state = .degraded → t.odo.causes.getLsbD 3 = true ∧ t.link.flags.getLsbD 6 = true) := by
  intro t
  let w := correctPosition m s
  let v := takeCompares none w
  obtain ⟨w1, w2, w3, w4, w5, w6⟩ := correctPosition_spec m hk
  obtain ⟨v1, v2, v3, v4, v5⟩ := takeCompares_spec w (by rw [w2]; rfl)
  obtain ⟨cs, ho, hR, hA, hg⟩ := handleCal_spec m v
  have hw : OnlyChanges [.odo, .restr, .link] s w := correctPosition_frame m s
  have ht : OnlyChanges [.params, .odo, .link] v t := handleCal_frame m v
  have hodo : t.odo = { v.odo with causes := v.odo.causes ||| cs, cal := some ⟨m, 0, v.odo.source == .wheel⟩ } := ho
  have hcur : w.odo.cur = s.odo.cur := congrArg Prod.fst w3
  have hradio : w.radio = s.radio := hw .radio (by decide)
  have hline : t.line = v.line := ht .line (by decide)
  have hsup : t.sup = v.sup := ht .sup (by decide)
  have htr : t.radio = v.radio := ht .radio (by decide)
  refine ⟨?_, ?_, fun h => ?_, fun h => ?_, by rw [hodo], fun h => ⟨?_, ?_⟩⟩
  · rw [hodo]; exact Eq.trans v1 w1
  · have hb : t.brakes = v.brakes := ht .brakes (by decide)
    rw [hodo, hb]
    rcases v3 with ⟨h1, h2⟩ | ⟨h1, h2⟩
    · exact .inl ⟨h1.trans w2, h2.trans (hw .brakes (by decide))⟩
    · refine .inr ⟨h1, ?_⟩
      have hp : w.odo.pUm = m * 1000 := congrArg (·.1.1) w1
      simp only [compares, Prod.mk.injEq] at w3
      obtain ⟨-, c2, c3, c4, c5⟩ := w3
      refine h2.imp (fun ⟨hn, up, hup, hge⟩ => ?_) (fun ⟨hn, lo, hlo, hlt⟩ => ?_)
      · rw [← c5, ← c3, hup]; exact ⟨hn, by simpa using (by omega : up ≤ m)⟩
      · rw [← c4, ← c2, hlo]; exact ⟨hn, by simpa using (by omega : m < lo)⟩
  · rw [hodo] at h ⊢
    obtain ⟨k1, k2⟩ := v4 (h.trans hcur.symm)
    exact ⟨k1.trans w4, k2.trans w5⟩
  · have hvcur : t.odo.cur = v.odo.cur := by rw [hodo]
    obtain ⟨k1, k2⟩ := v5 (fun e => h (hvcur.trans (e.trans hcur)))
    refine ⟨?_, fun i r hs hi hr => ?_⟩
    · exact Eq.trans (ht .window (by decide)) (k1.trans
        (derivedWindow_congr hvcur (congrArg _ hsup) (congrArg _ hline) hR hA).symm)
    · rw [htr]
      exact k2 i r (by rw [hradio]; exact hs) (hvcur ▸ hi) (hline ▸ hr)
  · rw [hodo]
    obtain ⟨h3, -⟩ := w6 h
    have : v.odo.causes.getLsbD 3 = true := v2.getLsbD h3
    simp [this]
  · exact hg.getLsbD ((takeCompares_grows none w).getLsbD (w6 h).2)

/-! ### The detection and its report (R40, R41, R42) -/

theorem offerReport_spec (r : MarkReport) (s : State) :
    ∃ cs, (offerReport r s).odo =
        { s.odo with report := some (s.odo.report.getD r), causes := s.odo.causes ||| cs }
      ∧ (s.odo.report = none → cs = odoCauseBit .markReport) := by
  rw [offerReport_odo]
  cases h : s.odo.report with
  | none => exact ⟨_, rfl, fun _ => rfl⟩
  | some x => exact ⟨0#16, by rw [Option.isSome_some, if_pos rfl, Option.getD_some, BitVec.or_zero, ← h],
      fun e => absurd e (by simp)⟩

/-- What every detection outside UNSET leaves of the odometry (R40, R41, R42). -/
def DetectionKeeps (s t : State) : Prop :=
  t.odo.capture = s.odo.pUm
    ∧ t.odo.travel = s.odo.travel
    ∧ (t.odo.cur = s.odo.cur → t.odo.accPin = s.odo.accPin ∧ t.odo.accWhl = s.odo.accWhl)
    ∧ (t.odo.cur ≠ s.odo.cur → NewlyTold s t)
    ∧ t.odo.sample = s.odo.sample ∧ t.odo.standstill = s.odo.standstill
    ∧ (∀ r, s.odo.report = some r → t.odo.report = some r)

theorem offerReport_keeps (r : MarkReport) {s u : State} {a b c : Nat}
    (hm : measured u.odo = ((a, b, c, s.odo.pUm), (measured s.odo).2))
    (hacc : u.odo.cur = s.odo.cur → u.odo.accPin = s.odo.accPin ∧ u.odo.accWhl = s.odo.accWhl)
    (hnew : u.odo.cur ≠ s.odo.cur → NewlyTold s u) : DetectionKeeps s (offerReport r u) := by
  obtain ⟨cs, ho, -⟩ := offerReport_spec r u
  have fr := offerReport_frame r u
  have hcur : (offerReport r u).odo.cur = u.odo.cur := by rw [ho]
  simp only [measured, Prod.mk.injEq] at hm
  obtain ⟨⟨-, -, -, m4⟩, m5, m6, m7, m8⟩ := hm
  have hsup : (offerReport r u).sup = u.sup := fr .sup (by decide)
  have hline : (offerReport r u).line = u.line := fr .line (by decide)
  have hpar : (offerReport r u).params = u.params := fr .params (by decide)
  have hradio : (offerReport r u).radio = u.radio := fr .radio (by decide)
  refine ⟨by rw [ho]; exact m4, by rw [ho]; exact m5, fun h => ?_, fun h => ?_, by rw [ho]; exact m6,
    by rw [ho]; exact m7, fun x hx => ?_⟩
  · rw [ho] at h ⊢; exact hacc h
  · obtain ⟨k1, k2⟩ := hnew (hcur ▸ h)
    refine ⟨?_, fun i x hs hi hx => ?_⟩
    · exact Eq.trans (fr .window (by decide)) (k1.trans (derivedWindow_congr hcur (congrArg _ hsup) (congrArg _ hline)
        (congrArg _ hpar) (congrArg _ hpar)).symm)
    · rw [hradio]; exact k2 i x hs (hcur ▸ hi) (hline ▸ hx)
  · rw [ho, m8, hx]; rfl

theorem detectMark_unset {s : State} (h : s.odo.state = .unset) : detectMark s = s := by
  unfold detectMark; rw [if_pos h]

/-- The captured position, recorded (R39, step 1). -/
def captured (s : State) : State := s.setOdo { s.odo with capture := s.odo.pUm }

theorem detectMark_unmatched {s : State} (h : s.odo.state ≠ .unset) (hm : matchedMark s = none) :
    detectMark s = offerReport ⟨none, s.odo.pUm / 1000, 0, false, s.restr.clock⟩
      (addOdoCause .markUnmatched (captured s)) := by
  unfold detectMark
  rw [if_neg h]
  dsimp only
  rw [show matchedMark (s.setOdo { s.odo with capture := s.odo.pUm }) = none from hm]
  rfl

theorem detectMark_matched {s : State} (h : s.odo.state ≠ .unset) {c : Candidate} (hm : matchedMark s = some c) :
    detectMark s = offerReport
      ⟨some c.number, s.odo.pUm / 1000, ((c.mark * 1000 : Nat) : Int) - s.odo.pUm, known s.odo.state, s.restr.clock⟩
      (if known s.odo.state = true then applyMark c.mark (captured s) else captured s) := by
  unfold detectMark
  rw [if_neg h]
  dsimp only
  rw [show matchedMark (s.setOdo { s.odo with capture := s.odo.pUm }) = some c from hm]
  rfl

theorem unmatched_spec {s : State} (h : s.odo.state ≠ .unset) (hm : matchedMark s = none) :
    let t := detectMark s
    DetectionKeeps s t ∧ OnlyChanges [.odo, .link] s t ∧ t.odo.pUm = s.odo.pUm ∧ t.odo.uUm = s.odo.uUm
    ∧ t.odo.state = s.odo.state ∧ t.odo.cal = s.odo.cal ∧ t.odo.causes.getLsbD 2 = true
    ∧ t.link.flags.getLsbD 6 = true
    ∧ (s.odo.report = none → t.odo.causes.getLsbD 1 = true
        ∧ t.odo.report = some ⟨none, s.odo.pUm / 1000, 0, false, s.restr.clock⟩) := by
  intro t
  let u := addOdoCause .markUnmatched (captured s)
  let r : MarkReport := ⟨none, s.odo.pUm / 1000, 0, false, s.restr.clock⟩
  have e : t = offerReport r u := detectMark_unmatched h hm
  obtain ⟨cs, ho, hcs⟩ := offerReport_spec r u
  have fru : OnlyChanges [.odo, .link] s u := (setOdo_frame _ s).mono.trans (addOdoCause_frame _ _)
  have hk : DetectionKeeps s (offerReport r u) :=
    offerReport_keeps r rfl (fun _ => ⟨rfl, rfl⟩) (fun h => absurd rfl h)
  rw [e]
  refine ⟨hk, fru.trans (offerReport_frame r u), ?_⟩
  rw [ho]
  refine ⟨rfl, rfl, rfl, rfl, ?_, ?_, fun hr => ?_⟩
  · simp [u, odoCauseBit, odoCauseIndex]
  · exact (offerReport_grows r u).getLsbD (setFlag_getLsbD .odometry _)
  · rw [hcs hr]
    refine ⟨by simp [odoCauseBit, odoCauseIndex], ?_⟩
    rw [show u.odo.report = none from hr]
    rfl

theorem unapplied_spec {s : State} (h : s.odo.state = .fault) {c : Candidate} (hm : matchedMark s = some c) :
    let t := detectMark s
    DetectionKeeps s t ∧ OnlyChanges [.odo, .link] s t ∧ t.odo.pUm = s.odo.pUm ∧ t.odo.uUm = s.odo.uUm
    ∧ t.odo.state = s.odo.state ∧ t.odo.cal = s.odo.cal
    ∧ (s.odo.report = none → t.odo.report =
        some ⟨some c.number, s.odo.pUm / 1000, (c.mark * 1000 : Nat) - (s.odo.pUm : Int), false, s.restr.clock⟩) := by
  intro t
  have hk : known s.odo.state = false := by rw [h]; rfl
  let r : MarkReport := ⟨some c.number, s.odo.pUm / 1000, ((c.mark * 1000 : Nat) : Int) - s.odo.pUm, false, s.restr.clock⟩
  have e : t = offerReport r (captured s) := by
    refine (detectMark_matched (by rw [h]; decide) hm).trans ?_
    rw [hk]; rfl
  obtain ⟨cs, ho, -⟩ := offerReport_spec r (captured s)
  rw [e]
  refine ⟨offerReport_keeps r rfl (fun _ => ⟨rfl, rfl⟩) (fun h => absurd rfl h),
    (setOdo_frame _ s).mono.trans (offerReport_frame r _), ?_⟩
  rw [ho]
  refine ⟨rfl, rfl, rfl, rfl, fun hr => ?_⟩
  rw [show (captured s).odo.report = none from hr]
  rfl

theorem applied_spec {s : State} (hk : known s.odo.state = true) {c : Candidate} (hm : matchedMark s = some c) :
    let t := detectMark s
    DetectionKeeps s t
    ∧ t.odo.pUm = c.mark * 1000 ∧ t.odo.uUm = s.params.markTol * 1000 ∧ t.odo.carry = 0
    ∧ (s.odo.state = .degraded → t.odo.causes.getLsbD 3 = true ∧ t.link.flags.getLsbD 6 = true)
    ∧ (∃ b, t.odo.cal = some ⟨c.mark, 0, b⟩ ∧ (b = true ↔ t.odo.source = .wheel))
    ∧ ((t.odo.state = .valid ∧ t.brakes = s.brakes)
        ∨ (t.odo.state = .fault ∧ ((s.odo.nextUpper = none ∧ s.odo.upper.any (· ≤ c.mark))
            ∨ (s.odo.nextLower = none ∧ s.odo.lower.any (c.mark < ·)))))
    ∧ (s.odo.report = none → t.odo.report =
        some ⟨some c.number, s.odo.pUm / 1000, (c.mark * 1000 : Nat) - (s.odo.pUm : Int), true, s.restr.clock⟩) := by
  intro t
  have hs : s.odo.state ≠ .unset := by rintro e; rw [e] at hk; exact Bool.noConfusion hk
  let u := applyMark c.mark (captured s)
  let r : MarkReport := ⟨some c.number, s.odo.pUm / 1000, ((c.mark * 1000 : Nat) : Int) - s.odo.pUm, true, s.restr.clock⟩
  have e : t = offerReport r u := by
    refine (detectMark_matched hs hm).trans ?_
    rw [hk]; rfl
  obtain ⟨u1, u2, u3, u4, u5, u6⟩ := applyMark_spec (s := captured s) c.mark hk
  have hkeeps : DetectionKeeps s (offerReport r u) := offerReport_keeps r u1 u3 u4
  obtain ⟨cs, ho, -⟩ := offerReport_spec r u
  have hb : (offerReport r u).brakes = u.brakes := offerReport_frame r u .brakes (by decide)
  have hu1 := u1
  simp only [measured, Prod.mk.injEq] at hu1
  obtain ⟨⟨m1, m2, m3, -⟩, -, -, -, m8⟩ := hu1
  rw [e]
  refine ⟨hkeeps, ?_⟩
  rw [ho, hb]
  refine ⟨m1, m2, m3, fun hd => ?_, ⟨_, u5, beq_iff_eq⟩, u2, fun hr => ?_⟩
  · obtain ⟨h3, h6⟩ := u6 hd
    exact ⟨by simp [h3, u], (offerReport_grows r u).getLsbD h6⟩
  · rw [show u.odo.report = none from m8.trans hr]
    rfl

theorem detectMark_outcome {s : State} (h : s.odo.state ≠ .unset) :
    DetectionKeeps s (detectMark s)
      ∧ ((detectMark s).odo.state = s.odo.state ∨ (detectMark s).odo.state = .valid → (detectMark s).brakes = s.brakes) := by
  cases hm : matchedMark s with
  | none =>
    obtain ⟨hk, fr, -⟩ := unmatched_spec h hm
    exact ⟨hk, fun _ => fr .brakes (by decide)⟩
  | some c =>
    by_cases hknown : known s.odo.state = true
    · obtain ⟨hk, -, -, -, -, -, hst, -⟩ := applied_spec hknown hm
      refine ⟨hk, fun hs => ?_⟩
      rcases hst with ⟨-, hb⟩ | ⟨hf, -⟩
      · exact hb
      · rw [hf] at hs
        rcases hs with hs | hs
        · rw [← hs] at hknown; exact absurd hknown (by decide)
        · exact absurd hs (by decide)
    · have hf : s.odo.state = .fault := ((not_known_iff _).1 (by simpa using hknown)).resolve_left h
      obtain ⟨hk, fr, -⟩ := unapplied_spec hf hm
      exact ⟨hk, fun _ => fr .brakes (by decide)⟩

end Sys2Proof.Machine

namespace Sys2Proof.Proofs

set_option Elab.async false

open Machine

/-- Settles O26: the match by `nearest_spec`, the detection by its three outcomes. -/
theorem markDetections : Obligations.MarkDetections := by
  unfold Obligations.MarkDetections
  refine fun s => ⟨fun c => mem_candidates, fun c => matchedMark_some, matchedMark_none, detectMark s, rfl,
    (detectMark_frame s).mono, detectMark_unset, ?_, fun h => ?_⟩
  · by_cases h : s.odo.state = .unset
    · rw [detectMark_unset h]; exact fun _ => rfl
    · exact (detectMark_outcome h).2
  · obtain ⟨h1, h2, h3, h4, h5, h6, h7⟩ := (detectMark_outcome h).1
    exact ⟨h1, h2, h3, h4, h5, h6, h7, fun hm => (unmatched_spec h hm).2, fun c hm hf => (unapplied_spec hf hm).2,
      fun c hm hk => by
        obtain ⟨-, k1, k2, k3, k4, k5, k6, k7⟩ := applied_spec ((known_iff _).2 hk) hm
        exact ⟨k1, k2, k3, k4, k5, k6.imp_left And.left, k7⟩⟩

end Sys2Proof.Proofs
end

section
/-! PROOFS. Changes of mode and direction (O36): the blocks they tell, the re-test of the side releases included. -/

namespace Sys2Proof.Machine

set_option Elab.async false

/-! ### The first check of a release that fails (R136) -/

section Check

variable (side : Side) (s : State)

/-- A platform of a section in view contains the whole safe extent of the last sample (R136, check 4). -/
def Stands (q : Platform) : Prop :=
  (∃ e r, some e ∈ s.window ∧ s.line.records[e.index]? = some r ∧ r.platform = some q)
    ∧ (q.lo : Int) ≤ (s.odo.sample.p : Int) - s.params.L - s.odo.sample.u
    ∧ (s.odo.sample.p : Int) + s.odo.sample.u ≤ (q.hi : Int)

/-- An ACTIVE DOOR entry over the safe extent forbids the side (R136, check 6). -/
def Forbidden : Prop :=
  ∃ x, some x ∈ s.restr.table ∧ x.active = true ∧ x.kind = .door
    ∧ (x.lo : Int) ≤ (s.odo.sample.p : Int) + s.odo.sample.u
    ∧ (s.odo.sample.p : Int) - s.params.L - s.odo.sample.u ≤ (x.hi : Int) ∧ (x.limit = 3 ∨ x.limit = sideCode side)

variable {side s}

theorem stands_iff {q : Platform} : Stands s q ↔ ∃ n, (q, n) ∈ containingPlatforms s := by
  simp only [Stands, containingPlatforms, List.mem_filterMap, Option.bind_eq_some_iff, Option.ite_none_right_eq_some,
    Option.some.injEq, Prod.mk.injEq]
  constructor
  · rintro ⟨⟨e, r, he, hr, hq⟩, hlo, hhi⟩
    exact ⟨r.number, some e, he, r, ⟨e, rfl, hr⟩, q, hq, ⟨hlo, hhi⟩, rfl, rfl⟩
  · rintro ⟨n, _, he, r, ⟨e, rfl, hr⟩, _, hq, ⟨hlo, hhi⟩, rfl, -⟩
    exact ⟨⟨e, r, he, hr, hq⟩, hlo, hhi⟩

theorem noPlatform_iff : (containingPlatforms s).isEmpty = true ↔ ∀ q, ¬ Stands s q := by
  rw [List.isEmpty_iff, List.eq_nil_iff_forall_not_mem]
  simp only [stands_iff, not_exists, Prod.forall]

theorem sideIncludes_iff {a b : Side} : sideIncludes a b = true ↔ a = .both ∨ a = b := by
  simp [sideIncludes]

theorem wrongSide_iff :
    (qualifyingPlatform side s).isNone = true ↔ ∀ q, Stands s q → ¬ (q.side = .both ∨ q.side = side) := by
  unfold qualifyingPlatform
  rw [Option.isNone_iff_eq_none, Option.map_eq_none_iff, List.find?_eq_none]
  simp only [stands_iff, sideIncludes_iff, forall_exists_index, Prod.forall]

theorem doorForbids_iff (hs : side ≠ .both) (n : Nat) : doorForbids n side = true ↔ n = 3 ∨ n = sideCode side := by
  unfold doorForbids
  simp only [Option.any_eq_true, anySideOfCode_iff, sideIncludes_iff]
  constructor
  · rintro ⟨x, hx, rfl | rfl⟩
    · exact .inl hx.symm
    · exact .inr hx.symm
  · rintro (rfl | rfl)
    · exact ⟨.both, rfl, .inl rfl⟩
    · exact ⟨side, rfl, .inr rfl⟩

theorem doorRestricted_iff (hs : side ≠ .both) : doorRestricted side s = true ↔ Forbidden side s := by
  unfold doorRestricted Forbidden
  simp only [List.any_eq_true, Option.any_eq_true, Bool.and_eq_true, beq_iff_eq, doorForbids_iff hs, rangeOverlaps,
    decide_eq_true_eq]
  constructor
  · rintro ⟨_, ho, x, rfl, ⟨⟨ha, hk⟩, hlo, hhi⟩, hl⟩
    exact ⟨x, ho, ha, hk, hlo, hhi, hl⟩
  · rintro ⟨x, ho, ha, hk, hlo, hhi, hl⟩
    exact ⟨_, ho, x, rfl, ⟨⟨ha, hk⟩, hlo, hhi⟩, hl⟩

/-- Every check of R136 in order, by what the state shows. -/
theorem releaseCheck_spec (hs : side ≠ .both) (st : OdoState) :
    let known := st = .valid ∨ st = .degraded
    let line := s.sup.mode = .line
    let serves := fun (q : Platform) => q.side = .both ∨ q.side = side
    (s.sup.mode ≠ .depot → ¬ line → releaseCheck side st s = .mode)
    ∧ (s.sup.mode = .depot ∨ line →
      (s.odo.standstill = false → releaseCheck side st s = .notStill)
      ∧ (s.odo.standstill = true →
        (line → ¬ known → releaseCheck side st s = .odometry)
        ∧ (line → known → (∀ q, ¬ Stands s q) → releaseCheck side st s = .noPlatform)
        ∧ (line → known → (∃ q, Stands s q) → (∀ q, Stands s q → ¬ serves q) → releaseCheck side st s = .wrongSide)
        ∧ ((line → ∃ q, Stands s q ∧ serves q) → known → Forbidden side s → releaseCheck side st s = .doorRestricted)
        ∧ ((line → known ∧ ∃ q, Stands s q ∧ serves q) → ¬ (known ∧ Forbidden side s) →
            releaseCheck side st s = .none))) := by
  intro known line serves
  have hk : (st == .valid || st == .degraded) = true ↔ known := by simp [known]
  have hl : (s.sup.mode == .line) = true ↔ line := by simp [line]
  have hp : (∃ q, Stands s q) → ¬ (containingPlatforms s).isEmpty = true := fun ⟨q, hq⟩ h => noPlatform_iff.1 h q hq
  have hw : (∃ q, Stands s q ∧ serves q) → ¬ (qualifyingPlatform side s).isNone = true :=
    fun ⟨q, hq, hsv⟩ h => wrongSide_iff.1 h q hq hsv
  have hd := doorRestricted_iff (s := s) hs
  have hmode : (s.sup.mode == .depot || s.sup.mode == .line) = true ↔ s.sup.mode = .depot ∨ line := by simp [line]
  unfold releaseCheck
  refine ⟨fun h1 h2 => ?_, fun hm => ?_⟩
  · rw [if_pos (by simpa using ⟨h1, h2⟩)]
  have hm' : ¬ (!(s.sup.mode == .depot || s.sup.mode == .line)) = true := by rw [hmode.2 hm]; decide
  dsimp only
  rw [if_neg hm']
  refine ⟨fun h => by rw [if_pos (by simp [h])], fun h => ?_⟩
  rw [if_neg (by simp [h])]
  refine ⟨fun h1 h2 => ?_, fun h1 h2 h3 => ?_, fun h1 h2 h3 h4 => ?_, fun h1 h2 h3 => ?_, fun h1 h2 => ?_⟩
  · rw [if_pos (by rw [hl.2 h1, Bool.true_and, Bool.not_eq_true', ← Bool.not_eq_true]; exact mt hk.1 h2)]
  · rw [if_neg (by simp [hk.2 h2]), if_pos (by simp [hl.2 h1, noPlatform_iff.2 h3])]
  · rw [if_neg (by simp [hk.2 h2]), if_neg (by simpa using fun _ => hp h3),
      if_pos (by rw [hl.2 h1, wrongSide_iff.2 h4]; rfl)]
  · rw [if_neg (by simp [hk.2 h2]), if_neg, if_neg, if_pos (by rw [hk.2 h2, hd.2 h3]; rfl)]
    · rw [Bool.and_eq_true]; exact fun ⟨a, b⟩ => hw (h1 (hl.1 a)) b
    · rw [Bool.and_eq_true]
      exact fun ⟨a, b⟩ => hp ((h1 (hl.1 a)).imp fun _ h => h.1) b
  · rw [if_neg, if_neg, if_neg, if_neg]
    · rw [Bool.and_eq_true]; exact fun ⟨a, b⟩ => h2 ⟨hk.1 a, hd.1 b⟩
    · rw [Bool.and_eq_true]; exact fun ⟨a, b⟩ => hw (h1 (hl.1 a)).2 b
    · rw [Bool.and_eq_true]; exact fun ⟨a, b⟩ => hp ((h1 (hl.1 a)).2.imp fun _ h => h.1) b
    · rw [Bool.and_eq_true, Bool.not_eq_true', ← Bool.not_eq_true]; exact fun ⟨a, b⟩ => b (hk.2 (h1 (hl.1 a)).1)

end Check

/-- What the check reads stands through a change of the doors, the brakes and the flags. -/
theorem releaseCheck_of_frame {bs : List Block} {s t : State} (h : OnlyChanges bs s t)
    (hb : Block.params ∉ bs ∧ Block.odo ∉ bs ∧ Block.sup ∉ bs ∧ Block.window ∉ bs ∧ Block.line ∉ bs ∧ Block.restr ∉ bs
      := by decide) (side : Side) (st : OdoState) : releaseCheck side st t = releaseCheck side st s := by
  have h1 : t.params = s.params := h .params hb.1
  have h2 : t.odo = s.odo := h .odo hb.2.1
  have h3 : t.sup = s.sup := h .sup hb.2.2.1
  have h4 : t.window = s.window := h .window hb.2.2.2.1
  have h5 : t.line = s.line := h .line hb.2.2.2.2.1
  have h6 : t.restr = s.restr := h .restr hb.2.2.2.2.2
  unfold releaseCheck qualifyingPlatform containingPlatforms doorRestricted recordAt
  rw [h1, h2, h3, h4, h5, h6]

/-! ### A release withdrawn (R135, R138) -/

theorem leafClose_taken {e : LeafEnv} {p : Params} (h : e.tClose = p.tClose) (l : Leaf) :
    CloseTaken p l (leafClose e l) := by
  unfold CloseTaken leafClose enterClosing enterLocking enterLocked lockedAway
  have hlock : Config.tLock = 500 := rfl
  cases l.state <;> cases l.cls <;> cases l.lks <;> simp [h, hlock]

/-- Car closed derived anew leaves leaves and releases as they are; causes and flags grow (R140). -/
theorem closedAnew_keeps (s : State) :
    (closedAnew s).doors.leaves = s.doors.leaves ∧ (closedAnew s).doors.left = s.doors.left
      ∧ (closedAnew s).doors.right = s.doors.right
      ∧ (∃ f, (closedAnew s).doors.causes = s.doors.causes ||| f) ∧ FlagsGrow s (closedAnew s) := by
  obtain ⟨hsame, hmove⟩ := closedAnew_spec s
  by_cases h : carClosed s.doors.leaves = s.doors.closed
  · rw [hsame h]; exact ⟨rfl, rfl, rfl, ⟨0, by simp⟩, .refl _⟩
  · obtain ⟨hd, hl, -⟩ := hmove h
    rw [hd]; exact ⟨rfl, rfl, rfl, ⟨_, rfl⟩, .of_flagged hl⟩

/-- The SUPERVISOR entry stands through the DOORS entry's change, and with it an emergency it brings (R103). -/
theorem closedAnew_supervisor (s : State) :
    (closedAnew s).brakes.supervisor = s.brakes.supervisor
      ∧ (s.brakes.emergency = true → s.brakes.supervisor.emergency ≠ .none → (closedAnew s).brakes.emergency = true) := by
  unfold closedAnew
  split
  · exact ⟨rfl, fun h _ => h⟩
  · generalize hu : addDoorCause .closedChanged (s.setDoors { s.doors with closed := carClosed s.doors.leaves }) = u
    have hb : u.brakes = s.brakes := by rw [← hu]; rfl
    obtain ⟨-, hother, hem, -⟩ := writeDemand_spec .doors { u.brakes.doors with level := doorsLevel u } u
    refine ⟨(hother .supervisor (by decide)).trans (congrArg Brakes.supervisor hb), fun _ hs => ?_⟩
    refine hem.trans ((emergencyOf_iff _).2 ⟨.supervisor, ?_⟩)
    rw [getDemand_putDemand_ne _ _ _ _ (by decide), hb]
    exact hs

/-- What a withdrawal of a release leaves: the record, the leaves, the cause and the flag (R135, R138). -/
structure Withdrawn (side : Side) (w : Withdrawal) (s t : State) : Prop where
  release : getRelease t.doors side = ⟨false, false, none, w⟩
  cause : t.doors.causes.getLsbD 2 = true
  flag : t.link.flags.getLsbD (flagIndex .doorEvent) = true
  leaves : ∀ id, leafSide id = side → CloseTaken s.params (getLeaf s.doors.leaves id) (getLeaf t.doors.leaves id)

/-- One side of the car: its release and its leaves. -/
def SideStands (side : Side) (s t : State) : Prop :=
  getRelease t.doors side = getRelease s.doors side
    ∧ ∀ id, leafSide id = side → getLeaf t.doors.leaves id = getLeaf s.doors.leaves id

theorem getRelease_putRelease (side : Side) (r : SideRelease) (d : Doors) :
    getRelease (putRelease side r d) side = r := by
  unfold getRelease putRelease; split <;> rfl

theorem getRelease_putRelease_ne {side other : Side} (h : side ≠ other) (hs : side ≠ .both) (ho : other ≠ .both)
    (r : SideRelease) (d : Doors) : getRelease (putRelease side r d) other = getRelease d other := by
  cases side <;> cases other <;> first | rfl | contradiction

theorem getRelease_congr {d d' : Doors} (hl : d'.left = d.left) (hr : d'.right = d.right) (side : Side) :
    getRelease d' side = getRelease d side := by unfold getRelease; rw [hl, hr]

/-- The release of a side withdrawn and its leaves closed. -/
def withdraw (side : Side) (w : Withdrawal) (s : State) : State :=
  moveSide side leafClose (addDoorCause .releaseWithdrawn (s.setDoors (putRelease side (withdrawnRelease w) s.doors)))

theorem withdraw_withdrawn {side : Side} (w : Withdrawal) (s : State) : Withdrawn side w s (withdraw side w s) := by
  let u := addDoorCause .releaseWithdrawn (s.setDoors (putRelease side (withdrawnRelease w) s.doors))
  let v := u.setDoors { u.doors with leaves := mapSide side (leafClose (leafEnv u side)) u.doors.leaves }
  obtain ⟨h1, h2, h3, ⟨f, h4⟩, h5⟩ := closedAnew_keeps v
  have hleaves : u.doors.leaves = s.doors.leaves := by
    show (putRelease side (withdrawnRelease w) s.doors).leaves = _
    unfold putRelease; split <;> rfl
  refine ⟨?_, ?_, ?_, fun id hid => ?_⟩
  · exact (getRelease_congr (d := v.doors) h2 h3 side).trans (getRelease_putRelease side (withdrawnRelease w) s.doors)
  · show (closedAnew v).doors.causes.getLsbD 2 = true
    have hc : v.doors.causes = (putRelease side (withdrawnRelease w) s.doors).causes ||| doorCauseBit .releaseWithdrawn :=
      rfl
    rw [h4, hc]
    simp [doorCauseBit, doorCauseIndex]
  · exact h5.getLsbD (setFlag_getLsbD .doorEvent _)
  · show CloseTaken s.params _ (getLeaf (closedAnew v).doors.leaves id)
    rw [h1]
    show CloseTaken s.params _ (getLeaf (mapSide side _ u.doors.leaves) id)
    rw [getLeaf_mapSide, if_pos (.inr hid), hleaves]
    exact leafClose_taken rfl _

theorem withdraw_other {side other : Side} (h : side ≠ other) (hs : side ≠ .both) (ho : other ≠ .both)
    (w : Withdrawal) (s : State) : SideStands other s (withdraw side w s) := by
  let u := addDoorCause .releaseWithdrawn (s.setDoors (putRelease side (withdrawnRelease w) s.doors))
  let v := u.setDoors { u.doors with leaves := mapSide side (leafClose (leafEnv u side)) u.doors.leaves }
  obtain ⟨h1, h2, h3, -⟩ := closedAnew_keeps v
  have hleaves : u.doors.leaves = s.doors.leaves := by
    show (putRelease side (withdrawnRelease w) s.doors).leaves = _
    unfold putRelease; split <;> rfl
  refine ⟨?_, fun id hid => ?_⟩
  · exact (getRelease_congr (d := v.doors) h2 h3 other).trans (getRelease_putRelease_ne h hs ho _ _)
  · show getLeaf (closedAnew v).doors.leaves id = _
    rw [h1]
    show getLeaf (mapSide side _ u.doors.leaves) id = _
    rw [getLeaf_mapSide, if_neg (by rintro (e | e); exacts [hs e, h (e.symm.trans hid)]), hleaves]

theorem withdraw_grows (side : Side) (w : Withdrawal) (s : State) :
    FlagsGrow s (withdraw side w s) ∧ ∃ f, (withdraw side w s).doors.causes = s.doors.causes ||| f := by
  let u := addDoorCause .releaseWithdrawn (s.setDoors (putRelease side (withdrawnRelease w) s.doors))
  let v := u.setDoors { u.doors with leaves := mapSide side (leafClose (leafEnv u side)) u.doors.leaves }
  obtain ⟨-, -, -, ⟨f, h4⟩, h5⟩ := closedAnew_keeps v
  refine ⟨FlagsGrow.trans (t := v) (setFlag_grows .doorEvent _) h5, doorCauseBit .releaseWithdrawn ||| f, ?_⟩
  refine h4.trans ?_
  rw [← BitVec.or_assoc]
  show (putRelease side (withdrawnRelease w) s.doors).causes ||| _ ||| f = _
  unfold putRelease; split <;> rfl

theorem withdraw_supervisor (side : Side) (w : Withdrawal) (s : State) :
    (withdraw side w s).brakes.supervisor = s.brakes.supervisor
      ∧ (s.brakes.emergency = true → s.brakes.supervisor.emergency ≠ .none →
          (withdraw side w s).brakes.emergency = true) :=
  closedAnew_supervisor _

/-! ### The re-test of the releases (R138) -/

theorem retestRelease_unforced {side : Side} {s : State} (h : (getRelease s.doors side).inForce = false) :
    retestRelease side s = s := by
  unfold retestRelease; rw [if_neg (by simp [h])]

theorem retestRelease_passes {side : Side} {s : State} (h : releaseCheck side s.odo.sample.state s = .none) :
    retestRelease side s = s := by
  unfold retestRelease; rw [h]; split <;> rfl

theorem retestRelease_fails {side : Side} {s : State} {w : Withdrawal} (hf : (getRelease s.doors side).inForce = true)
    (h : releaseCheck side s.odo.sample.state s = w) (hw : w ≠ .none) : retestRelease side s = withdraw side w s := by
  unfold retestRelease
  rw [if_pos hf, h]
  cases w <;> first | rfl | exact absurd rfl hw

theorem retestRelease_cases (side : Side) (s : State) :
    retestRelease side s = s ∨ ∃ w, retestRelease side s = withdraw side w s := by
  cases hf : (getRelease s.doors side).inForce with
  | false => exact .inl (retestRelease_unforced hf)
  | true =>
    by_cases h : releaseCheck side s.odo.sample.state s = .none
    · exact .inl (retestRelease_passes h)
    · exact .inr ⟨_, retestRelease_fails hf rfl h⟩

theorem retestRelease_other {side other : Side} (h : side ≠ other) (hs : side ≠ .both) (ho : other ≠ .both) (s : State) :
    SideStands other s (retestRelease side s) := by
  rcases retestRelease_cases side s with e | ⟨w, e⟩ <;> rw [e]
  · exact ⟨rfl, fun _ _ => rfl⟩
  · exact withdraw_other h hs ho w s

theorem retestRelease_grows (side : Side) (s : State) :
    FlagsGrow s (retestRelease side s) ∧ ∃ f, (retestRelease side s).doors.causes = s.doors.causes ||| f := by
  rcases retestRelease_cases side s with e | ⟨w, e⟩ <;> rw [e]
  · exact ⟨.refl _, 0, by simp⟩
  · exact withdraw_grows side w s

theorem retestReleases_grows (s : State) : FlagsGrow s (retestReleases s) :=
  (retestRelease_grows .left s).1.trans (retestRelease_grows .right _).1

theorem retestRelease_supervisor (side : Side) (s : State) :
    (retestRelease side s).brakes.supervisor = s.brakes.supervisor
      ∧ (s.brakes.emergency = true → s.brakes.supervisor.emergency ≠ .none →
          (retestRelease side s).brakes.emergency = true) := by
  rcases retestRelease_cases side s with e | ⟨w, e⟩ <;> rw [e]
  · exact ⟨rfl, fun h _ => h⟩
  · exact withdraw_supervisor side w s

theorem retestReleases_supervisor (s : State) :
    (retestReleases s).brakes.supervisor = s.brakes.supervisor
      ∧ (s.brakes.emergency = true → s.brakes.supervisor.emergency ≠ .none →
          (retestReleases s).brakes.emergency = true) := by
  obtain ⟨h1, h2⟩ := retestRelease_supervisor .left s
  obtain ⟨h3, h4⟩ := retestRelease_supervisor .right (retestRelease .left s)
  exact ⟨h3.trans h1, fun he hs => h4 (h2 he hs) (by rw [h1]; exact hs)⟩

theorem Withdrawn.of_stands {side : Side} {w : Withdrawal} {s u t : State} (hside : SideStands side s u)
    (hp : u.params = s.params) (h : Withdrawn side w u t) : Withdrawn side w s t :=
  ⟨h.release, h.cause, h.flag, fun id hid => by rw [← hside.2 id hid, ← hp]; exact h.leaves id hid⟩

theorem Withdrawn.then_other {side : Side} {w : Withdrawal} {s u t : State} (h : Withdrawn side w s u)
    (hside : SideStands side u t) (hc : ∃ f, t.doors.causes = u.doors.causes ||| f) (hg : FlagsGrow u t) :
    Withdrawn side w s t := by
  obtain ⟨f, hf⟩ := hc
  exact ⟨hside.1.trans h.release, by rw [hf]; simp [h.cause], hg.getLsbD h.flag,
    fun id hid => by rw [hside.2 id hid]; exact h.leaves id hid⟩

/-- What the re-test of both releases does to one side, by the first check that fails (R138). -/
theorem retestReleases_side {side : Side} (hs : side ≠ .both) (s : State) :
    let c := releaseCheck side s.odo.sample.state s
    ((getRelease s.doors side).inForce = false → SideStands side s (retestReleases s))
    ∧ ((getRelease s.doors side).inForce = true →
        (c = .none → SideStands side s (retestReleases s))
        ∧ (∀ w, c = w → w ≠ .none → Withdrawn side w s (retestReleases s))) := by
  intro c
  have fr := retestRelease_frame .left s
  have hodo : (retestRelease .left s).odo = s.odo := fr .odo (by decide)
  cases side with
  | both => exact absurd rfl hs
  | left =>
    have hright := retestRelease_other (side := .right) (other := .left) (by decide) (by decide) (by decide)
      (retestRelease .left s)
    have hgrow := retestRelease_grows .right (retestRelease .left s)
    refine ⟨fun hf => ?_, fun hf => ⟨fun hc => ?_, fun w hc hw => ?_⟩⟩
    · rw [retestRelease_unforced hf] at hright
      unfold retestReleases; rw [retestRelease_unforced hf]; exact hright
    · rw [retestRelease_passes hc] at hright
      unfold retestReleases; rw [retestRelease_passes hc]; exact hright
    · have hw' := withdraw_withdrawn (side := .left) w s
      rw [← retestRelease_fails hf hc hw] at hw'
      exact hw'.then_other hright hgrow.2 hgrow.1
  | right =>
    have hleft := retestRelease_other (side := .left) (other := .right) (by decide) (by decide) (by decide) s
    have hc' : releaseCheck .right (retestRelease .left s).odo.sample.state (retestRelease .left s) = c := by
      rw [hodo]; exact releaseCheck_of_frame fr (by decide) .right _
    refine ⟨fun hf => ?_, fun hf => ⟨fun hc => ?_, fun w hc hw => ?_⟩⟩
    · unfold retestReleases
      rw [retestRelease_unforced (side := .right) (by rw [hleft.1]; exact hf)]; exact hleft
    · unfold retestReleases
      rw [retestRelease_passes (side := .right) (hc'.trans hc)]; exact hleft
    · unfold retestReleases
      rw [retestRelease_fails (side := .right) (by rw [hleft.1]; exact hf) (hc'.trans hc) hw]
      exact (withdraw_withdrawn w _).of_stands hleft (fr .params (by decide))

/-- The re-test as the statements give it (R138): `t` comes after the re-test and keeps what it read and did. -/
theorem retestReleases_retested {s u t : State} (hd : u.doors = s.doors)
    (ht : t.doors = (retestReleases u).doors)
    (hg : ∀ k, (retestReleases u).link.flags.getLsbD k = true → t.link.flags.getLsbD k = true) {bs : List Block}
    (fr : OnlyChanges bs u t)
    (hb : Block.params ∉ bs ∧ Block.odo ∉ bs ∧ Block.sup ∉ bs ∧ Block.window ∉ bs ∧ Block.line ∉ bs ∧ Block.restr ∉ bs
      := by decide) (side : Side) (hs : side ≠ .both) : ReleaseRetested side s t := by
  obtain ⟨hun, hfo⟩ := retestReleases_side hs u
  have hodo : t.odo = u.odo := fr .odo hb.2.1
  have hpar : t.params = u.params := fr .params hb.1
  rw [← releaseCheck_of_frame fr hb, ← hodo] at hfo
  have stays (h : SideStands side u (retestReleases u)) : getRelease t.doors side = getRelease s.doors side
      ∧ ∀ id, leafSide id = side → getLeaf t.doors.leaves id = getLeaf s.doors.leaves id := by
    rw [ht, ← hd]; exact h
  have withdrawn {w : Withdrawal} (h : Withdrawn side w u (retestReleases u)) :
      getRelease t.doors side = ⟨false, false, none, w⟩ ∧ t.doors.causes.getLsbD 2 = true
        ∧ t.link.flags.getLsbD (flagIndex .doorEvent) = true
        ∧ ∀ id, leafSide id = side → CloseTaken t.params (getLeaf s.doors.leaves id) (getLeaf t.doors.leaves id) := by
    rw [ht, ← hd, hpar]
    exact ⟨h.release, h.cause, hg _ h.flag, h.leaves⟩
  obtain ⟨k1, k2⟩ := releaseCheck_spec (side := side) (s := t) hs t.odo.sample.state
  refine ⟨fun hf => stays (hun (by rw [hd]; exact hf)), fun hf => ?_⟩
  obtain ⟨hpass, hfail⟩ := hfo (by rw [hd]; exact hf)
  refine ⟨fun h1 h2 => withdrawn (hfail _ (k1 h1 h2) (by decide)), fun hm => ?_⟩
  obtain ⟨k3, k4⟩ := k2 hm
  refine ⟨fun h => withdrawn (hfail _ (k3 h) (by decide)), fun h => ?_⟩
  obtain ⟨c1, c2, c3, c4, c5⟩ := k4 h
  exact ⟨fun h1 h2 => withdrawn (hfail _ (c1 h1 h2) (by decide)),
    fun h1 h2 h3 => withdrawn (hfail _ (c2 h1 h2 h3) (by decide)),
    fun h1 h2 h3 h4 => withdrawn (hfail _ (c3 h1 h2 h3 h4) (by decide)),
    fun h1 h2 h3 => withdrawn (hfail _ (c4 h1 h2 h3) (by decide)),
    fun h1 h2 => stays (hpass (c5 h1 h2))⟩

end Sys2Proof.Machine
end

section
/-! PROOFS. SET_MODE and SET_DIRECTION (O36). -/

namespace Sys2Proof.Machine

set_option Elab.async false

/-- A request whose owner sets event flags alone on the link. -/
theorem answered_of_grows (r : Req) {x : Result × State} {s : State} (h : FlagsGrow s x.2) :
    ∃ n, Answered r x.1 [] { s.link with flags := n } (answerResult r x) := by
  obtain ⟨f, hf⟩ := h
  exact ⟨s.link.flags ||| f, by rw [← hf]; exact answerResult_answered r x⟩

/-! ### A change of direction (R79) -/

/-- The supervisor's records at a change of direction. -/
def redirected (d : Dir) (s : State) : State := s.setSup { s.sup with dir := d, rollback := 0, retained := none }

/-- The Staging Buffer and the window after a change of direction, before the permit is judged. -/
def retold (d : Dir) (s : State) : State := retestHeld (deriveWindow (redirected d s))

theorem retold_frame (d : Dir) (s : State) :
    OnlyChanges [.line, .window, .staging, .tele, .link, .radio] (redirected d s) (retold d s) :=
  (deriveWindow_frame _).mono.trans (retestHeld_frame _).mono

/-- What follows the re-test at a change of direction reaches the permit and the flags alone. -/
theorem retold_then_frame (d : Dir) (s : State) : OnlyChanges [.brakes, .link] (retold d s) (selectDir d s) :=
  (judgePermit_frame _).andThen (setFlag_frame _ _)

theorem selectDir_sup (d : Dir) (s : State) :
    (selectDir d s).sup = { s.sup with dir := d, rollback := 0, retained := none } :=
  Eq.trans (retold_then_frame d s .sup (by decide)) (retold_frame d s .sup (by decide))

theorem selectDir_brakes (d : Dir) (s : State) :
    (selectDir d s).brakes =
      { s.brakes with tperm := permitHolds (selectDir d s).sup s.doors.closed s.brakes } := by
  have hb : (retold d s).brakes = s.brakes := retold_frame d s .brakes (by decide)
  have hd : (retold d s).doors = s.doors := retold_frame d s .doors (by decide)
  show ({ (retold d s).brakes with
    tperm := permitHolds (retold d s).sup (retold d s).doors.closed (retold d s).brakes } : Brakes) = _
  rw [hb, hd]
  rfl

theorem selectDir_grows (d : Dir) (s : State) : FlagsGrow s (selectDir d s) := by
  have h1 : FlagsGrow s (deriveWindow (redirected d s)) := deriveWindow_grows (redirected d s)
  have h2 : FlagsGrow (retold d s) (selectDir d s) := setFlag_grows .modeChanged (judgePermit (retold d s))
  exact h1.trans ((retestHeld_grows _).trans h2)

theorem selectDir_window (d : Dir) (s : State) : (selectDir d s).window = derivedWindow (selectDir d s) := by
  have fr := retold_then_frame d s
  exact Eq.trans (fr .window (by decide)) ((retestHeld_window (deriveWindow_derived _)).trans
    (derivedWindow_of_frame fr (congrArg _ (fr .line (by decide)))).symm)

/-- A held commit at a change of direction is tested in the new direction (R23, R79). -/
theorem selectDir_tested (d : Dir) (s : State) : HeldTested s (selectDir d s) := by
  have fr := retold_then_frame d s
  have frt : OnlyChanges [.line, .window, .staging, .tele, .link, .radio, .brakes] (deriveWindow (redirected d s))
      (selectDir d s) := (retestHeld_frame _).mono.trans fr.mono
  have hkept : LineKept (deriveWindow (redirected d s)) (selectDir d s) := (retestHeld_lineKept _).trans (.of_frame fr)
  obtain ⟨h1, h2⟩ := retestHeld_tested (s := deriveWindow (redirected d s)) (t := selectDir d s)
    (inLockedSpan_of_frame frt hkept) (fr .staging (by decide)) (fr .line (by decide))
  have hst : (deriveWindow (redirected d s)).staging = s.staging := deriveWindow_frame _ .staging (by decide)
  rw [hst] at h1 h2
  rw [deriveWindow_records] at h2
  exact ⟨h1, h2⟩

theorem dirOfCode_dirCode (d : Dir) : dirOfCode (dirCode d) = some d := by cases d <;> rfl

theorem dirOfCode_none {code : Nat} (h : 2 < code) : dirOfCode code = none := by
  unfold dirOfCode; split <;> first | rfl | omega

theorem setDirection_eq {code : Nat} {d : Dir} (h : dirCode d = code) (s : State) :
    setDirection code s =
      if s.odo.standstill = false then (.moving, s)
      else if s.sup.mode = .standby then (.mode, s)
      else if s.sup.dir = d then (.done, s)
      else (.done, selectDir d s) := by
  unfold setDirection
  rw [← h, dirOfCode_dirCode]
  simp [atStandstill, inStandby]

theorem setDirection_runs (code : Nat) (s : State) : ∃ t, exec (.setDirection code) s = .next t
    ∧ (2 < code → AnsweredOnly .setDirection .badValue [] s t)
    ∧ (∀ d : Dir, dirCode d = code →
        if s.odo.standstill = false then AnsweredOnly .setDirection .moving [] s t
        else if s.sup.mode = .standby then AnsweredOnly .setDirection .mode [] s t
        else if s.sup.dir = d then AnsweredOnly .setDirection .done [] s t
        else
          OnlyChanges [.sup, .line, .window, .staging, .tele, .link, .radio, .brakes] s t
          ∧ t.sup = { s.sup with dir := d, rollback := 0, retained := none }
          ∧ t.window = derivedWindow t
          ∧ (∀ u n, s.staging = .held u n →
              ((∃ r, some r ∈ u.records ∧ inLockedSpan t r.number = true) → t.staging = .held u n)
              ∧ ((∀ r, some r ∈ u.records → inLockedSpan t r.number = false) → t.staging = .idle))
          ∧ t.brakes = { s.brakes with tperm := permitHolds t.sup s.doors.closed s.brakes }
          ∧ t.link.flags.getLsbD (flagIndex .modeChanged) = true
          ∧ (∃ n, Answered .setDirection .done [] { s.link with flags := n } t)) := by
  refine ⟨_, rfl, fun h => ?_, fun d hd => ?_⟩
  · exact answerResult_only _ (by unfold setDirection; rw [dirOfCode_none h])
  have e := setDirection_eq hd s
  by_cases h1 : s.odo.standstill = false
  · rw [if_pos h1] at e ⊢; exact answerResult_only _ e
  rw [if_neg h1] at e ⊢
  by_cases h2 : s.sup.mode = .standby
  · rw [if_pos h2] at e ⊢; exact answerResult_only _ e
  rw [if_neg h2] at e ⊢
  by_cases h3 : s.sup.dir = d
  · rw [if_pos h3] at e ⊢; exact answerResult_only _ e
  rw [if_neg h3] at e ⊢
  rw [e]
  have hspan (n : Nat) : inLockedSpan (answerResult .setDirection (.done, selectDir d s)) n
      = inLockedSpan (selectDir d s) n :=
    inLockedSpan_of_frame (answerResult_frame .setDirection (.done, selectDir d s)) (.of_eq rfl) (by decide) n
  simp only [hspan]
  refine ⟨(selectDir_frame d s).answered _ _ _, selectDir_sup d s, ?_, fun u n hs => ?_, selectDir_brakes d s,
    setFlag_getLsbD .modeChanged (judgePermit (retold d s)), answered_of_grows _ (x := (.done, selectDir d s)) (selectDir_grows d s)⟩
  · exact (selectDir_window d s).trans
      (derivedWindow_of_frame (answerResult_frame .setDirection (.done, selectDir d s)) rfl).symm
  · obtain ⟨k1, k2⟩ := (selectDir_tested d s).1 u n hs
    exact ⟨k1, fun h => (k2 h).1⟩

/-! ### A change of mode (R78, R80) -/

/-- The supervisor's records at a change of mode (R78). -/
def modeEntered (m : Mode) (sup : Supervisor) : Supervisor :=
  { sup with
    mode := m, rollback := if m = .standby then 0 else sup.rollback,
    retained := if m = .standby then none else sup.retained }

theorem enterMode_eq (m : Mode) (s : State) : enterMode m s = writeSupervisor (s.setSup (modeEntered m s.sup)) := by
  unfold enterMode modeEntered; simp only [beq_iff_eq]

theorem enterMode_sup (m : Mode) (s : State) : (enterMode m s).sup = modeEntered m s.sup := by
  rw [enterMode_eq]; exact writeSupervisor_frame _ .sup (by decide)

/-- The SUPERVISOR entry a mode brings (R80). -/
theorem enterMode_supervisor (m : Mode) (s : State) :
    (enterMode m s).brakes.supervisor =
      supervisorDemand s.params (modeEntered m s.sup) s.brakes.supervisor
    ∧ (m = .standby → (enterMode m s).brakes.emergency = true) := by
  rw [enterMode_eq]
  refine ⟨(writeDemand_spec .supervisor _ _).1, ?_⟩
  rintro rfl
  exact (writeDemand_emergency .supervisor (by show (Emergency.held : Emergency) ≠ .none; decide) _).2.1

theorem neutralInStandby_cases (m : Mode) (s : State) :
    (neutralInStandby m s = s ∧ (m = .standby → s.sup.dir = .neutral))
      ∨ (m = .standby ∧ neutralInStandby m s = selectDir .neutral s) := by
  unfold neutralInStandby
  by_cases h : (m == .standby && s.sup.dir != .neutral) = true
  · rw [if_pos h]; simp at h; exact .inr ⟨h.1, rfl⟩
  · rw [if_neg h]; simp at h; exact .inl ⟨rfl, h⟩

/-- The supervisor's own part of a change of mode, the direction included (R78). -/
def entered (m : Mode) (s : State) : State := neutralInStandby m (enterMode m s)

theorem entered_frame (m : Mode) (s : State) :
    OnlyChanges [.sup, .line, .window, .staging, .tele, .link, .radio, .brakes] s (entered m s) := by
  unfold entered
  rcases neutralInStandby_cases m (enterMode m s) with ⟨e, -⟩ | ⟨-, e⟩ <;> rw [e]
  · exact (enterMode_frame m s).mono
  · exact (enterMode_frame m s).mono.trans (selectDir_frame _ _)

theorem entered_sup (m : Mode) (s : State) :
    (entered m s).sup = { s.sup with
      mode := m, dir := if m = .standby then .neutral else s.sup.dir,
      rollback := if m = .standby then 0 else s.sup.rollback,
      retained := if m = .standby then none else s.sup.retained } := by
  unfold entered
  rcases neutralInStandby_cases m (enterMode m s) with ⟨e, h⟩ | ⟨rfl, e⟩ <;> rw [e]
  · rw [enterMode_sup] at h ⊢
    unfold modeEntered at h ⊢
    by_cases hm : m = .standby
    · have hd : s.sup.dir = .neutral := h hm
      simp only [hm, if_true, ← hd]
    · simp only [hm, if_false]
  · rw [selectDir_sup, enterMode_sup]; rfl

theorem entered_grows (m : Mode) (s : State) : FlagsGrow s (entered m s) := by
  have h : FlagsGrow s (enterMode m s) := .of_frame (enterMode_frame m s)
  unfold entered
  rcases neutralInStandby_cases m (enterMode m s) with ⟨e, -⟩ | ⟨-, e⟩ <;> rw [e]
  · exact h
  · exact h.trans (selectDir_grows _ _)

theorem entered_supervisor (m : Mode) (s : State) :
    (entered m s).brakes.supervisor = supervisorDemand s.params (modeEntered m s.sup) s.brakes.supervisor
    ∧ (m = .standby → (entered m s).brakes.emergency = true) := by
  have h := enterMode_supervisor m s
  unfold entered
  rcases neutralInStandby_cases m (enterMode m s) with ⟨e, -⟩ | ⟨-, e⟩ <;> rw [e]
  · exact h
  · rw [selectDir_brakes]; exact h

/-- In STANDBY and DEPOT nothing is locked: a held commit is applied (R21, R23). -/
theorem retestHeld_yard {s : State} (h : s.sup.mode = .standby ∨ s.sup.mode = .depot) {u : StagedUpdate} {n : Nat}
    (hs : s.staging = .held u n) : (retestHeld s).staging = .idle := by
  obtain ⟨-, -, happly⟩ := retestHeld_spec s u n hs
  refine (happly fun r _ => ?_).1
  unfold inLockedSpan; rw [lockedInterval_yard h]; rfl

theorem retestHeld_idle {s : State} (h : s.staging = .idle) : (retestHeld s).staging = .idle := by
  unfold retestHeld; rw [h]; exact h

theorem mode_entered (m : Mode) (s : State) : (entered m s).sup.mode = m := by rw [entered_sup]

theorem entered_applied {m : Mode} (hm : m = .standby ∨ m = .depot) {s : State} {u : StagedUpdate} {n : Nat}
    (hs : s.staging = .held u n) : (retestHeld (entered m s)).staging = .idle := by
  have he : (enterMode m s).staging = s.staging := enterMode_frame m s .staging (by decide)
  rcases neutralInStandby_cases m (enterMode m s) with ⟨e, -⟩ | ⟨rfl, e⟩
  · have hst : (entered m s).staging = .held u n := by unfold entered; rw [e, he, hs]
    exact retestHeld_yard (by rw [mode_entered]; exact hm) hst
  · refine retestHeld_idle ?_
    unfold entered
    rw [e]
    refine (((selectDir_tested .neutral (enterMode .standby s)).1 u n (he.trans hs)).2 fun r _ => ?_).1
    unfold inLockedSpan
    rw [lockedInterval_yard (.inl (by rw [selectDir_sup, enterMode_sup]; rfl))]
    rfl

/-- What follows the re-test of the releases reaches the permit and the flags alone. -/
theorem changeMode_then_frame (m : Mode) (s : State) :
    OnlyChanges [.brakes, .link] (retestReleases (retestHeld (entered m s))) (changeMode m s) :=
  (judgePermit_frame _).andThen (setFlag_frame _ _)

theorem changeMode_sup (m : Mode) (s : State) : (changeMode m s).sup = (entered m s).sup :=
  Eq.trans (changeMode_then_frame m s .sup (by decide))
    (Eq.trans (retestReleases_frame _ .sup (by decide)) (retestHeld_frame _ .sup (by decide)))

theorem changeMode_then_grows (m : Mode) (s : State) :
    FlagsGrow (retestReleases (retestHeld (entered m s))) (changeMode m s) :=
  setFlag_grows .modeChanged (judgePermit (retestReleases (retestHeld (entered m s))))

theorem changeMode_grows (m : Mode) (s : State) : FlagsGrow s (changeMode m s) :=
  (entered_grows m s).trans ((retestHeld_grows _).trans ((retestReleases_grows _).trans (changeMode_then_grows m s)))

theorem changeMode_supervisor (m : Mode) (s : State) :
    (changeMode m s).brakes.supervisor = supervisorDemand s.params (modeEntered m s.sup) s.brakes.supervisor
    ∧ (m = .standby → (changeMode m s).brakes.emergency = true ∧ (changeMode m s).brakes.tperm = false) := by
  let h := retestHeld (entered m s)
  have hb : h.brakes = (entered m s).brakes := retestHeld_frame _ .brakes (by decide)
  obtain ⟨e1, e2⟩ := entered_supervisor m s
  obtain ⟨r1, r2⟩ := retestReleases_supervisor h
  rw [hb] at r1 r2
  refine ⟨r1.trans e1, fun hm => ⟨r2 (e2 hm) ?_, ?_⟩⟩
  · rw [e1]; subst hm; exact (by decide : Emergency.held ≠ .none)
  · show permitHolds (changeMode m s).sup _ _ = false
    rw [changeMode_sup, entered_sup]
    subst hm
    rfl

theorem changeMode_retested (m : Mode) (s : State) (side : Side) (hs : side ≠ .both) :
    ReleaseRetested side s (answerResult .setMode (.done, changeMode m s)) := by
  let u := retestHeld (entered m s)
  have hd : u.doors = s.doors := Eq.trans (retestHeld_frame _ .doors (by decide)) (entered_frame m s .doors (by decide))
  have ht : (changeMode m s).doors = (retestReleases u).doors := changeMode_then_frame m s .doors (by decide)
  have fr : OnlyChanges [.doors, .brakes, .link] u (answerResult .setMode (.done, changeMode m s)) :=
    ((retestReleases_frame u).trans (changeMode_then_frame m s).mono).trans
      (answerResult_frame .setMode (.done, changeMode m s)).mono
  exact retestReleases_retested (t := answerResult .setMode (.done, changeMode m s)) hd ht
    (fun _ => (changeMode_then_grows m s).getLsbD) fr
    (by decide) side hs

theorem modeOfCode_some {code : Nat} {m : Mode} (h : modeCode m = code) (hc : code ≤ 2) : modeOfCode code = some m := by
  subst h; cases m <;> first | rfl | exact absurd hc (by decide)

theorem modeOfCode_none {code : Nat} (h : 2 < code) : modeOfCode code = none := by
  unfold modeOfCode; split <;> first | rfl | omega

/-- The table of R77 for another mode that SET_MODE may carry. -/
theorem modeAllowed_iff {m : Mode} {s : State} (hm : m ≠ .tripped) :
    modeAllowed m s = false ↔ s.sup.mode = .tripped ∨ (s.sup.mode = .standby ∧ m = .line)
      ∨ (s.sup.mode = .depot ∧ m = .line
          ∧ ¬ (s.line.state = .sealed ∧ (s.odo.state = .valid ∨ s.odo.state = .degraded))) := by
  have hk : (isSealed s && known s.odo.state) = false
      ↔ ¬ (s.line.state = .sealed ∧ (s.odo.state = .valid ∨ s.odo.state = .degraded)) := by
    rw [← Bool.not_eq_true, Bool.and_eq_true, known_iff]; simp [isSealed]
  unfold modeAllowed
  cases hmode : s.sup.mode <;> cases m <;> first | exact absurd rfl hm | simp [hk]

theorem setMode_eq {code : Nat} {m : Mode} (h : modeCode m = code) (hc : code ≤ 2) (s : State) :
    setMode code s =
      if s.odo.standstill = false then (.moving, s)
      else if s.sup.mode = m then (.done, s)
      else if s.sup.mode = .tripped ∨ (s.sup.mode = .standby ∧ m = .line)
          ∨ (s.sup.mode = .depot ∧ m = .line
              ∧ ¬ (s.line.state = .sealed ∧ (s.odo.state = .valid ∨ s.odo.state = .degraded))) then (.refusedMode, s)
      else (.done, changeMode m s) := by
  have hm : m ≠ .tripped := by rintro rfl; subst h; exact absurd hc (by decide)
  have hall := modeAllowed_iff (s := s) hm
  unfold setMode
  rw [modeOfCode_some h hc]
  dsimp only
  by_cases h1 : s.odo.standstill = false
  · rw [if_pos h1, if_pos (by simp [atStandstill, h1])]
  rw [if_neg h1, if_neg (by simpa [atStandstill] using h1)]
  by_cases h2 : s.sup.mode = m
  · have hsame : modeAllowed m s = true := by
      unfold modeAllowed; rw [h2]; cases m <;> first | rfl | exact absurd rfl hm
    rw [if_pos h2, if_neg (by simp [hsame]), if_pos h2]
  rw [if_neg h2, if_neg h2]
  by_cases h3 : modeAllowed m s = false
  · rw [if_pos (hall.1 h3), if_pos (by simp [h3])]
  · rw [if_neg (mt hall.2 h3), if_neg (by simpa using h3)]

/-- No release stays in force in STANDBY (R138). -/
theorem ReleaseRetested.unforced {side : Side} {s t : State} (h : ReleaseRetested side s t)
    (hm : t.sup.mode = .standby) : (getRelease t.doors side).inForce = false := by
  obtain ⟨h1, h2⟩ := h
  cases hf : (getRelease s.doors side).inForce with
  | false => rw [(h1 hf).1]; exact hf
  | true => rw [((h2 hf).1 (by rw [hm]; decide) (by rw [hm]; decide)).1]

theorem setMode_runs (code : Nat) (s : State) : ∃ t, exec (.setMode code) s = .next t
    ∧ (2 < code → AnsweredOnly .setMode .badValue [] s t)
    ∧ (∀ m : Mode, modeCode m = code → code ≤ 2 →
        if s.odo.standstill = false then AnsweredOnly .setMode .moving [] s t
        else if s.sup.mode = m then AnsweredOnly .setMode .done [] s t
        else if s.sup.mode = .tripped ∨ (s.sup.mode = .standby ∧ m = .line)
            ∨ (s.sup.mode = .depot ∧ m = .line
                ∧ ¬ (s.line.state = .sealed ∧ (s.odo.state = .valid ∨ s.odo.state = .degraded))) then
          AnsweredOnly .setMode .refusedMode [] s t
        else
          OnlyChanges [.sup, .line, .window, .staging, .tele, .link, .radio, .brakes, .doors] s t
          ∧ t.sup = { s.sup with
              mode := m, dir := if m = .standby then .neutral else s.sup.dir,
              rollback := if m = .standby then 0 else s.sup.rollback,
              retained := if m = .standby then none else s.sup.retained }
          ∧ (m = .standby → t.brakes.supervisor = ⟨100, .held⟩ ∧ t.brakes.emergency = true ∧ t.brakes.tperm = false
              ∧ t.doors.left.inForce = false ∧ t.doors.right.inForce = false)
          ∧ (∀ side : Side, side ≠ .both → ReleaseRetested side s t)
          ∧ (m ≠ .standby → s.brakes.supervisor.emergency ≠ .latched →
              t.brakes.supervisor = ⟨if s.sup.level = .service then s.params.sFull else 0, .none⟩)
          ∧ (m ≠ .line → ∀ u n, s.staging = .held u n → t.staging = .idle)
          ∧ t.link.flags.getLsbD (flagIndex .modeChanged) = true
          ∧ (∃ n, Answered .setMode .done [] { s.link with flags := n } t)) := by
  refine ⟨_, rfl, fun h => ?_, fun m hm hc => ?_⟩
  · exact answerResult_only _ (by unfold setMode; rw [modeOfCode_none h])
  have e := setMode_eq hm hc s
  by_cases h1 : s.odo.standstill = false
  · rw [if_pos h1] at e ⊢; exact answerResult_only _ e
  rw [if_neg h1] at e ⊢
  by_cases h2 : s.sup.mode = m
  · rw [if_pos h2] at e ⊢; exact answerResult_only _ e
  rw [if_neg h2] at e ⊢
  split at e <;> rename_i h3
  · rw [if_pos h3]; exact answerResult_only _ e
  rw [if_neg h3, e]
  have htrip : m ≠ .tripped := by rintro rfl; subst hm; exact absurd hc (by decide)
  obtain ⟨hsv, hstandby⟩ := changeMode_supervisor m s
  have hsup := (changeMode_sup m s).trans (entered_sup m s)
  have hret := changeMode_retested m s
  refine ⟨OnlyChanges.answered (changeMode_frame m s) _ _ _, hsup, ?_, hret, fun hne hl => ?_, fun hne u n hs => ?_,
    setFlag_getLsbD .modeChanged (judgePermit _),
    answered_of_grows _ (x := (.done, changeMode m s)) (changeMode_grows m s)⟩
  · rintro rfl
    have hmode : (answerResult .setMode (.done, changeMode .standby s)).sup.mode = .standby := congrArg Supervisor.mode hsup
    exact ⟨hsv, (hstandby rfl).1, (hstandby rfl).2, (hret .left (by decide)).unforced hmode,
      (hret .right (by decide)).unforced hmode⟩
  · refine hsv.trans ?_
    have hw : withoutHeld s.brakes.supervisor.emergency = .none := by
      unfold withoutHeld; cases he : s.brakes.supervisor.emergency <;> simp_all
    cases m with
    | standby => exact absurd rfl hne
    | tripped => exact absurd rfl htrip
    | depot => show (⟨_, withoutHeld _⟩ : Demand) = _; rw [hw]; rfl
    | line => show (⟨_, withoutHeld _⟩ : Demand) = _; rw [hw]; rfl
  · have hyard : m = .standby ∨ m = .depot := by cases m <;> simp_all
    have fr := changeMode_then_frame m s
    exact Eq.trans (fr .staging (by decide)) (Eq.trans (retestReleases_frame _ .staging (by decide))
      (entered_applied hyard hs))

end Sys2Proof.Machine

namespace Sys2Proof.Proofs

set_option Elab.async false

open Machine

/-- Settles O36: the two requests one by one. -/
theorem modeAndDirection : Obligations.ModeAndDirection := by
  unfold Obligations.ModeAndDirection
  exact ⟨setMode_runs, setDirection_runs⟩

end Sys2Proof.Proofs
end

section
/-! PROOFS. The reset state (O60), and the reads of the odometry with PHASE_ERROR (O23). -/

namespace Sys2Proof.Proofs

set_option Elab.async false

open Machine

/-- The odometry of the reset state is UNSET over an empty line. -/
theorem reset_positionSound : PositionSound State.reset :=
  .of_unset rfl (by intro r hr; cases hr) rfl rfl rfl rfl (Nat.zero_le _)

/-- Settles O60: each block's relation evaluated on the reset state. -/
theorem resetIsSound : Obligations.ResetIsSound := by
  unfold Obligations.ResetIsSound
  refine ⟨?brakes, ?restrictions, ?distinct, ?doors, ?timed, ?settled, ?radio, ?uplink, ?sizes, reset_positionSound,
    paramsSound_default, ?weights, rfl, ?attention⟩
  all_goals decide

end Sys2Proof.Proofs

namespace Sys2Proof.Machine

set_option Elab.async false

theorem phaseError_runs (sensor : Sensor) (s : State) : ∃ t, exec (.phaseError sensor) s = .next t
    ∧ OnlyChanges [.odo, .link] s t ∧ t.link = flagged .odometry s.link
    ∧ t.odo = match sensor with
      | .pinion => { s.odo with
          pinPhase := ⟨!s.odo.pinPhase.a, !s.odo.pinPhase.b⟩, pinErr := min (s.odo.pinErr + 1) 65535,
          causes := s.odo.causes ||| 1#16 }
      | .wheel => { s.odo with
          whlPhase := ⟨!s.odo.whlPhase.a, !s.odo.whlPhase.b⟩, whlErr := min (s.odo.whlErr + 1) 65535,
          causes := s.odo.causes ||| 1#16 } :=
  ⟨addOdoCause .phaseError (s.setOdo (decodeError sensor s.odo)), rfl,
    (setOdo_frame _ s).mono.trans (addOdoCause_frame _ _), rfl, by cases sensor <;> rfl⟩

/-- A compare is sent as the number it holds, every bit set when it holds none (R200). -/
theorem compareBytes_eq (o : Option Nat) : compareBytes o = none32 (o.map (fun n => (n : Int))) := by
  cases o <;> rfl

theorem readOdometry_runs (s : State) : ∃ t, exec .readOdometry s = .next t ∧ OnlyChanges [.odo, .link] s t
    ∧ t.odo = { s.odo with causes := 0#16 } ∧ Answered .readOdometry .accepted (odometryBytes s) s.link t :=
  ⟨_, rfl, (setOdo_frame _ s).andThen (answer_frame _ _ _ _), rfl,
    answer_answered .readOdometry .accepted (odometryBytes s) (s.setOdo { s.odo with causes := 0#16 })⟩

theorem readMarkReport_runs (s : State) : ∃ t, exec .readMarkReport s = .next t ∧ OnlyChanges [.odo, .link] s t
    ∧ t.odo = { s.odo with report := none }
    ∧ (s.odo.report = none → Answered .readMarkReport .none (noRecord 17) s.link t)
    ∧ (∀ r, s.odo.report = some r → Answered .readMarkReport .accepted
        (flagged16 r.number ++ u32 r.captured ++ i32 r.correction ++ flag8 r.applied ++ flagged32 r.clock)
        s.link t) := by
  refine ⟨_, rfl, ?_⟩
  cases h : s.odo.report with
  | none =>
    have hsame : { s.odo with report := none } = s.odo := by rw [← h]
    exact ⟨(answer_frame _ _ _ _).mono, hsame.symm, fun _ => answer_answered _ _ _ s, fun r hr => by cases hr⟩
  | some r =>
    refine ⟨(setOdo_frame _ s).andThen (answer_frame _ _ _ _), rfl, fun hr => (by cases hr), fun x hx => ?_⟩
    cases hx
    exact answer_answered .readMarkReport .accepted _ (s.setOdo { s.odo with report := none })

end Sys2Proof.Machine

namespace Sys2Proof.Proofs

set_option Elab.async false

open Machine

/-- Settles O23: the phase error and the two reads one by one. -/
theorem odometryReads : Obligations.OdometryReads := by
  unfold Obligations.OdometryReads
  refine fun s => ⟨fun sensor => phaseError_runs sensor s, ?_, readMarkReport_runs s⟩
  obtain ⟨t, ht, fr, ho, ha⟩ := readOdometry_runs s
  unfold odometryBytes at ha
  simp only [compareBytes_eq] at ha
  exact ⟨t, ht, fr, ho, ha⟩

end Sys2Proof.Proofs
end

section
/-! PROOFS. SET_POSITION (O25). -/

namespace Sys2Proof.Machine

set_option Elab.async false

/-! ### The checks (R50) -/

theorem atStandstill_eq_false {s : State} : (!atStandstill s) = true ↔ s.odo.standstill = false := by
  simp [atStandstill]

theorem isSealed_eq_false {s : State} : (!isSealed s) = true ↔ s.line.state ≠ .sealed := by simp [isSealed]

theorem insideLine_eq_false {p : Nat} {s : State} :
    (!insideLine p s) = true ↔ p < lineStart s ∨ lineEnd s ≤ p := by
  rw [Bool.not_eq_true', ← Bool.not_eq_true, insideLine_iff]; omega

theorem notInYard_iff {s : State} : (!inYard s) = true ↔ s.sup.mode ≠ .standby ∧ s.sup.mode ≠ .depot := by
  rw [Bool.not_eq_true', inYard_eq_false]

/-- The section of a position: the first whose interval holds it (R50). -/
theorem findSection_eq {p c : Nat} {s : State} {r : SectionRec} (hr : s.line.records[c]? = some r) (hlo : r.start ≤ p)
    (hhi : p < r.start + r.length)
    (hfirst : ∀ k y, k < c → s.line.records[k]? = some y → ¬ (y.start ≤ p ∧ p < y.start + y.length)) :
    findSection p s.line.records = some c := by
  obtain ⟨hlt, rfl⟩ := List.getElem?_eq_some_iff.1 hr
  refine List.findIdx?_eq_some_iff_getElem.2 ⟨hlt, by simpa using ⟨hlo, hhi⟩, fun k hk => ?_⟩
  simpa using hfirst k _ hk (List.getElem?_eq_getElem (hk.trans hlt))

/-- The state after an accepted SET_POSITION, before the ODO_DEGRADED entry is judged (R50). -/
def positioned (p u c : Nat) (s : State) : State := radioCrossingCurrent (deriveWindow (s.setOdo (positionSet p u c s)))

/-- SET_POSITION once its checks have passed (R50). -/
def locate (p u : Nat) (s : State) : Result × State :=
  (findSection p s.line.records).elim (.badPosition, s) fun c => (.done, judgePart .odoDegraded (positioned p u c s))

/-- The checks of SET_POSITION in their order (R50). -/
theorem setPosition_eq (p u : Nat) (s : State) :
    setPosition p u s =
      if s.odo.standstill = false then (.moving, s)
      else if s.sup.mode ≠ .standby ∧ s.sup.mode ≠ .depot then (.mode, s)
      else if s.line.state ≠ .sealed then (.noLine, s)
      else if p < lineStart s ∨ lineEnd s ≤ p then (.badPosition, s)
      else if u < s.params.markTol ∨ s.params.uMax < u then (.badValue, s)
      else locate p u s := by
  unfold setPosition locate
  simp only [atStandstill_eq_false, notInYard_iff, isSealed_eq_false, insideLine_eq_false]
  cases findSection p s.line.records <;> rfl

/-! ### The position set (R35, R50) -/

section Positioned

variable {p u c : Nat} {s : State} {r : SectionRec}

theorem positionSet_eq (hr : s.line.records[c]? = some r) :
    positionSet p u c s = { s.odo with
      pUm := p * 1000, uUm := u * 1000, carry := 0, state := .valid, fault := none, cur := some c,
      lower := some r.start, upper := some (r.start + r.length),
      nextLower := if c = 0 then none else (s.line.records[c - 1]?).map (·.start),
      nextUpper := (s.line.records[c + 1]?).map (fun y => y.start + y.length),
      source := if r.kind = .rack then .pinion else .wheel, accPin := 0, accWhl := 0, cal := none } := by
  have hsrc : sourceOf (recordAt s c) = if r.kind = .rack then .pinion else .wheel := by
    simp only [sourceOf, recordAt, hr, Option.any_some, beq_iff_eq]
  unfold positionSet loadCompares
  rw [hsrc, show startAt s c = some r.start by simp [startAt, recordAt, hr],
    show upperAt s c = some (r.start + r.length) by simp [upperAt, recordAt, hr]]
  rfl

theorem positioned_odo : (positioned p u c s).odo = positionSet p u c s := by
  unfold positioned; rw [radioCrossingCurrent_odo, deriveWindow_odo]; rfl

theorem positioned_window : (positioned p u c s).window = derivedWindow (positioned p u c s) := by
  have fr := radioCrossingCurrent_frame (deriveWindow (s.setOdo (positionSet p u c s)))
  exact Eq.trans (fr .window (by decide)) ((deriveWindow_derived _).trans
    (derivedWindow_of_frame fr (congrArg _ (fr .line (by decide)))).symm)

theorem positioned_tuned (hr : s.line.records[c]? = some r) (hs : s.radio.sync ≠ .init) :
    (positioned p u c s).radio.tuned = some r.cell := by
  let w := deriveWindow (s.setOdo (positionSet p u c s))
  have hcur : currentRecord w = some r := by
    unfold currentRecord recordAt
    rw [deriveWindow_odo, deriveWindow_records]; exact hr
  have hradio : w.radio = s.radio := deriveWindow_frame _ .radio (by decide)
  unfold positioned
  rw [radioCrossingCurrent_eq hcur]
  exact (radioCrossing_retuned r.cell w).tuned (by rw [hradio]; exact hs)

theorem positioned_grows : FlagsGrow s (positioned p u c s) :=
  FlagsGrow.trans (deriveWindow_grows (s.setOdo (positionSet p u c s))) (radioCrossingCurrent_grows _)

end Positioned

/-- An accepted SET_POSITION, answered (R50). -/
theorem setPosition_accepted {p u c : Nat} {s : State} {r : SectionRec}
    (e : setPosition p u s = (.done, judgePart .odoDegraded (positioned p u c s)))
    (hr : s.line.records[c]? = some r) :
    let t := answerResult .setPosition (setPosition p u s)
    OnlyChanges [.odo, .window, .line, .radio, .restr, .link] s t
    ∧ t.odo = positionSet p u c s ∧ t.window = derivedWindow t
    ∧ (s.radio.sync ≠ .init → t.radio.tuned = some r.cell)
    ∧ (∃ n, Answered .setPosition .done [] { s.link with flags := n } t) := by
  intro t
  let x : Result × State := (.done, judgePart .odoDegraded (positioned p u c s))
  have fr : OnlyChanges [.odo, .window, .line, .radio, .restr, .link] s t :=
    OnlyChanges.answered (setPosition_frame p u s) _ _ _
  have frj : OnlyChanges [.restr, .link] (positioned p u c s) (answerResult .setPosition x) :=
    (judgePart_frame .odoDegraded (positioned p u c s)).trans (answerResult_frame .setPosition x).mono
  rw [show t = answerResult .setPosition x from congrArg (answerResult .setPosition) e] at fr ⊢
  refine ⟨fr, Eq.trans (frj .odo (by decide)) positioned_odo, ?_, fun hs => ?_, ?_⟩
  · exact Eq.trans (frj .window (by decide)) (positioned_window.trans
      (derivedWindow_of_frame frj (congrArg _ (frj .line (by decide)))).symm)
  · exact Eq.trans (congrArg Radio.tuned (frj .radio (by decide))) (positioned_tuned hr hs)
  · exact answered_of_grows .setPosition (x := x) (positioned_grows.trans (judgePart_grows _ _))

end Sys2Proof.Machine

namespace Sys2Proof.Proofs

set_option Elab.async false

open Machine

/-- Settles O25: the checks by `setPosition_eq`, the position set by `positionSet_eq`. -/
theorem setPosition : Obligations.SetPosition := by
  unfold Obligations.SetPosition
  refine fun p u s => ⟨_, rfl, ?_⟩
  have e := setPosition_eq p u s
  split_ifs at e ⊢
  · exact answerResult_only _ e
  · exact answerResult_only _ e
  · exact answerResult_only _ e
  · exact answerResult_only _ e
  · exact answerResult_only _ e
  · intro c r hr hlo hhi hfirst
    rw [locate, findSection_eq hr hlo hhi hfirst] at e
    rw [← positionSet_eq hr]
    exact setPosition_accepted e hr

end Sys2Proof.Proofs
end

section
/-! PROOFS. Which commands can change a car parameter (R197) or the odometry's state (R27), and what lifts a fault of
the odometry (O29). -/

namespace Sys2Proof.Machine

set_option Elab.async false

/-! ### The commands that leave the parameters and the odometry's state -/

/-- The car parameters and the odometry's state stand. -/
structure StateStands (s t : State) : Prop where
  params : t.params = s.params
  state : t.odo.state = s.odo.state

namespace StateStands

variable {bs : List Block} {s t u : State}

theorem of_frame (h : OnlyChanges bs s t) (hp : Block.params ∉ bs := by decide) (ho : Block.odo ∉ bs := by decide) :
    StateStands s t := ⟨h .params hp, congrArg Odometry.state (h .odo ho)⟩

theorem refl (s : State) : StateStands s s := ⟨rfl, rfl⟩

theorem trans (h : StateStands s t) (k : StateStands t u) : StateStands s u :=
  ⟨k.params.trans h.params, k.state.trans h.state⟩

theorem setOdo {o : Odometry} (h : o.state = s.odo.state) : StateStands s (s.setOdo o) := ⟨rfl, h⟩

theorem answered (h : StateStands s t) (r : Req) (res : Result) (data : List Byte) :
    StateStands s (answer r res data t) := h.trans (of_frame (answer_frame r res data t))

end StateStands

/-- The commands that may change a car parameter or the odometry's state. -/
def movesState : Instr → Bool
  | .powerOnReset | .setParameter _ _ | .lineLoadBegin | .setPosition _ _ | .releaseTrip | .quadratureCount _ _
  | .markDetection => true
  | _ => false

theorem appendSection_stands (w : SectionWire) (s : State) : StateStands s (appendSection w s).2 := by
  rcases appendSection_cases w s with e | ⟨r, -, -, -, e⟩ <;> rw [e]
  · exact .refl s
  · exact .of_frame (setLine_frame _ s)

theorem sealLine_stands (s : State) : StateStands s (sealLine s).2 := by
  rcases sealLine_cases s with e | ⟨-, fr⟩
  · rw [e]; exact .refl s
  · exact (StateStands.of_frame (setLine_frame _ s)).trans (.of_frame fr)

/-- Every other command leaves both (R197). -/
theorem exec_stands (c : Instr) (s : State) (hc : movesState c = false) :
    ∃ t, exec c s = .next t ∧ StateStands s t := by
  by_cases hl : reachesLine c = false
  · obtain ⟨t, ht, fr⟩ := exec_aside c s hl
    exact ⟨t, ht, .of_frame fr⟩
  have moves {c : Instr} {p : Prop} (hc : movesState c = false) (h : movesState c = true) : p :=
    absurd (h.symm.trans hc) (by decide)
  cases c with
  | powerOnReset => exact moves hc rfl
  | setParameter n v => exact moves hc rfl
  | lineLoadBegin => exact moves hc rfl
  | setPosition p u => exact moves hc rfl
  | releaseTrip => exact moves hc rfl
  | quadratureCount sensor x => exact moves hc rfl
  | markDetection => exact moves hc rfl
  | reset =>
    refine ⟨_, rfl, ?_⟩
    split
    · exact ⟨rfl, rfl⟩
    · exact (StateStands.refl s).answered _ _ _
  | appendSection w => exact ⟨_, rfl, (appendSection_stands w s).answered _ _ _⟩
  | lineLoadEnd => exact ⟨_, rfl, (sealLine_stands s).answered _ _ _⟩
  | commitStage id crc => exact ⟨_, rfl, (StateStands.of_frame (commitUpdate_frame _ id crc s)).answered _ _ _⟩
  | readOdometry =>
    exact ⟨_, rfl, (StateStands.setOdo (o := { s.odo with causes := 0#16 }) rfl).answered _ _ _⟩
  | readMarkReport =>
    refine ⟨_, rfl, ?_⟩
    split
    · exact (StateStands.refl s).answered _ _ _
    · exact (StateStands.setOdo (o := { s.odo with report := none }) rfl).answered _ _ _
  | setMode code => exact ⟨_, rfl, (StateStands.of_frame (setMode_frame code s)).answered _ _ _⟩
  | setDirection code => exact ⟨_, rfl, (StateStands.of_frame (setDirection_frame code s)).answered _ _ _⟩
  | phaseError sensor => exact ⟨_, rfl, rfl, by cases sensor <;> rfl⟩
  | positionSample =>
    have ho : (takeSample s).odo = (issueSample s).odo := sampleTakers_frame s .odo (by decide)
    exact ⟨_, rfl, takeSample_frame s .params (by decide), (congrArg Odometry.state ho).trans rfl⟩
  | holdTimerExpiry => exact ⟨_, rfl, .of_frame (holdExpired_frame s)⟩
  | deficitTimerExpiry => exact ⟨_, rfl, .of_frame (deficitExpired_frame s)⟩
  | sectionCommit h id crc => exact ⟨_, rfl, .of_frame (sectionCommit_frame h id crc s)⟩
  | _ => exact absurd rfl hl

/-! ### The commands that keep a fault (R38, R48) -/

theorem paramTold_state (n : Nat) (s : State) : (paramTold n s).odo.state = s.odo.state := by
  by_cases h3 : n = 3
  · subst h3; rfl
  by_cases h9 : n = 9
  · subst h9
    show (if _ then _ else _ : State).odo.state = _
    split <;> rfl
  · exact congrArg Odometry.state (paramTold_frame n s h3 h9 .odo (by decide))

theorem setParameter_state (n v : Nat) (s : State) : (setParameter n v s).2.odo.state = s.odo.state := by
  rcases setParameter_cases n v s with e | ⟨r, -, -, -, -, e⟩ <;> rw [e]
  exact paramTold_state n _

theorem enterOdoFault_state (f : OdoFault) (s : State) :
    (enterOdoFault f s).odo.state = s.odo.state ∨ (enterOdoFault f s).odo.state = .fault := by
  by_cases h : known s.odo.state = true
  · rw [enterOdoFault_odo f h]; exact .inr rfl
  · rw [enterOdoFault_unknown f (by simpa using h)]; exact .inl rfl

theorem takeCompares_state (held : Option Sense) (s : State) :
    (takeCompares held s).odo.state = s.odo.state ∨ (takeCompares held s).odo.state = .fault := by
  unfold takeCompares
  split
  · exact .inl rfl
  · rw [crossUp_eq, issueCrossing_odo]; exact .inl rfl
  · rw [crossDown_eq, issueCrossing_odo]; exact .inl rfl
  · exact enterOdoFault_state .offLine s

theorem crossCheck_state (s : State) :
    (crossCheck s).odo.state = s.odo.state ∨ (crossCheck s).odo.state = .fault := by
  unfold crossCheck
  dsimp only
  repeat' split
  · exact enterOdoFault_state .mismatch (s.setOdo _)
  · exact .inl rfl
  · exact .inl rfl

/-- Coming back inside the line ends no fault (R38). -/
theorem takeCount_keeps_fault (sensor : Sensor) (x : Sense) {s : State} (h : s.odo.state = .fault) :
    (takeCount sensor x s).odo.state = .fault := by
  have hfed : (fed sensor x s).odo.state = .fault :=
    (congrArg Prod.fst ((feedCheck_kept sensor x _).1.trans (feedCal_kept sensor x s.odo).1)).trans h
  have hk : known s.odo.state = false := by rw [h]; rfl
  rw [takeCount_eq, hk]
  show (if isActive sensor s.odo = true then activeCount sensor x (fed sensor x s) else fed sensor x s).odo.state = _
  split
  · rw [activeCount_eq (by rw [hfed]; decide)]
    refine (takeCompares_state _ _).elim (fun e => e.trans ?_) id
    rw [degradeAtBound_odo, if_neg (by rintro ⟨hv, -⟩; exact absurd (hfed.symm.trans hv) (by decide))]
    exact hfed
  · exact hfed

theorem detectMark_keeps_fault {s : State} (h : s.odo.state = .fault) : (detectMark s).odo.state = .fault := by
  cases hm : matchedMark s with
  | none =>
    obtain ⟨-, -, -, -, hst, -⟩ := unmatched_spec (by rw [h]; decide) hm
    exact hst.trans h
  | some c =>
    obtain ⟨-, -, -, -, hst, -⟩ := unapplied_spec h hm
    exact hst.trans h

/-! ### RELEASE_TRIP and the odometry (R49) -/

theorem releaseTrip_odo (s : State) : (releaseTrip s).odo = (releaseOdometry s).odo :=
  Eq.trans (combine_frame _ .odo (by decide)) (releaseSupervisor_frame _ .odo (by decide))

theorem releaseOdometry_stays {s : State} (h : ¬ (s.odo.state = .fault ∧ insideLine (pMm s.odo) s = true)) :
    releaseOdometry s = s := by unfold releaseOdometry; rw [if_neg h]

end Sys2Proof.Machine

namespace Sys2Proof.Proofs

set_option Elab.async false

open Machine

/-- Settles O29: `exec_stands` leaves seven commands, of which four may lift a fault. -/
theorem odometryFaultHeld : Obligations.OdometryFaultHeld := by
  unfold Obligations.OdometryFaultHeld
  intro c s t ht hf hn
  by_cases hm : movesState c = false
  · obtain ⟨u, hu, hst⟩ := exec_stands c s hm
    cases hu.symm.trans ht
    exact absurd (hst.state.trans hf) hn
  cases c with
  | powerOnReset => exact .inl rfl
  | lineLoadBegin => exact .inr (.inl rfl)
  | setPosition p u => exact .inr (.inr (.inl ⟨p, u, rfl⟩))
  | releaseTrip =>
    cases ht
    refine .inr (.inr (.inr ⟨rfl, ?_⟩))
    by_cases hs : atStandstill s = true
    · refine ⟨hs, ?_⟩
      by_contra hin
      rw [if_pos hs] at hn
      refine hn ?_
      show (releaseTrip s).odo.state = .fault
      rw [releaseTrip_odo, releaseOdometry_stays (fun h => hin h.2), hf]
    · rw [if_neg hs] at hn
      exact absurd hf hn
  | setParameter n v => cases ht; exact absurd ((setParameter_state n v s).trans hf) hn
  | quadratureCount sensor x => cases ht; exact absurd (takeCount_keeps_fault sensor x hf) hn
  | markDetection => cases ht; exact absurd (detectMark_keeps_fault hf) hn
  | _ => exact absurd rfl hm

end Sys2Proof.Proofs
end

section
/-! PROOFS. Wheel calibration (O27). -/

namespace Sys2Proof.Machine

set_option Elab.async false

/-! ### The measured weight (R45) -/

/-- The quotient rounded halves upward, as the model computes it on natural numbers. -/
theorem measured_eq (d : Int) {n : Int} (hn : n ≠ 0) :
    ⌊|(d : ℚ)| / |(n : ℚ)| + 1 / 2⌋ = (((2 * d.natAbs + n.natAbs) / (2 * n.natAbs) : Nat) : Int) := by
  have hpos : (n.natAbs : ℚ) ≠ 0 := by exact_mod_cast Int.natAbs_ne_zero.2 hn
  have hq : |(d : ℚ)| / |(n : ℚ)| + 1 / 2
      = ((2 * d.natAbs + n.natAbs : Nat) : ℚ) / ((2 * n.natAbs : Nat) : ℚ) := by
    have habs (x : Int) : |(x : ℚ)| = (x.natAbs : ℚ) := by rw [Nat.cast_natAbs, Int.cast_abs]
    rw [habs, habs]
    simp only [Nat.cast_add, Nat.cast_mul, Nat.cast_ofNat]
    field_simp
  rw [hq]
  exact Rat.floor_natCast_div_natCast _ _

theorem calibratedWeight_outlier {w : Nat} {d n : Int} (h : n = 0 ∨ (0 < d ∧ n < 0) ∨ (d < 0 ∧ 0 < n)) :
    calibratedWeight w d n = none := by unfold calibratedWeight; rw [if_pos h]

theorem calibratedWeight_band {w : Nat} {d n : Int} (h : (0 < d ∧ 0 < n) ∨ (d < 0 ∧ n < 0)) :
    let measured : Int := ⌊|(d : ℚ)| / |(n : ℚ)| + 1 / 2⌋
    (|measured - w| * 100 ≤ 5 * w → ∃ a, calibratedWeight w d n = some a ∧ (a : Int) = (3 * w + measured + 2) / 4)
    ∧ (5 * w < |measured - w| * 100 → calibratedWeight w d n = none) := by
  have hn : n ≠ 0 := by omega
  have hno : ¬ (n = 0 ∨ (0 < d ∧ n < 0) ∨ (d < 0 ∧ 0 < n)) := by omega
  rw [measured_eq d hn]
  generalize hm : (2 * d.natAbs + n.natAbs) / (2 * n.natAbs) = m
  intro measured
  have hband : ((m : Int) - w).natAbs * 100 ≤ 5 * w ↔ |measured - w| * 100 ≤ 5 * w := by
    simp only [measured, Int.abs_eq_natAbs]; omega
  unfold calibratedWeight
  simp only [if_neg hno, hm]
  refine ⟨fun h => ⟨_, if_pos (hband.2 h), by push_cast; rfl⟩, fun h => if_neg (mt hband.1 (not_le.2 h))⟩

/-! ### The evaluation of a reference (R44, R45) -/

/-- What a new source leaves of the wheel-throughout flag (R44). -/
theorem calAfterSource_eq (src : Source) (o : Odometry) :
    calAfterSource src o = o.cal.map fun y =>
      { y with throughout := y.throughout && !(src == .pinion && o.source == .wheel) } := by
  unfold calAfterSource
  cases o.cal with
  | none => split <;> rfl
  | some y =>
    obtain ⟨pos, net, throughout⟩ := y
    cases src <;> cases o.source <;> cases throughout <;> rfl

theorem calAfterSource_same (o : Odometry) : calAfterSource o.source o = o.cal := by
  unfold calAfterSource; rw [if_neg (by tauto)]

/-- The reference after the test of the compares, by the source that is active then (R44). -/
theorem takeCompares_cal (held : Option Sense) (s : State) :
    (takeCompares held s).odo.cal = calAfterSource (takeCompares held s).odo.source s.odo := by
  unfold takeCompares
  split
  · exact (calAfterSource_same s.odo).symm
  · rw [crossUp_eq, issueCrossing_odo]; rfl
  · rw [crossDown_eq, issueCrossing_odo]; rfl
  · have h := enterOdoFault_located .offLine s
    simp only [located, Prod.mk.injEq] at h
    obtain ⟨-, hsrc, hcal, -⟩ := h
    rw [hsrc, hcal, calAfterSource_same]

section Evaluate

variable {m : Nat} {s : State}

theorem evaluateCal_unreferenced (h : s.odo.cal = none) : evaluateCal m s = s := by unfold evaluateCal; rw [h]

variable {y : CalRef} (hc : s.odo.cal = some y)
include hc

theorem evaluateCal_unfit (h : ¬ (y.throughout = true ∧ 100000 ≤ ((m : Int) - y.pos).natAbs)) :
    evaluateCal m s = s := by
  unfold evaluateCal; rw [hc]; exact if_neg h

variable (hfit : y.throughout = true ∧ 100000 ≤ ((m : Int) - y.pos).natAbs)
include hfit

theorem evaluateCal_adopts {w : Nat} (hw : calibratedWeight s.params.wWhl (((m : Int) - y.pos) * 1000) y.net = some w) :
    evaluateCal m s = addOdoCause .wheelCalAdopted (s.setParams { s.params with wWhl := w }) := by
  unfold evaluateCal; rw [hc]; dsimp only; rw [if_pos hfit, hw]

theorem evaluateCal_outlier (hw : calibratedWeight s.params.wWhl (((m : Int) - y.pos) * 1000) y.net = none) :
    evaluateCal m s = addOdoCause .wheelCalOutlier s := by
  unfold evaluateCal; rw [hc]; dsimp only; rw [if_pos hfit, hw]

end Evaluate

/-! ### The reference at an applied mark (R40, R44, R45) -/

/-- The state in which an applied mark evaluates the reference: corrected, and the compares tested. -/
def corrected (m : Nat) (s : State) : State := takeCompares none (correctPosition m (captured s))

theorem corrected_params (m : Nat) (s : State) : (corrected m s).params = s.params :=
  Eq.trans (takeCompares_frame none _ .params (by decide)) (correctPosition_frame m (captured s) .params (by decide))

theorem corrected_cal (m : Nat) (s : State) :
    (corrected m s).odo.cal = s.odo.cal.map fun y =>
      { y with throughout := y.throughout && !((corrected m s).odo.source == .pinion && s.odo.source == .wheel) } := by
  have h := takeCompares_cal none (correctPosition m (captured s))
  have ho : (correctPosition m (captured s)).odo.cal = s.odo.cal
      ∧ (correctPosition m (captured s)).odo.source = s.odo.source := by
    rw [correctPosition_odo]; split <;> exact ⟨rfl, rfl⟩
  rw [calAfterSource_eq, ho.1, ho.2] at h
  exact h

/-- What the rest of the detection keeps of an evaluation. -/
theorem applied_evaluation {s : State} (hk : known s.odo.state = true) {c : Candidate} (hm : matchedMark s = some c) :
    let e := evaluateCal c.mark (corrected c.mark s)
    let t := detectMark s
    t.params = e.params ∧ t.odo.source = (corrected c.mark s).odo.source ∧ OdoCausesGrow e.odo t.odo
    ∧ FlagsGrow e t := by
  intro e t
  have hs : s.odo.state ≠ .unset := by rintro h; rw [h] at hk; exact Bool.noConfusion hk
  let r : MarkReport :=
    ⟨some c.number, s.odo.pUm / 1000, ((c.mark * 1000 : Nat) : Int) - s.odo.pUm, true, s.restr.clock⟩
  let u := handleCal c.mark (corrected c.mark s)
  have ht : t = offerReport r u := by
    refine (detectMark_matched hs hm).trans ?_
    rw [hk]; rfl
  obtain ⟨cs, ho, -⟩ := offerReport_spec r u
  obtain ⟨⟨cs', he⟩, -⟩ := evaluateCal_kept c.mark (corrected c.mark s)
  rw [ht]
  refine ⟨offerReport_frame r u .params (by decide), ?_, ⟨cs, by rw [ho]; rfl⟩,
    (show FlagsGrow e u from .of_link rfl).trans (offerReport_grows r u)⟩
  rw [ho]
  show (evaluateCal c.mark (corrected c.mark s)).odo.source = _
  rw [he]

theorem addOdoCause_told {c : OdoCause} {k : Nat} {s t : State} (hk : odoCauseIndex c = k) (hlt : k < 16)
    (ho : OdoCausesGrow (addOdoCause c s).odo t.odo) (hg : FlagsGrow (addOdoCause c s) t) :
    t.odo.causes.getLsbD k = true ∧ t.link.flags.getLsbD 6 = true := by
  refine ⟨ho.getLsbD ?_, hg.getLsbD (setFlag_getLsbD .odometry _)⟩
  simp [odoCauseBit, hk, hlt]

theorem applied_calibrates {s : State} (hk : known s.odo.state = true) {c : Candidate} (hm : matchedMark s = some c) :
    let t := detectMark s
    (s.odo.cal = none → t.params = s.params)
    ∧ (∀ y, s.odo.cal = some y →
        let wheelOnly := y.throughout = true ∧ (t.odo.source = .wheel ∨ s.odo.source = .pinion)
        let d : Int := (c.mark : Int) - y.pos
        (¬ (wheelOnly ∧ 100000 ≤ d.natAbs) → t.params = s.params)
        ∧ (wheelOnly → 100000 ≤ d.natAbs →
            (∀ w, calibratedWeight s.params.wWhl (d * 1000) y.net = some w →
              t.params = { s.params with wWhl := w } ∧ t.odo.causes.getLsbD 4 = true ∧ t.link.flags.getLsbD 6 = true)
            ∧ (calibratedWeight s.params.wWhl (d * 1000) y.net = none →
              t.params = s.params ∧ t.odo.causes.getLsbD 5 = true ∧ t.link.flags.getLsbD 6 = true))) := by
  intro t
  obtain ⟨hp, hsrc, hcauses, hflags⟩ := applied_evaluation hk hm
  have hcal := corrected_cal c.mark s
  have hpar := corrected_params c.mark s
  set v := corrected c.mark s
  refine ⟨fun h => ?_, fun y hy => ?_⟩
  · rw [h] at hcal
    rw [show t.params = _ from hp, evaluateCal_unreferenced hcal, hpar]
  intro wheelOnly d
  rw [hy] at hcal
  have hwheel : (y.throughout && !(v.odo.source == .pinion && s.odo.source == .wheel)) = true ↔ wheelOnly := by
    simp only [wheelOnly, show t.odo.source = _ from hsrc]
    cases y.throughout <;> cases v.odo.source <;> cases s.odo.source <;> decide
  refine ⟨fun h => ?_, fun hw hd => ⟨fun w h => ?_, fun h => ?_⟩⟩
  · rw [show t.params = _ from hp, evaluateCal_unfit hcal (by rw [hwheel]; exact h), hpar]
  · rw [← hpar] at h
    rw [evaluateCal_adopts hcal ⟨hwheel.2 hw, hd⟩ h] at hp hcauses hflags
    exact ⟨by rw [← hpar]; exact hp, addOdoCause_told rfl (by decide) hcauses hflags⟩
  · rw [← hpar] at h
    rw [evaluateCal_outlier hcal ⟨hwheel.2 hw, hd⟩ h] at hp hcauses hflags
    exact ⟨by rw [← hpar]; exact hp, addOdoCause_told rfl (by decide) hcauses hflags⟩

/-! ### The commands that change a car parameter (R197) -/

theorem detectMark_params (s : State) :
    (detectMark s).params = s.params ∨ ∃ w, (detectMark s).params = { s.params with wWhl := w } := by
  by_cases hk : known s.odo.state = true
  · cases hm : matchedMark s with
    | none =>
      have hs : s.odo.state ≠ .unset := by rintro h; rw [h] at hk; exact Bool.noConfusion hk
      exact .inl ((unmatched_spec hs hm).2.1 .params (by decide))
    | some c =>
      have h := (evaluateCal_kept c.mark (corrected c.mark s)).2
      rw [← (applied_evaluation hk hm).1, corrected_params] at h
      exact h
  · left
    rcases (not_known_iff _).1 (by simpa using hk) with hs | hf
    · rw [detectMark_unset hs]
    · cases hm : matchedMark s with
      | none => exact (unmatched_spec (by rw [hf]; decide) hm).2.1 .params (by decide)
      | some c => exact (unapplied_spec hf hm).2.1 .params (by decide)

end Sys2Proof.Machine

namespace Sys2Proof.Proofs

set_option Elab.async false

open Machine

theorem params_changed (c : Instr) (s t : State) (ht : exec c s = .next t) (hn : t.params ≠ s.params) :
    c = .powerOnReset ∨ (∃ n v, c = .setParameter n v)
      ∨ (c = .markDetection ∧ t.params = { s.params with wWhl := t.params.wWhl }) := by
  by_cases hm : movesState c = false
  · obtain ⟨u, hu, hst⟩ := exec_stands c s hm
    cases hu.symm.trans ht
    exact absurd hst.params hn
  cases c with
  | powerOnReset => exact .inl rfl
  | setParameter n v => exact .inr (.inl ⟨n, v, rfl⟩)
  | markDetection =>
    cases ht
    refine .inr (.inr ⟨rfl, ?_⟩)
    rcases detectMark_params s with h | ⟨w, h⟩
    · exact absurd h hn
    · rw [h]
  | lineLoadBegin =>
    cases ht
    refine absurd ?_ hn
    split
    · exact (beginLineLoad_spec s).2.2
    · rfl
  | setPosition p u => cases ht; exact absurd (setPosition_frame p u s .params (by decide)) hn
  | releaseTrip =>
    cases ht
    refine absurd ?_ hn
    split
    · exact releaseTrip_frame s .params (by decide)
    · rfl
  | quadratureCount sensor x => cases ht; exact absurd (takeCount_frame sensor x s .params (by decide)) hn
  | _ => exact absurd rfl hm

/-- Settles O27: the arithmetic, the evaluation at an applied mark, and the commands that change a parameter. -/
theorem wheelCalibration : Obligations.WheelCalibration := by
  unfold Obligations.WheelCalibration
  refine ⟨fun w d n _ => ⟨calibratedWeight_outlier, calibratedWeight_band⟩, fun s t c ht hm hs => ?_, params_changed⟩
  obtain rfl : detectMark s = t := Host.Outcome.next.inj ht
  exact applied_calibrates ((known_iff _).2 hs) hm

end Sys2Proof.Proofs
end

section
/-! PROOFS. A quadrature count (O20). -/

namespace Sys2Proof.Machine

set_option Elab.async false

/-! ### What the decoders and the calibration reference hold (R29, R44) -/

/-- The fields of the odometry a count writes before its movement, and those it never writes. -/
def decoded (o : Odometry) : (Nat × Nat × BitVec 32 × BitVec 32 × Phase × Phase)
    × (Sample × Bool × Option MarkReport × Nat × Nat) × Option (Nat × Int) :=
  ((o.pinErr, o.whlErr, o.pinRaw, o.whlRaw, o.pinPhase, o.whlPhase),
    (o.sample, o.standstill, o.report, o.capture, o.sampleTimer), o.cal.map (fun y => (y.pos, y.net)))

/-- Position, uncertainty, carry and sample travel, which a count's movement writes (R31, R32). -/
def metered (o : Odometry) : Nat × Nat × Nat × Int := (o.pUm, o.uUm, o.carry, o.travel)

/-- Both together: what no crossing, fault, degradation or cross-check writes. -/
def readings (o : Odometry) := (decoded o, metered o)

theorem calAfterSource_counts (src : Source) (o : Odometry) :
    (calAfterSource src o).map (fun y => (y.pos, y.net)) = o.cal.map (fun y => (y.pos, y.net)) := by
  rw [calAfterSource_eq, Option.map_map]; rfl

theorem enterOdoFault_readings (f : OdoFault) (s : State) : readings (enterOdoFault f s).odo = readings s.odo := by
  by_cases h : known s.odo.state = true
  · rw [enterOdoFault_odo f h]; rfl
  · rw [enterOdoFault_unknown f (by simpa using h)]

theorem degradeAtBound_readings (s : State) : readings (degradeAtBound s).odo = readings s.odo := by
  rw [degradeAtBound_odo]; split <;> rfl

theorem takeCompares_readings (held : Option Sense) (s : State) :
    readings (takeCompares held s).odo = readings s.odo := by
  have entered (i : Nat) (o : Odometry) (ho : o.cal = calAfterSource (enterSection i s s.odo).source s.odo)
      (hr : readings { o with cal := s.odo.cal } = readings s.odo) : readings o = readings s.odo := by
    rw [← hr, readings, readings, decoded, ho, calAfterSource_counts]; rfl
  unfold takeCompares
  split
  · rfl
  · rw [crossUp_eq, issueCrossing_odo]; exact entered _ _ rfl rfl
  · rw [crossDown_eq, issueCrossing_odo]; exact entered _ _ rfl rfl
  · exact enterOdoFault_readings .offLine s

theorem crossCheck_readings (s : State) : readings (crossCheck s).odo = readings s.odo := by
  unfold crossCheck
  dsimp only
  repeat' split
  · exact enterOdoFault_readings .mismatch _
  · rfl
  · rfl

/-! ### The active source and its growth (R31, R32) -/

theorem isActive_iff (sensor : Sensor) (o : Odometry) : isActive sensor o = true ↔
    o.source = (match sensor with | .pinion => Source.pinion | .wheel => Source.wheel) := by
  cases sensor <;> exact beq_iff_eq

theorem weight_mul_growth (p : Params) (sensor : Sensor) : weight p sensor * growth p sensor =
    (match sensor with | .pinion => p.wPin * p.ePin | .wheel => p.wWhl * p.eWhl) := by
  cases sensor <;> rfl

/-! ### The decoder's part of a count (R29, R44) -/

theorem stepPhase_eq (x : Sense) (ph : Phase) : stepPhase x ph = phaseTable x ph := by
  obtain ⟨a, b⟩ := ph
  cases x <;> cases a <;> cases b <;> rfl

theorem stepRaw_eq (x : Sense) (n : BitVec 32) : stepRaw x n = n + (if x = .up then 1#32 else -1#32) := by
  cases x
  · rfl
  · exact BitVec.sub_eq_add_neg n 1#32

theorem feedCheck_readings (sensor : Sensor) (x : Sense) (s : State) :
    readings (feedCheck sensor x s).odo = readings s.odo := by
  unfold feedCheck; split
  · cases sensor <;> rfl
  · rfl

theorem fed_decoded (sensor : Sensor) (x : Sense) (s : State) :
    decoded (fed sensor x s).odo = decoded (feedCal sensor x (decodeCount sensor x s.odo)) :=
  congrArg Prod.fst (feedCheck_readings sensor x _)

theorem fed_metered (sensor : Sensor) (x : Sense) (s : State) : metered (fed sensor x s).odo = metered s.odo :=
  Eq.trans (congrArg Prod.snd (feedCheck_readings sensor x _)) (by cases sensor <;> rfl)

theorem fed_track (sensor : Sensor) (x : Sense) (s : State) : track (fed sensor x s).odo = track s.odo :=
  (feedCheck_kept sensor x _).1.trans (feedCal_kept sensor x s.odo).1

theorem fed_params (sensor : Sensor) (x : Sense) (s : State) : (fed sensor x s).params = s.params :=
  fed_frame sensor x s .params (by decide)

/-- What the decoder and the calibration reference take of a count, by its sensor (R29, R44). -/
theorem decodeCount_decoded (sensor : Sensor) (x : Sense) (o : Odometry) :
    decoded (feedCal sensor x (decodeCount sensor x o)) =
      ((o.pinErr, o.whlErr,
        (if sensor = .pinion then o.pinRaw + (if x = .up then 1#32 else -1#32) else o.pinRaw),
        (if sensor = .wheel then o.whlRaw + (if x = .up then 1#32 else -1#32) else o.whlRaw),
        (if sensor = .pinion then phaseTable x o.pinPhase else o.pinPhase),
        (if sensor = .wheel then phaseTable x o.whlPhase else o.whlPhase)),
      (o.sample, o.standstill, o.report, o.capture, o.sampleTimer),
      o.cal.map fun y => (y.pos, y.net + if sensor = .wheel then sign x else 0)) := by
  rw [← stepRaw_eq, ← stepRaw_eq, ← stepPhase_eq, ← stepPhase_eq]
  cases sensor with
  | pinion => simp [decoded, feedCal, decodeCount]
  | wheel => simp [decoded, feedCal, decodeCount, Function.comp_def]

/-! ### A count (R29, R31, R32) -/

/-- A count before its cross-check. -/
def countMoved (sensor : Sensor) (x : Sense) (s : State) : State :=
  if isActive sensor s.odo then activeCount sensor x (fed sensor x s) else fed sensor x s

theorem takeCount_of_countMoved (sensor : Sensor) (x : Sense) (s : State) :
    takeCount sensor x s = countMoved sensor x s
      ∨ (known s.odo.state = true ∧ takeCount sensor x s = crossCheck (countMoved sensor x s)) := by
  rw [takeCount_eq]
  show (if _ then crossCheck (countMoved sensor x s) else countMoved sensor x s) = _ ∨ _
  split
  · next h =>
    simp only [Bool.and_eq_true] at h
    exact .inr ⟨h.1.1, rfl⟩
  · exact .inl rfl

section Count

variable {sensor : Sensor} {x : Sense} {s : State}

theorem takeCount_readings : readings (takeCount sensor x s).odo = readings (countMoved sensor x s).odo := by
  rcases takeCount_of_countMoved sensor x s with e | ⟨-, e⟩ <;> rw [e]
  exact crossCheck_readings _

theorem countMoved_inactive (h : isActive sensor s.odo = false) : countMoved sensor x s = fed sensor x s := by
  unfold countMoved; rw [if_neg (by simp [h])]

theorem countMoved_unset (ha : isActive sensor s.odo = true) (h : s.odo.state = .unset) :
    countMoved sensor x s = (fed sensor x s).setOdo { (fed sensor x s).odo with
      travel := (fed sensor x s).odo.travel + sign x * (weight s.params sensor : Int) } := by
  have hf : (fed sensor x s).odo.state = .unset := (congrArg Prod.fst (fed_track sensor x s)).trans h
  unfold countMoved; rw [if_pos ha, activeCount_unset hf, fed_params]

theorem countMoved_active (ha : isActive sensor s.odo = true) (h : s.odo.state ≠ .unset) :
    countMoved sensor x s =
      takeCompares (movePos s.odo.pUm (sign x * (weight s.params sensor : Int))).2 (counted sensor x s) := by
  have ht := fed_track sensor x s
  simp only [track, Prod.mk.injEq] at ht
  obtain ⟨hst, hp, -⟩ := ht
  unfold countMoved
  rw [if_pos ha, activeCount_eq (by rw [hst]; exact h), hp, fed_params]
  rfl

theorem counted_readings : readings (counted sensor x s).odo = readings (moved sensor x (fed sensor x s)).odo :=
  degradeAtBound_readings _

theorem moved_metered : metered (moved sensor x (fed sensor x s)).odo =
    let d : Int := sign x * weight s.params sensor
    let u := growUncertainty (uBound s.params) (weight s.params sensor * growth s.params sensor) s.odo.uUm s.odo.carry
    ((movePos s.odo.pUm d).1, u.1, u.2, s.odo.travel + d) := by
  have h := fed_metered sensor x s
  simp only [metered, Prod.mk.injEq] at h
  obtain ⟨h1, h2, h3, h4⟩ := h
  simp only [metered, moved, State.setOdo_odo, h1, h2, h3, h4, fed_params]

/-- The decoder's part stands through the whole count. -/
theorem takeCount_decoded :
    decoded (takeCount sensor x s).odo = decoded (feedCal sensor x (decodeCount sensor x s.odo)) := by
  refine (congrArg Prod.fst takeCount_readings).trans (Eq.trans ?_ (fed_decoded sensor x s))
  cases ha : isActive sensor s.odo with
  | false => rw [countMoved_inactive ha]; rfl
  | true =>
    by_cases hs : s.odo.state = .unset
    · rw [countMoved_unset ha hs]; rfl
    · rw [countMoved_active ha hs]
      exact congrArg Prod.fst ((takeCompares_readings _ _).trans counted_readings)

theorem movePos_movedTo (p : Nat) (d : Int) : (movePos p d).1 = movedTo p d := by
  have h := (movePos_spec p d).1
  unfold movedTo; omega

/-- A count in VALID that brings the uncertainty to its bound leaves VALID (R32). -/
theorem takeCount_leaves_valid (ha : isActive sensor s.odo = true) (hv : s.odo.state = .valid)
    (hu : (moved sensor x (fed sensor x s)).odo.uUm = uBound s.params) :
    (takeCount sensor x s).odo.state = .degraded ∨ (takeCount sensor x s).odo.state = .fault := by
  have hst : (moved sensor x (fed sensor x s)).odo.state = .valid :=
    (congrArg Prod.fst (fed_track sensor x s)).trans hv
  have hd : (counted sensor x s).odo.state = .degraded := by
    unfold counted; rw [degradeAtBound_odo, if_pos ⟨hst, hu.trans (by rw [← fed_params sensor x s]; rfl)⟩]
  have hm : (countMoved sensor x s).odo.state = .degraded ∨ (countMoved sensor x s).odo.state = .fault := by
    rw [countMoved_active ha (by rw [hv]; decide), ← hd]
    exact takeCompares_state _ _
  rcases takeCount_of_countMoved sensor x s with e | ⟨-, e⟩ <;> rw [e]
  · exact hm
  · rcases crossCheck_state (countMoved sensor x s) with h | h
    · rw [h]; exact hm
    · exact .inr h

theorem takeCount_inactive (ha : isActive sensor s.odo = false) :
    metered (takeCount sensor x s).odo = metered s.odo ∧ (takeCount sensor x s).odo.cur = s.odo.cur := by
  have hcur : (fed sensor x s).odo.cur = s.odo.cur := congrArg (·.2.2.2.1) (fed_track sensor x s)
  have hm := countMoved_inactive (x := x) ha
  refine ⟨(congrArg Prod.snd takeCount_readings).trans ?_, ?_⟩
  · rw [hm]; exact fed_metered sensor x s
  · rcases takeCount_of_countMoved sensor x s with e | ⟨-, e⟩ <;> rw [e, hm]
    · exact hcur
    · exact (congrArg (·.1.1) (crossCheck_located _)).trans hcur

theorem takeCount_unset (ha : isActive sensor s.odo = true) (h : s.odo.state = .unset) :
    metered (takeCount sensor x s).odo
        = (s.odo.pUm, s.odo.uUm, s.odo.carry, s.odo.travel + sign x * (weight s.params sensor : Int))
      ∧ (takeCount sensor x s).odo.cur = s.odo.cur ∧ (takeCount sensor x s).odo.state = .unset := by
  have hm := fed_metered sensor x s
  have ht := fed_track sensor x s
  simp only [metered, track, compares, Prod.mk.injEq] at hm ht
  obtain ⟨m1, m2, m3, m4⟩ := hm
  obtain ⟨t1, -, -, t2, -⟩ := ht
  have e : takeCount sensor x s = countMoved sensor x s :=
    (takeCount_of_countMoved sensor x s).resolve_right fun ⟨hk, _⟩ => by rw [h] at hk; exact Bool.noConfusion hk
  rw [e, countMoved_unset ha h]
  exact ⟨by simp only [metered, State.setOdo_odo, m1, m2, m3, m4], t2, t1.trans h⟩

theorem takeCount_metered (ha : isActive sensor s.odo = true) (h : s.odo.state ≠ .unset) :
    metered (takeCount sensor x s).odo = metered (moved sensor x (fed sensor x s)).odo := by
  refine (congrArg Prod.snd takeCount_readings).trans ?_
  rw [countMoved_active ha h]
  exact congrArg Prod.snd ((takeCompares_readings _ _).trans counted_readings)

/-- The uncertainty after a growth: below the bound it takes the growth, else the bound with the carry at 0 (R32). -/
theorem growUncertainty_eq (bound we u carry : Nat) :
    growUncertainty bound we u carry =
      if u + (carry + we) / 1000000 < bound then (u + (carry + we) / 1000000, (carry + we) % 1000000)
      else (bound, 0) := by
  unfold growUncertainty
  by_cases h : bound ≤ u + (carry + we) / 1000000
  · rw [if_pos h, if_neg (by omega)]
  · rw [if_neg h, if_pos (by omega)]

/-- A count of the active source outside UNSET (R31, R32). -/
theorem takeCount_moves (ha : isActive sensor s.odo = true) (h : s.odo.state ≠ .unset) :
    let t := takeCount sensor x s
    let grown := s.odo.carry + weight s.params sensor * growth s.params sensor
    t.odo.pUm = movedTo s.odo.pUm (signedWeight sensor x s.params)
    ∧ t.odo.travel = s.odo.travel + signedWeight sensor x s.params
    ∧ (if s.odo.uUm + grown / 1000000 < s.params.uMax * 1000 then
        t.odo.uUm = s.odo.uUm + grown / 1000000 ∧ t.odo.carry = grown % 1000000
      else
        t.odo.uUm = s.params.uMax * 1000 ∧ t.odo.carry = 0
        ∧ (s.odo.state = .valid → t.odo.state = .degraded ∨ t.odo.state = .fault)) := by
  intro t grown
  have hm := (takeCount_metered (x := x) ha h).trans moved_metered
  have hmoved := (moved_metered (sensor := sensor) (x := x) (s := s))
  simp only [growUncertainty_eq] at hm hmoved
  simp only [metered, Prod.mk.injEq, movePos_movedTo, ← signedWeight_eq] at hm hmoved
  obtain ⟨h1, h2, h3, h4⟩ := hm
  obtain ⟨-, k2, -, -⟩ := hmoved
  refine ⟨h1, h4, ?_⟩
  split
  · next hlt =>
    rw [if_pos (by exact hlt)] at h2 h3
    exact ⟨h2, h3⟩
  · next hge =>
    rw [if_neg (by exact hge)] at h2 h3 k2
    exact ⟨h2, h3, fun hv => takeCount_leaves_valid ha hv k2⟩

end Count

end Sys2Proof.Machine

namespace Sys2Proof.Proofs

set_option Elab.async false

open Machine

/-- Settles O20: the decoder's part by `takeCount_decoded`, the movement by `takeCount_moves`. -/
theorem quadratureCounts : Obligations.QuadratureCounts := by
  unfold Obligations.QuadratureCounts
  intro sensor x s
  have hd := (takeCount_decoded (sensor := sensor) (x := x) (s := s)).trans (decodeCount_decoded sensor x s.odo)
  simp only [decoded, Prod.mk.injEq] at hd
  obtain ⟨⟨d1, d2, d3, d4, d5, d6⟩, ⟨d7, d8, d9, d10, d11⟩, d12⟩ := hd
  refine ⟨takeCount sensor x s, rfl, (takeCount_frame sensor x s).mono, d1, d2, d3, d4, d5, d6, d7, d8, d9, d10, d11,
    d12.trans (by cases x <;> rfl), ?_⟩
  by_cases ha : isActive sensor s.odo = true
  · refine Eq.mpr (if_pos ((isActive_iff sensor s.odo).1 ha)) ?_
    by_cases hs : s.odo.state = .unset
    · obtain ⟨hm, hcur, hst⟩ := takeCount_unset (x := x) ha hs
      simp only [metered, Prod.mk.injEq, ← signedWeight_eq] at hm
      obtain ⟨m1, m2, m3, m4⟩ := hm
      exact ⟨m4, fun _ => ⟨m1, m2, m3, hcur, hst⟩, fun hn => absurd hs hn⟩
    · obtain ⟨hp, htr, hu⟩ := takeCount_moves (x := x) ha hs
      rw [weight_mul_growth] at hu
      exact ⟨htr, fun h => absurd h hs, fun _ => ⟨hp, hu⟩⟩
  · refine Eq.mpr (if_neg (mt (isActive_iff sensor s.odo).2 ha)) ?_
    obtain ⟨hm, hcur⟩ := takeCount_inactive (x := x) (by simpa using ha)
    simp only [metered, Prod.mk.injEq] at hm
    obtain ⟨m1, m2, m3, m4⟩ := hm
    exact ⟨m1, m4, m2, m3, hcur⟩

end Sys2Proof.Proofs
end

section
/-! PROOFS. The rack cross-check (O22). -/

namespace Sys2Proof.Machine

set_option Elab.async false

/-! ### The accumulators (R46) -/

/-- The accumulators and the last difference. -/
def spans (o : Odometry) : Int × Int × Nat := (o.accPin, o.accWhl, o.lastDiff)

theorem enterOdoFault_spans (f : OdoFault) (s : State) : spans (enterOdoFault f s).odo = spans s.odo := by
  by_cases h : known s.odo.state = true
  · rw [enterOdoFault_odo f h]; rfl
  · rw [enterOdoFault_unknown f (by simpa using h)]

theorem degradeAtBound_spans (s : State) : spans (degradeAtBound s).odo = spans s.odo := by
  rw [degradeAtBound_odo]; split <;> rfl

/-- A crossing out of a RACK section clears no accumulator (R46). -/
theorem takeCompares_spans (held : Option Sense) {s : State} (hr : onRack s = true) :
    spans (takeCompares held s).odo = spans s.odo := by
  have hkept (i : Nat) : spans (enterSection i s s.odo) = spans s.odo := by simp [enterSection, hr, spans]
  unfold takeCompares
  split
  · rfl
  · rw [crossUp_eq, issueCrossing_odo]; exact hkept _
  · rw [crossDown_eq, issueCrossing_odo]; exact hkept _
  · exact enterOdoFault_spans .offLine s

theorem onRack_congr {s t : State} (hc : t.odo.cur = s.odo.cur) (hl : t.line = s.line) : onRack t = onRack s := by
  unfold onRack; rw [currentRecord_congr hc (congrArg _ hl)]

section Rack

variable (sensor : Sensor) (x : Sense) {s : State} (hk : known s.odo.state = true) (hr : onRack s = true)
include hk hr

/-- A count on RACK in VALID or DEGRADED feeds its sensor's accumulator (R46). -/
theorem fed_spans : spans (fed sensor x s).odo = match sensor with
    | .pinion => (s.odo.accPin + signedWeight .pinion x s.params, s.odo.accWhl, s.odo.lastDiff)
    | .wheel => (s.odo.accPin, s.odo.accWhl + signedWeight .wheel x s.params, s.odo.lastDiff) := by
  rw [signedWeight_eq, signedWeight_eq]
  unfold fed feedCheck
  cases sensor with
  | pinion => rw [if_pos (by simpa using ⟨hk, hr⟩)]; rfl
  | wheel => rw [if_pos (by simpa using ⟨hk, hr⟩)]; rfl

theorem countMoved_spans : spans (countMoved sensor x s).odo = spans (fed sensor x s).odo := by
  have hs : s.odo.state ≠ .unset := by rintro h; rw [h] at hk; exact Bool.noConfusion hk
  cases ha : isActive sensor s.odo with
  | false => rw [countMoved_inactive ha]
  | true =>
    have hcur : (counted sensor x s).odo.cur = s.odo.cur := congrArg Prod.fst (counted_odo sensor x s).1
    have hrack := onRack_congr hcur (counted_frame sensor x s .line (by decide))
    rw [countMoved_active ha hs, takeCompares_spans _ (hrack.trans hr)]
    exact degradeAtBound_spans _

theorem takeCount_wheel : takeCount .wheel x s = countMoved .wheel x s := by
  rw [takeCount_eq, hk, hr]; rfl

theorem takeCount_pinion : takeCount .pinion x s = crossCheck (countMoved .pinion x s) := by
  rw [takeCount_eq, hk, hr]; rfl

end Rack

/-! ### The check (R47, R48) -/

/-- A fault of the odometry with its latch in the demand table (R48, R103). -/
def FaultLatched (t : State) : Prop :=
  t.odo.state = .fault ∧ t.brakes.odometry.emergency = .latched ∧ t.brakes.emergency = true

theorem enterOdoFault_latched (f : OdoFault) {s : State} (h : known s.odo.state = true) :
    FaultLatched (enterOdoFault f s) := by
  let u := addOdoCause (faultCause f) (s.setOdo { s.odo with state := .fault, fault := some f })
  have e : enterOdoFault f s = judgePart .odoDegraded (latchDemand .odometry u) := by
    unfold enterOdoFault; rw [if_pos h]
  have hb : (enterOdoFault f s).brakes = (latchDemand .odometry u).brakes :=
    (congrArg State.brakes e).trans (judgePart_frame _ _ .brakes (by decide))
  obtain ⟨hd, hem, -⟩ := writeDemand_emergency .odometry
    (d := { getDemand u.brakes .odometry with emergency := .latched }) (by simp) u
  refine ⟨by rw [enterOdoFault_odo f h], ?_, ?_⟩ <;> rw [hb]
  · exact congrArg Demand.emergency hd
  · exact hem

theorem takeCompares_known (held : Option Sense) {s : State} (h : known s.odo.state = true) :
    known (takeCompares held s).odo.state = true ∨ FaultLatched (takeCompares held s) := by
  unfold takeCompares
  split
  · exact .inl h
  · rw [crossUp_eq, issueCrossing_odo]; exact .inl h
  · rw [crossDown_eq, issueCrossing_odo]; exact .inl h
  · exact .inr (enterOdoFault_latched .offLine h)

theorem countMoved_known (sensor : Sensor) (x : Sense) {s : State} (h : known s.odo.state = true) :
    known (countMoved sensor x s).odo.state = true ∨ FaultLatched (countMoved sensor x s) := by
  have hfed : (fed sensor x s).odo.state = s.odo.state := congrArg Prod.fst (fed_track sensor x s)
  cases ha : isActive sensor s.odo with
  | false => rw [countMoved_inactive ha, hfed]; exact .inl h
  | true =>
    obtain ⟨-, -, -, -, hunset, hfault⟩ := counted_odo sensor x s
    have hs : s.odo.state ≠ .unset ∧ s.odo.state ≠ .fault := by
      constructor <;> intro e <;> rw [e] at h <;> exact Bool.noConfusion h
    rw [countMoved_active ha hs.1]
    refine takeCompares_known _ ?_
    by_contra hn
    rcases (not_known_iff _).1 (by simpa using hn) with e | e
    · exact hs.1 (hunset.1 e)
    · exact hs.2 (hfault.1 e)

theorem crossCheck_open {s : State} (h : s.odo.accPin.natAbs < 5000000) : crossCheck s = s := by
  unfold crossCheck; rw [if_neg (by simpa [Config.spanUm] using h)]

/-- A completed span, its difference kept and its accumulators cleared (R47). -/
def spanClosed (s : State) : State :=
  s.setOdo { s.odo with lastDiff := (s.odo.accWhl - s.odo.accPin).natAbs, accPin := 0, accWhl := 0 }

theorem crossCheck_closes {s : State} (h : 5000000 ≤ s.odo.accPin.natAbs) :
    crossCheck s = if checkFails s.params.xPpm s.odo.accPin s.odo.accWhl = true then
      enterOdoFault .mismatch (spanClosed s) else spanClosed s := by
  unfold crossCheck; rw [if_pos (by simpa [Config.spanUm] using h)]; rfl

theorem crossCheck_spans {s : State} (h : 5000000 ≤ s.odo.accPin.natAbs) :
    spans (crossCheck s).odo = (0, 0, (s.odo.accWhl - s.odo.accPin).natAbs) := by
  rw [crossCheck_closes h]; split
  · exact enterOdoFault_spans .mismatch _
  · rfl

theorem crossCheck_faults {s : State} (h : 5000000 ≤ s.odo.accPin.natAbs)
    (hs : known s.odo.state = true ∨ FaultLatched s)
    (hd : s.odo.accPin.natAbs * s.params.xPpm / 1000000 + 200000 < (s.odo.accWhl - s.odo.accPin).natAbs) :
    FaultLatched (crossCheck s) := by
  rw [crossCheck_closes h, if_pos (by simpa [checkFails] using hd)]
  rcases hs with hk | hf
  · exact enterOdoFault_latched .mismatch hk
  · rw [enterOdoFault_unknown .mismatch (by rw [show (spanClosed s).odo.state = .fault from hf.1]; rfl)]
    exact hf

theorem countMoved_params (sensor : Sensor) (x : Sense) (s : State) : (countMoved sensor x s).params = s.params := by
  unfold countMoved; split
  · exact Eq.trans (activeCount_frame _ _ _ .params (by decide)) (fed_params sensor x s)
  · exact fed_params sensor x s

end Sys2Proof.Machine

namespace Sys2Proof.Proofs

set_option Elab.async false

open Machine

/-- Settles O22: what feeds the accumulators by `fed_spans`, the completed span by `crossCheck_spans` and
`crossCheck_faults`. -/
theorem crossChecks : Obligations.CrossChecks := by
  unfold Obligations.CrossChecks
  intro sensor x s t c r ht hc hr hs hrack w
  obtain rfl : takeCount sensor x s = t := Host.Outcome.next.inj ht
  have hk := (known_iff _).2 hs
  have hon : onRack s = true := by rw [onRack_at hc, rackAt, hr]; simp [hrack]
  have hsp := (countMoved_spans sensor x hk hon).trans (fed_spans sensor x hk hon)
  have hp := countMoved_params sensor x s
  cases sensor with
  | wheel =>
    simp only [spans, Prod.mk.injEq] at hsp
    obtain ⟨h1, h2, h3⟩ := hsp
    rw [takeCount_wheel x hk hon]
    exact ⟨fun _ => ⟨h2, h1, h3⟩, fun h => (by cases h), fun h => (by cases h)⟩
  | pinion =>
    simp only [spans, Prod.mk.injEq] at hsp
    obtain ⟨h1, h2, h3⟩ := hsp
    rw [takeCount_pinion x hk hon]
    refine ⟨fun h => (by cases h), fun _ hlt => ?_, fun _ hge => ?_⟩
    · rw [crossCheck_open (by rw [h1]; exact hlt)]
      exact ⟨h1, h2, h3⟩
    · have hge' : 5000000 ≤ (countMoved .pinion x s).odo.accPin.natAbs := by rw [h1]; exact hge
      have hcl := crossCheck_spans hge'
      simp only [spans, Prod.mk.injEq, h1, h2] at hcl
      obtain ⟨k1, k2, k3⟩ := hcl
      refine ⟨k1, k2, k3, fun hd => crossCheck_faults hge' (countMoved_known .pinion x hk) ?_⟩
      rw [h1, h2, hp]; exact hd

end Sys2Proof.Proofs
end

section
/-! PROOFS. What a change of mode and a re-derivation of car closed do to the demand table and the rack brake (R80,
R103, R110, R140), and RELEASE_TRIP (O42). -/

namespace Sys2Proof.Machine

set_option Elab.async false

/-! ### The rack brake at a combination (R110) -/

/-- The rack brake is APPLIED under an emergency, or has begun its release because none is left (R110). -/
def Releasing (p : Params) (b : Brakes) : Prop :=
  (b.emergency = true ∧ b.rack = .applied)
    ∨ (b.emergency = false ∧ emergencyOf b = false ∧ b.rack = .releasing ∧ b.rackTimer = some p.tRel)

/-- The rack brake after a combination: as it was, or told of a change of the emergency (R110). -/
theorem combined_rack (p : Params) (b : Brakes) :
    let c := rackTold p { b with emergency := emergencyOf b, effort := effortOf b }
    (emergencyOf b = b.emergency → (combined p b).rack = b.rack ∧ (combined p b).rackTimer = b.rackTimer)
    ∧ (emergencyOf b ≠ b.emergency → (combined p b).rack = c.rack ∧ (combined p b).rackTimer = c.rackTimer) := by
  intro c
  unfold combined
  dsimp only
  refine ⟨fun h => ?_, fun h => ?_⟩
  · rw [if_pos h]; split <;> exact ⟨rfl, rfl⟩
  · rw [if_neg h]; split <;> exact ⟨rfl, rfl⟩

theorem rackTold_notApplied (p : Params) (b : Brakes) :
    (rackTold p b).rack = .faultNotApplied ↔ b.rack = .faultNotApplied := by
  unfold rackTold
  split <;> simp_all

theorem combined_notApplied (p : Params) (b : Brakes) :
    (combined p b).rack = .faultNotApplied ↔ b.rack = .faultNotApplied := by
  obtain ⟨hsame, htold⟩ := combined_rack p b
  by_cases h : emergencyOf b = b.emergency
  · rw [(hsame h).1]
  · rw [(htold h).1, rackTold_notApplied]

theorem emergencyOf_congr {b c : Brakes} (h : ∀ src, (getDemand c src).emergency = (getDemand b src).emergency) :
    emergencyOf c = emergencyOf b := by
  rw [Bool.eq_iff_iff, emergencyOf_iff, emergencyOf_iff]; simp only [h]

theorem Releasing.combined {p : Params} {b : Brakes} (h : Releasing p b) : Releasing p (combined p b) := by
  obtain ⟨hem, -, hd⟩ := combined_spec p b
  obtain ⟨hsame, htold⟩ := combined_rack p b
  have hof : emergencyOf (Machine.combined p b) = emergencyOf b := emergencyOf_congr fun src => by rw [hd]
  rcases h with ⟨h1, h2⟩ | ⟨h1, h2, h3, h4⟩
  · cases he : emergencyOf b with
    | true => exact .inl ⟨hem.trans he, (hsame (he.trans h1.symm)).1.trans h2⟩
    | false =>
      obtain ⟨k1, k2⟩ := htold (by rw [he, h1]; decide)
      have hrack : rackTold p { b with emergency := emergencyOf b, effort := effortOf b }
          = { b with emergency := false, effort := effortOf b, rack := .releasing, rackTimer := some p.tRel } := by
        unfold rackTold; rw [he, h2]
      rw [hrack] at k1 k2
      exact .inr ⟨hem.trans he, hof.trans he, k1, k2⟩
  · obtain ⟨k1, k2⟩ := hsame (h2.trans h1.symm)
    exact .inr ⟨hem.trans h2, hof.trans h2, k1.trans h3, k2.trans h4⟩

/-! ### The DOORS level and the permit (R116, R140) -/

/-- Through a change of the DOORS level, and what goes with it, the other entries and every emergency demand stand. -/
structure LevelWritten (s t : State) : Prop where
  params : t.params = s.params
  others : ∀ src, src ≠ .doors → getDemand t.brakes src = getDemand s.brakes src
  emergency : t.brakes.doors.emergency = s.brakes.doors.emergency
  notApplied : t.brakes.rack = .faultNotApplied ↔ s.brakes.rack = .faultNotApplied
  releasing : Releasing s.params s.brakes → Releasing s.params t.brakes

namespace LevelWritten

variable {s t u : State} {bs : List Block}

theorem of_brakes (hp : t.params = s.params) (hb : t.brakes = s.brakes) : LevelWritten s t :=
  ⟨hp, fun _ _ => by rw [hb], by rw [hb], by rw [hb], fun h => by rw [hb]; exact h⟩

theorem of_frame (h : OnlyChanges bs s t) (hp : Block.params ∉ bs := by decide) (hb : Block.brakes ∉ bs := by decide) :
    LevelWritten s t := of_brakes (h .params hp) (h .brakes hb)

theorem refl (s : State) : LevelWritten s s := of_brakes rfl rfl

theorem trans (h : LevelWritten s t) (k : LevelWritten t u) : LevelWritten s u where
  params := k.params.trans h.params
  others := fun src hs => (k.others src hs).trans (h.others src hs)
  emergency := k.emergency.trans h.emergency
  notApplied := k.notApplied.trans h.notApplied
  releasing := fun hr => h.params ▸ k.releasing (h.params.symm ▸ h.releasing hr)

end LevelWritten

theorem judgePermit_levelWritten (s : State) : LevelWritten s (judgePermit s) :=
  ⟨rfl, fun src _ => getDemand_tperm _ _ src, rfl, .rfl, fun h => h⟩

theorem writeDoorsLevel_levelWritten (s : State) : LevelWritten s (writeDoorsLevel s) := by
  let d : Demand := { s.brakes.doors with level := doorsLevel s }
  obtain ⟨hd, hothers, -⟩ := writeDemand_spec .doors d s
  have hput : emergencyOf (putDemand .doors d s.brakes) = emergencyOf s.brakes :=
    emergencyOf_congr fun src => by cases src <;> rfl
  have hem : (writeDoorsLevel s).brakes.doors.emergency = d.emergency := congrArg Demand.emergency hd
  refine ⟨rfl, hothers, hem, ?_, fun h => ?_⟩
  · exact combined_notApplied s.params (putDemand .doors d s.brakes)
  · have h' : Releasing s.params (putDemand .doors d s.brakes) := by
      unfold Releasing; rw [hput]; exact h
    exact h'.combined

theorem closedAnew_levelWritten (s : State) : LevelWritten s (closedAnew s) := by
  unfold closedAnew
  split
  · exact .refl s
  · let u := addDoorCause .closedChanged (s.setDoors { s.doors with closed := carClosed s.doors.leaves })
    exact LevelWritten.trans (t := u) (.of_brakes rfl rfl) (writeDoorsLevel_levelWritten u)

theorem retestRelease_levelWritten (side : Side) (s : State) : LevelWritten s (retestRelease side s) := by
  rcases retestRelease_cases side s with e | ⟨w, e⟩ <;> rw [e]
  · exact .refl s
  · let u := addDoorCause .releaseWithdrawn (s.setDoors (putRelease side (withdrawnRelease w) s.doors))
    let v := u.setDoors { u.doors with leaves := mapSide side (leafClose (leafEnv u side)) u.doors.leaves }
    exact LevelWritten.trans (t := v) (.of_brakes rfl rfl) (closedAnew_levelWritten v)

theorem retestReleases_levelWritten (s : State) : LevelWritten s (retestReleases s) :=
  (retestRelease_levelWritten .left s).trans (retestRelease_levelWritten .right _)

/-! ### A change of mode (R78, R80) -/

theorem selectDir_levelWritten (d : Dir) (s : State) : LevelWritten s (selectDir d s) := by
  have h : LevelWritten s (retold d s) :=
    LevelWritten.trans (t := redirected d s) (.of_brakes rfl rfl) (.of_frame (retold_frame d s))
  exact (h.trans (judgePermit_levelWritten _)).trans (.of_frame (setFlag_frame _ _))

theorem entered_levelWritten (m : Mode) (s : State) : LevelWritten (enterMode m s) (entered m s) := by
  unfold entered
  rcases neutralInStandby_cases m (enterMode m s) with ⟨e, -⟩ | ⟨-, e⟩ <;> rw [e]
  · exact .refl _
  · exact selectDir_levelWritten _ _

/-- Past the SUPERVISOR entry a change of mode writes the DOORS level alone (R78, R140). -/
theorem changeMode_levelWritten (m : Mode) (s : State) : LevelWritten (enterMode m s) (changeMode m s) :=
  ((entered_levelWritten m s).trans (.of_frame (retestHeld_frame _))).trans
    ((retestReleases_levelWritten _).trans ((judgePermit_levelWritten _).trans (.of_frame (setFlag_frame _ _))))

/-- Through a change of mode, and what goes with it, every entry stands but SUPERVISOR's and the DOORS level (R80). -/
structure EntriesKept (s t : State) : Prop where
  others : ∀ src, src ≠ .supervisor → src ≠ .doors → getDemand t.brakes src = getDemand s.brakes src
  doors : t.brakes.doors.emergency = s.brakes.doors.emergency
  notApplied : t.brakes.rack = .faultNotApplied ↔ s.brakes.rack = .faultNotApplied
  releasing : s.brakes.emergency = true → s.brakes.rack = .applied → Releasing s.params t.brakes

theorem EntriesKept.refl (s : State) : EntriesKept s s :=
  ⟨fun _ _ _ => rfl, rfl, .rfl, fun hem hrack => .inl ⟨hem, hrack⟩⟩

theorem changeMode_entriesKept (m : Mode) (s : State) : EntriesKept s (changeMode m s) := by
  have h := changeMode_levelWritten m s
  rw [enterMode_eq] at h
  let u := s.setSup (modeEntered m s.sup)
  let d := supervisorDemand u.params u.sup u.brakes.supervisor
  obtain ⟨-, hothers, -⟩ := writeDemand_spec .supervisor d u
  refine ⟨fun src h1 h2 => (h.others src h2).trans (hothers src h1), ?_, ?_, fun hem hrack => ?_⟩
  · exact h.emergency.trans (congrArg Demand.emergency (hothers .doors (by decide)))
  · exact h.notApplied.trans (combined_notApplied u.params (putDemand .supervisor d u.brakes))
  · have h0 : Releasing s.params (putDemand .supervisor d u.brakes) := .inl ⟨hem, hrack⟩
    exact h.releasing h0.combined

/-! ### RELEASE_TRIP (R49, R83, R107) -/

theorem releaseOdometry_lifts {s : State} (h : s.odo.state = .fault ∧ insideLine (pMm s.odo) s = true) :
    let t := releaseOdometry s
    t.odo.state = .degraded ∧ t.odo.uUm = s.params.uMax * 1000 ∧ t.odo.carry = 0 ∧ t.odo.accPin = 0
    ∧ t.odo.accWhl = 0 ∧ t.odo.cal = none ∧ t.odo.pUm = s.odo.pUm ∧ t.odo.cur = s.odo.cur
    ∧ t.odo.lower = s.odo.lower ∧ t.odo.upper = s.odo.upper ∧ t.odo.causes.getLsbD 6 = true
    ∧ t.link.flags.getLsbD 6 = true := by
  let o : Odometry := { s.odo with
    state := .degraded, uUm := s.params.uMax * 1000, carry := 0, accPin := 0, accWhl := 0, cal := none }
  let u := addOdoCause .degraded (s.setOdo o)
  have e : releaseOdometry s = judgePart .odoDegraded u := if_pos h
  have ho : (judgePart .odoDegraded u).odo = u.odo := judgePart_frame _ _ .odo (by decide)
  have hu : u.odo = { o with causes := s.odo.causes ||| odoCauseBit .degraded } := rfl
  rw [e]
  dsimp only
  rw [ho, hu]
  refine ⟨rfl, rfl, rfl, rfl, rfl, rfl, rfl, rfl, rfl, rfl, ?_, ?_⟩
  · simp [odoCauseBit, odoCauseIndex]
  · exact (judgePart_grows .odoDegraded u).getLsbD (setFlag_getLsbD .odometry _)

theorem releaseOdometry_grows (s : State) : FlagsGrow s (releaseOdometry s) := by
  unfold releaseOdometry
  split
  · exact FlagsGrow.trans (addOdoCause_grows .degraded (s.setOdo _)) (judgePart_grows .odoDegraded _)
  · exact .refl s

/-- The supervisor as a RELEASE_TRIP leaves it: as it was, or back in the mode before trip (R83). -/
theorem releaseSupervisor_cases (s : State) :
    (¬ (s.sup.mode = .tripped ∧ s.odo.state ≠ .fault) ∧ releaseSupervisor s = s)
    ∨ ((s.sup.mode = .tripped ∧ s.odo.state ≠ .fault)
        ∧ releaseSupervisor s = changeMode s.sup.modeBefore (s.setSup { s.sup with rollback := 0 })) := by
  by_cases h : s.sup.mode = .tripped ∧ s.odo.state ≠ .fault
  · exact .inr ⟨h, if_pos h⟩
  · exact .inl ⟨h, if_neg h⟩

theorem releaseSupervisor_grows (s : State) : FlagsGrow s (releaseSupervisor s) := by
  rcases releaseSupervisor_cases s with ⟨-, e⟩ | ⟨-, e⟩ <;> rw [e]
  · exact .refl s
  · exact changeMode_grows s.sup.modeBefore (s.setSup _)

theorem releaseSupervisor_entriesKept (s : State) : EntriesKept s (releaseSupervisor s) := by
  rcases releaseSupervisor_cases s with ⟨-, e⟩ | ⟨-, e⟩ <;> rw [e]
  · exact .refl s
  · obtain ⟨h1, h2, h3, h4⟩ := changeMode_entriesKept s.sup.modeBefore (s.setSup { s.sup with rollback := 0 })
    exact ⟨h1, h2, h3, h4⟩

theorem releaseSupervisor_resumes {s : State} (h : s.sup.mode = .tripped ∧ s.odo.state ≠ .fault)
    (hm : s.sup.modeBefore = .depot ∨ s.sup.modeBefore = .line) :
    (releaseSupervisor s).sup = { s.sup with mode := s.sup.modeBefore, rollback := 0 }
    ∧ (releaseSupervisor s).link.flags.getLsbD (flagIndex .modeChanged) = true := by
  have e : releaseSupervisor s = changeMode s.sup.modeBefore (s.setSup { s.sup with rollback := 0 }) := if_pos h
  have hns : s.sup.modeBefore ≠ .standby := by rcases hm with hm | hm <;> rw [hm] <;> decide
  rw [e]
  refine ⟨?_, setFlag_getLsbD .modeChanged _⟩
  rw [changeMode_sup, entered_sup]
  simp [hns]

/-- A latched SUPERVISOR entry stays latched, the latch not yet judged (R80, R83). -/
theorem releaseSupervisor_latched {s : State} (h : s.brakes.supervisor.emergency = .latched)
    (hm : s.sup.modeBefore ≠ .standby) : (releaseSupervisor s).brakes.supervisor.emergency = .latched := by
  rcases releaseSupervisor_cases s with ⟨-, e⟩ | ⟨-, e⟩ <;> rw [e]
  · exact h
  · rw [(changeMode_supervisor _ _).1]
    have hw : withoutHeld s.brakes.supervisor.emergency = .latched := by rw [h]; rfl
    unfold supervisorDemand modeEntered
    cases hb : s.sup.modeBefore with
    | standby => exact absurd hb hm
    | tripped => rfl
    | depot => exact hw
    | line => exact hw

theorem combine_entries (s : State) (src : BrakeSource) :
    getDemand (combine s).brakes src = getDemand s.brakes src :=
  (getDemand_tperm _ _ src).trans ((combined_spec s.params s.brakes).2.2 src)

theorem Releasing.combine {s : State} (h : Releasing s.params s.brakes) :
    Releasing s.params (Machine.combine s).brakes := h.combined

theorem clearLatch_latched {d : Demand} (h : d.emergency = .latched) (c : Bool) :
    clearLatch c d = ⟨d.level, if c = true then .none else .latched⟩ := by
  obtain ⟨l, e⟩ := d
  cases h
  unfold clearLatch; cases c <;> simp

theorem clearLatch_none {d : Demand} (c : Bool) (h : d.emergency = .none) : (clearLatch c d).emergency = .none := by
  unfold clearLatch; split <;> simp [h]

/-- Clearing latches adds no emergency demand, so a release that has begun goes on (R107, R110). -/
theorem Releasing.cleared {p : Params} {s : State} (h : Releasing p s.brakes) : Releasing p (clearLatches s) := by
  rcases h with h | ⟨h1, h2, h3⟩
  · exact .inl h
  · refine .inr ⟨h1, ?_, h3⟩
    simp only [emergencyOf, allDemands, List.any_eq_false, List.mem_cons, List.not_mem_nil, or_false,
      forall_eq_or_imp, forall_eq, bne_iff_ne, ne_eq, not_not] at h2 ⊢
    obtain ⟨a, b, c, d, e, f⟩ := h2
    exact ⟨clearLatch_none _ a, clearLatch_none _ b, clearLatch_none _ c, d, clearLatch_none _ e, clearLatch_none _ f⟩

/-- A RELEASE_TRIP at standstill: the state whose latches are judged, and what becomes of them (R107). -/
theorem releaseTrip_entries (s : State) :
    let v := releaseSupervisor (releaseOdometry s)
    ∀ src, getDemand (releaseTrip s).brakes src = getDemand (clearLatches v) src :=
  combine_entries _

theorem releaseTrip_grows (s : State) : FlagsGrow s (releaseTrip s) := by
  let v := releaseSupervisor (releaseOdometry s)
  have h : FlagsGrow v (releaseTrip s) :=
    .of_frame (bs := [.brakes]) ((setBrakes_frame (clearLatches v) v).trans (combine_frame _))
  exact ((releaseOdometry_grows s).trans (releaseSupervisor_grows _)).trans h

/-- The emergency demands a RELEASE_TRIP leaves, entry by entry (R107). -/
theorem releaseTrip_latches (s : State) :
    let t := releaseTrip s
    t.brakes.radio = s.brakes.radio
    ∧ (s.brakes.host.emergency = .latched → t.brakes.host = ⟨s.brakes.host.level, .none⟩)
    ∧ (s.brakes.odometry.emergency = .latched →
        t.brakes.odometry = ⟨s.brakes.odometry.level, if t.odo.state = .fault then .latched else .none⟩)
    ∧ (s.brakes.brake.emergency = .latched → t.brakes.brake =
        ⟨s.brakes.brake.level, if s.brakes.rack = .faultNotApplied then .latched else .none⟩)
    ∧ (s.brakes.doors.emergency = .latched →
        t.brakes.doors.emergency = if t.doors.closed = true then .none else .latched)
    ∧ (s.brakes.supervisor.emergency = .latched → s.sup.modeBefore ≠ .standby →
        t.brakes.supervisor.emergency = if t.sup.mode = .tripped then .latched else .none) := by
  let r := releaseOdometry s
  let v := releaseSupervisor r
  have hr : r.brakes = s.brakes := releaseOdometry_frame s .brakes (by decide)
  have hrs : r.sup = s.sup := releaseOdometry_frame s .sup (by decide)
  have hk : EntriesKept r v := releaseSupervisor_entriesKept r
  have htop : OnlyChanges [.brakes] v (releaseTrip s) :=
    (setBrakes_frame (clearLatches v) v).trans (combine_frame _)
  have hodo : (releaseTrip s).odo = v.odo := htop .odo (by decide)
  have hdoors : (releaseTrip s).doors = v.doors := htop .doors (by decide)
  have hsup : (releaseTrip s).sup = v.sup := htop .sup (by decide)
  have hv (src : BrakeSource) (h1 : src ≠ .supervisor) (h2 : src ≠ .doors) :
      getDemand v.brakes src = getDemand s.brakes src := (hk.others src h1 h2).trans (by rw [hr])
  have ht := releaseTrip_entries s
  refine ⟨?_, fun h => ?_, fun h => ?_, fun h => ?_, fun h => ?_, fun h hm => ?_⟩
  · exact (ht .radio).trans (hv .radio (by decide) (by decide))
  · have e : v.brakes.host = s.brakes.host := hv .host (by decide) (by decide)
    exact (ht .host).trans ((clearLatch_latched (d := v.brakes.host) (by rw [e]; exact h) true).trans (by rw [e]; rfl))
  · have e : v.brakes.odometry = s.brakes.odometry := hv .odometry (by decide) (by decide)
    refine (ht .odometry).trans ((clearLatch_latched (d := v.brakes.odometry) (by rw [e]; exact h) _).trans ?_)
    rw [e, hodo]; simp [v, r]
  · have e : v.brakes.brake = s.brakes.brake := hv .brake (by decide) (by decide)
    have hna : v.brakes.rack = .faultNotApplied ↔ s.brakes.rack = .faultNotApplied := by rw [hk.notApplied, hr]
    refine (ht .brake).trans ((clearLatch_latched (d := v.brakes.brake) (by rw [e]; exact h) _).trans ?_)
    rw [e]; simp [← hna, v, r]
  · have e : v.brakes.doors.emergency = .latched := hk.doors.trans (by rw [hr]; exact h)
    refine (congrArg Demand.emergency ((ht .doors).trans (clearLatch_latched e _))).trans ?_
    rw [hdoors]
  · have e : v.brakes.supervisor.emergency = .latched :=
      releaseSupervisor_latched (by rw [hr]; exact h) (by rw [hrs]; exact hm)
    refine (congrArg Demand.emergency ((ht .supervisor).trans (clearLatch_latched e _))).trans ?_
    rw [hsup]; simp [v, r]

/-- With no emergency left the rack brake begins its release (R107, R110). -/
theorem releaseTrip_releasing {s : State} (hem : s.brakes.emergency = true) (hrack : s.brakes.rack = .applied) :
    Releasing s.params (releaseTrip s).brakes := by
  let r := releaseOdometry s
  let v := releaseSupervisor r
  have hr : r.brakes = s.brakes := releaseOdometry_frame s .brakes (by decide)
  have hp : v.params = s.params :=
    Eq.trans (releaseSupervisor_frame r .params (by decide)) (releaseOdometry_frame s .params (by decide))
  have hrp : r.params = s.params := releaseOdometry_frame s .params (by decide)
  have h : Releasing r.params v.brakes :=
    (releaseSupervisor_entriesKept r).releasing (by rw [hr]; exact hem) (by rw [hr]; exact hrack)
  rw [hrp, ← hp] at h
  have hc : Releasing v.params (Machine.releaseTrip s).brakes :=
    Releasing.combine (s := v.setBrakes (clearLatches v)) h.cleared
  rwa [hp] at hc

end Sys2Proof.Machine

namespace Sys2Proof.Proofs

set_option Elab.async false

open Machine

/-- Settles O42: the odometry's part, the supervisor's part and the latches, each by its own lemma. -/
theorem releaseTrip : Obligations.ReleaseTrip := by
  unfold Obligations.ReleaseTrip
  intro s
  refine ⟨_, rfl, fun h => ?_, fun h => ?_⟩
  · rw [if_neg (by simp [atStandstill, h])]
    exact answer_only _ _ _ _
  rw [if_pos (by simpa [atStandstill] using h)]
  let r := releaseOdometry s
  let v := releaseSupervisor r
  let t := Machine.releaseTrip s
  have hrs : r.sup = s.sup := releaseOdometry_frame s .sup (by decide)
  have hsup : t.sup = v.sup :=
    Eq.trans (combine_frame _ .sup (by decide)) (setBrakes_frame (clearLatches v) v .sup (by decide))
  have hodo : t.odo = r.odo := releaseTrip_odo s
  have htop : FlagsGrow v t :=
    .of_frame (bs := [.brakes]) ((setBrakes_frame (clearLatches v) v).trans (combine_frame _))
  obtain ⟨hradio, hhost, hodometry, hbrake, hdoors, hsupervisor⟩ := releaseTrip_latches s
  refine ⟨(releaseTrip_frame s).mono.answered _ _ _, ?_, fun hm hf hb => ?_, fun hm => ?_, hradio, hhost, hodometry,
    hbrake, hdoors, hsupervisor, fun hem hne hrack => ?_, ?_⟩
  · have hin : s.odo.state = .fault ∧ insideLine (pMm s.odo) s = true ↔
        s.odo.state = .fault ∧ lineStart s ≤ s.odo.pUm / 1000 ∧ s.odo.pUm / 1000 < lineEnd s :=
      and_congr_right fun _ => insideLine_iff _ s
    split
    case isTrue hif =>
      obtain ⟨h1, h2, h3, h4, h5, h6, h7, h8, h9, h10, h11, h12⟩ := releaseOdometry_lifts (hin.2 hif)
      rw [← hodo] at h1 h2 h3 h4 h5 h6 h7 h8 h9 h10 h11
      exact ⟨h1, h2, h3, h4, h5, h6, h7, h8, h9, h10, h11,
        ((releaseSupervisor_grows r).trans htop).getLsbD h12⟩
    case isFalse hif => exact hodo.trans (congrArg State.odo (releaseOdometry_stays (hin.not.2 hif)))
  · obtain ⟨h1, h2⟩ := releaseSupervisor_resumes (s := r) ⟨by rw [hrs]; exact hm, fun e => hf (hodo ▸ e)⟩
      (by rw [hrs]; exact hb)
    rw [hrs] at h1
    exact ⟨hsup.trans h1, htop.getLsbD h2⟩
  · have hv : v = r := if_neg (by
      rintro ⟨h1, h2⟩
      rcases hm with hm | hm
      · exact hm (hrs ▸ h1)
      · exact h2 (hodo ▸ hm))
    exact hsup.trans ((congrArg State.sup hv).trans hrs)
  · rcases releaseTrip_releasing hem hrack with ⟨h1, -⟩ | ⟨-, -, h2, h3⟩
    · exact absurd (h1.symm.trans hne) (by decide)
    · exact ⟨h2, h3⟩
  · obtain ⟨f, hf⟩ := releaseTrip_grows s
    refine ⟨s.link.flags ||| f, ?_⟩
    rw [← hf]
    exact answer_answered _ _ _ _

end Sys2Proof.Proofs
end

section
/-! PROOFS. POSITION_SAMPLE: retirement by passage, the releases re-tested through a possible trip, and the interlock
(O24). -/

namespace Sys2Proof.Machine

set_option Elab.async false

/-! ### Changes taken together (R61, R63) -/

/-- What an evaluation leaves of an entry. -/
def changedEntry (f : Restriction → Option EntryChange) (e : Restriction) : Option Restriction :=
  match f e with
  | none => some e
  | some (.retire _) => none
  | some .activate => some { e with active := true }

theorem retireAt_table (cause : RetireCause) (i : Nat) (e : Restriction) (r : Restrictions) :
    (retireAt cause i e r).table = r.table.set i none := (logPush_rest _ _).1

theorem storeAt_table (ch : ChangeKind) (i : Nat) (e : Restriction) (r : Restrictions) :
    (storeAt ch i e r).table = r.table.set i (some e) := (logPush_rest _ _).1

theorem changeAt_get (f : Restriction → Option EntryChange) (r : Restrictions) (i k : Nat) :
    (changeAt f r i).table[k]? = if k = i then r.table[k]?.map (·.bind (changedEntry f)) else r.table[k]? := by
  unfold changeAt
  rw [List.getD_eq_getElem?_getD]
  by_cases hk : k = i
  · subst hk
    rw [if_pos rfl]
    rcases hx : r.table[k]? with _ | _ | e
    · simp [hx]
    · simp [hx]
    · obtain ⟨hlt, hget⟩ := List.getElem?_eq_some_iff.1 hx
      rcases hf : f e with _ | _ | _ <;> simp [hf, changedEntry, retireAt_table, storeAt_table, hlt, hget]
  · rw [if_neg hk]
    rcases r.table[i]? with _ | _ | e
    · rfl
    · rfl
    · rcases hf : f e with _ | _ | _ <;>
        simp [hf, retireAt_table, storeAt_table, Ne.symm hk]

theorem changeAt_foldl_get (f : Restriction → Option EntryChange) (r : Restrictions) (n k : Nat) :
    ((List.range n).foldl (changeAt f) r).table[k]? =
      if k < n then r.table[k]?.map (·.bind (changedEntry f)) else r.table[k]? := by
  induction n with
  | zero => rfl
  | succ n ih =>
    rw [List.range_succ, List.foldl_append, List.foldl_cons, List.foldl_nil, changeAt_get, ih]
    by_cases hk : k = n
    · simp [hk]
    · simp only [hk, if_false]
      split <;> split <;> first | rfl | omega

/-- An evaluation judges every entry by itself (R61, R63). -/
theorem changeAll_get (f : Restriction → Option EntryChange) (s : State) {k : Nat} (hk : k < 32) :
    (changeAll f s).restr.table[k]? = s.restr.table[k]?.map (·.bind (changedEntry f)) := by
  unfold changeAll
  split
  case isTrue => exact (changeAt_foldl_get f s.restr 32 k).trans (if_pos hk)
  case isFalse h =>
    rcases hx : s.restr.table[k]? with _ | _ | e
    · rfl
    · rfl
    · have hf : f e = none := by
        simp only [List.any_eq_true, not_exists, not_and] at h
        simpa using h _ (List.mem_of_getElem? hx)
      simp [changedEntry, hf]

theorem retirePassed_grows (s : State) : FlagsGrow s (retirePassed s) := by
  unfold retirePassed changeAll
  repeat' split
  · exact restrChanged_grows _ s
  · exact .refl s
  · exact .refl s

/-- The passage test of R63 for an entry and a sample. -/
theorem passageChange_cases (dir : Dir) (len p u : Nat) (e : Restriction) :
    changedEntry (passageChange dir len p u) e =
      if (e.issuer = .valley ∨ e.issuer = .car) ∧ (e.kind = .speed ∨ e.kind = .door)
          ∧ ((dir = .up ∧ e.dir ≠ .down ∧ (e.hi : Int) < (p : Int) - len - u)
            ∨ (dir = .down ∧ e.dir ≠ .up ∧ p + u < e.lo)) then none
      else some e := by
  have hi : (e.issuer != .part) = true ↔ e.issuer = .valley ∨ e.issuer = .car := by cases e.issuer <;> decide
  have hk : (e.kind != .stop) = true ↔ e.kind = .speed ∨ e.kind = .door := by cases e.kind <;> decide
  have hup : (e.dir == .up || e.dir == .both) = true ↔ e.dir ≠ .down := by cases e.dir <;> decide
  have hdown : (e.dir == .down || e.dir == .both) = true ↔ e.dir ≠ .up := by cases e.dir <;> decide
  have hcast : ((p : Int) + u < e.lo) ↔ p + u < e.lo := by omega
  unfold changedEntry passageChange extentLo extentHi
  simp only [Bool.and_eq_true, Bool.or_eq_true (_ && _), hi, hk, hup, hdown, beq_iff_eq, decide_eq_true_eq, hcast,
    and_assoc]
  split <;> simp_all

theorem retirePassed_get (s : State) {k : Nat} (hk : k < 32) :
    (retirePassed s).restr.table[k]? =
      if s.odo.sample.state = .valid ∨ s.odo.sample.state = .degraded then
        s.restr.table[k]?.map
          (·.bind (changedEntry (passageChange s.sup.dir s.params.L s.odo.sample.p s.odo.sample.u)))
      else s.restr.table[k]? := by
  unfold retirePassed
  simp only [Bool.or_eq_true, beq_iff_eq]
  split
  · exact changeAll_get _ s hk
  · rfl

/-! ### The supervisor's part of a sample (R86) -/

/-- One side of the car through a trip: a release in force is withdrawn by the mode (R138). -/
def SideTripped (side : Side) (s t : State) : Prop :=
  ((getRelease s.doors side).inForce = false → SideStands side s t)
  ∧ ((getRelease s.doors side).inForce = true → Withdrawn side .mode s t)

/-- What the supervisor's stages keep of direction, flags and the DOORS entry, and what they do to the doors:
nothing, or the one trip they may bring. -/
structure Supervised (s t : State) : Prop where
  params : t.params = s.params
  dir : t.sup.dir = s.sup.dir
  grows : FlagsGrow s t
  emergency : t.brakes.doors.emergency = s.brakes.doors.emergency
  doors : (t.doors = s.doors ∧ t.sup.mode = s.sup.mode)
    ∨ (s.sup.mode ≠ .tripped ∧ t.sup.mode = .tripped ∧ ∀ side, side ≠ .both → SideTripped side s t)

theorem SideStands.of_doors {side : Side} {s t : State} (h : t.doors = s.doors) : SideStands side s t := by
  unfold SideStands; rw [h]; exact ⟨rfl, fun _ _ => rfl⟩

theorem SideStands.trans {side : Side} {s t u : State} (h : SideStands side s t) (k : SideStands side t u) :
    SideStands side s u := ⟨k.1.trans h.1, fun id hid => (k.2 id hid).trans (h.2 id hid)⟩

theorem Withdrawn.unforced {side : Side} {w : Withdrawal} {s t : State} (h : Withdrawn side w s t) :
    (getRelease t.doors side).inForce = false := by rw [h.release]

/-- What leaves a side alone afterwards, and takes no cause and no flag back, keeps what the trip did to it. -/
theorem SideTripped.then_stands {side : Side} {s t u : State} (h : SideTripped side s t) (k : SideStands side t u)
    (hc : ∃ f, u.doors.causes = t.doors.causes ||| f) (hg : FlagsGrow t u) : SideTripped side s u :=
  ⟨fun hf => (h.1 hf).trans k, fun hf => (h.2 hf).then_other k hc hg⟩

theorem SideTripped.of_doors {side : Side} {s t u : State} (hd : t.doors = s.doors) (hp : t.params = s.params)
    (h : SideTripped side t u) : SideTripped side s u :=
  ⟨fun hf => (SideStands.of_doors hd).trans (h.1 (by rw [hd]; exact hf)),
    fun hf => (h.2 (by rw [hd]; exact hf)).of_stands (.of_doors hd) hp⟩

/-- After a trip no release is left in force (R138). -/
theorem SideTripped.unforced {side : Side} {s t : State} (h : SideTripped side s t) :
    (getRelease t.doors side).inForce = false := by
  cases hf : (getRelease s.doors side).inForce with
  | false => rw [(h.1 hf).1]; exact hf
  | true => exact (h.2 hf).unforced

namespace Supervised

variable {s t u : State}

theorem refl (s : State) : Supervised s s := ⟨rfl, rfl, .refl s, rfl, .inl ⟨rfl, rfl⟩⟩

theorem trans (h : Supervised s t) (k : Supervised t u) : Supervised s u where
  params := k.params.trans h.params
  dir := k.dir.trans h.dir
  grows := h.grows.trans k.grows
  emergency := k.emergency.trans h.emergency
  doors := by
    rcases h.doors with ⟨hd, hm⟩ | ⟨hn, hm, hside⟩ <;> rcases k.doors with ⟨kd, km⟩ | ⟨kn, km, kside⟩
    · exact .inl ⟨kd.trans hd, km.trans hm⟩
    · exact .inr ⟨hm ▸ kn, km, fun side hs => (kside side hs).of_doors hd h.params⟩
    · exact .inr ⟨hn, km.trans hm, fun side hs =>
        (hside side hs).then_stands (.of_doors kd) ⟨0, by rw [kd]; simp⟩ k.grows⟩
    · exact absurd hm kn

/-- The supervisor's records written, the mode and the direction as they were. -/
theorem of_sup (x : Supervisor) (hd : x.dir = s.sup.dir) (hm : x.mode = s.sup.mode) : Supervised s (s.setSup x) :=
  ⟨rfl, hd, .of_link rfl, rfl, .inl ⟨rfl, hm⟩⟩

end Supervised

theorem trip_supervised (c : TripCause) {s : State} (hm : s.sup.mode ≠ .tripped) : Supervised s (trip c s) := by
  let x : Supervisor := { s.sup with trip := some ⟨c, s.sup.mode, pMm s.odo, s.restr.clock⟩, modeBefore := s.sup.mode }
  have h : Supervised s (s.setSup x) := .of_sup x rfl rfl
  have hsup : (trip c s).sup = (entered .tripped (s.setSup x)).sup := changeMode_sup .tripped (s.setSup x)
  have hent := entered_sup .tripped (s.setSup x)
  let u := retestHeld (entered .tripped (s.setSup x))
  have hus : u.sup = (entered .tripped (s.setSup x)).sup := retestHeld_frame _ .sup (by decide)
  have hud : u.doors = s.doors :=
    Eq.trans (retestHeld_frame _ .doors (by decide)) (entered_frame .tripped (s.setSup x) .doors (by decide))
  have hup : u.params = s.params :=
    Eq.trans (retestHeld_frame _ .params (by decide)) (entered_frame .tripped (s.setSup x) .params (by decide))
  have htd : (trip c s).doors = (retestReleases u).doors :=
    changeMode_then_frame .tripped (s.setSup x) .doors (by decide)
  have hg : FlagsGrow (retestReleases u) (trip c s) := changeMode_then_grows .tripped (s.setSup x)
  have hmode : u.sup.mode = .tripped := by rw [hus, hent]
  refine ⟨trip_frame c s .params (by decide), ?_, changeMode_grows .tripped (s.setSup x), ?_, .inr ⟨hm, ?_, ?_⟩⟩
  · rw [hsup, hent]; rfl
  · exact (changeMode_entriesKept .tripped (s.setSup x)).doors
  · rw [hsup, hent]
  · intro side hs
    obtain ⟨hun, hfo⟩ := retestReleases_side hs u
    have hcheck : releaseCheck side u.odo.sample.state u = .mode :=
      (releaseCheck_spec hs _).1 (by rw [hmode]; decide) (by rw [hmode]; decide)
    have hside : SideTripped side u (retestReleases u) := ⟨hun, fun hf => (hfo hf).2 _ hcheck (by decide)⟩
    exact (hside.of_doors hud hup).then_stands (.of_doors htd) ⟨0, by rw [htd]; simp⟩ hg

theorem tripIf_supervised (b : Bool) (c : TripCause) (s : State) : Supervised s (tripIf b c s) := by
  unfold tripIf
  split
  case isTrue h =>
    refine trip_supervised c fun hm => ?_
    simp [canTrip, hm] at h
  case isFalse => exact .refl s

theorem stageRollback_supervised (s : State) : Supervised s (stageRollback s) := by
  unfold stageRollback
  split
  · exact .refl s
  · exact .of_sup _ rfl rfl

theorem stageTrip_supervised (s : State) : Supervised s (stageTrip s) := by
  unfold stageTrip
  split
  · exact .refl s
  · exact tripIf_supervised true _ s

theorem stageStandstill_supervised (s : State) : Supervised s (stageStandstill s) := by
  unfold stageStandstill
  split
  · exact .of_sup _ rfl rfl
  · exact .refl s

theorem evaluate_supervised (s : State) : Supervised s (evaluate s) := by
  unfold evaluate
  split
  · exact .of_sup _ rfl rfl
  · exact .of_sup _ rfl rfl

theorem stageLevel_supervised (s : State) : Supervised s (stageLevel s) := by
  unfold stageLevel
  dsimp only
  split
  · exact .refl s
  · exact ⟨rfl, rfl, setFlag_grows .interventionChanged (s.setSup _), rfl, .inl ⟨rfl, rfl⟩⟩

theorem writeSupervisor_supervised (s : State) : Supervised s (writeSupervisor s) := by
  obtain ⟨-, hothers, -⟩ :=
    writeDemand_spec .supervisor (supervisorDemand s.params s.sup s.brakes.supervisor) s
  exact ⟨rfl, rfl, .of_frame (writeSupervisor_frame s), congrArg Demand.emergency (hothers .doors (by decide)),
    .inl ⟨rfl, rfl⟩⟩

theorem stageAct_supervised (s : State) : Supervised s (stageAct s) := by
  have h : Supervised s (stageIntervene (stageLevel s)) :=
    ((stageLevel_supervised s).trans (tripIf_supervised _ _ _)).trans (tripIf_supervised _ _ _)
  unfold stageAct
  dsimp only
  split
  · exact h
  · exact h.trans (writeSupervisor_supervised _)

theorem superviseSample_supervised (s : State) : Supervised s (superviseSample s) :=
  (((stageRollback_supervised s).trans (stageTrip_supervised _)).trans (stageStandstill_supervised _)).trans
    ((evaluate_supervised _).trans (stageAct_supervised _))

theorem issueSample_supervised (s : State) : Supervised s (issueSample s) :=
  ⟨rfl, rfl, .of_link rfl, rfl, .inl ⟨rfl, rfl⟩⟩

/-- A sample by its takers: the state the supervisor hands on, then the table, the releases and the interlock (R33). -/
theorem takeSample_takers (s : State) :
    ∃ w, Supervised s w ∧ w.restr = s.restr ∧ w.odo = (issueSample s).odo
      ∧ takeSample s = judgeInterlock (retestReleases (retirePassed w)) := by
  have fr := superviseSample_frame (issueSample s)
  have hrestr : (superviseSample (issueSample s)).restr = s.restr := fr .restr (by decide)
  have hodo : (superviseSample (issueSample s)).odo = (issueSample s).odo := fr .odo (by decide)
  exact ⟨superviseSample (issueSample s), (issueSample_supervised s).trans (superviseSample_supervised _), hrestr, hodo,
    rfl⟩

/-! ### The interlock (R140, R141) -/

/-- The interlock adds the DOOR_MOTION cause at most. -/
theorem judgeInterlock_told (s : State) :
    ((judgeInterlock s).doors = s.doors ∧ (judgeInterlock s).link = s.link)
    ∨ ((judgeInterlock s).doors = { s.doors with causes := s.doors.causes ||| doorCauseBit .doorMotion }
        ∧ (judgeInterlock s).link = flagged .doorEvent s.link) := by
  have hw : OnlyChanges [.brakes] s (writeDoorsLevel s) := writeDemand_frame .doors _ s
  have hl : OnlyChanges [.brakes] s (latchDemand .doors (writeDoorsLevel s)) := hw.trans (latchDemand_frame .doors _)
  have hwrite : (writeDoorsLevel s).doors = s.doors ∧ (writeDoorsLevel s).link = s.link :=
    ⟨hw .doors (by decide), hw .link (by decide)⟩
  unfold judgeInterlock
  dsimp only
  split
  · split
    · exact .inl hwrite
    · refine .inr ⟨?_, ?_⟩
      · rw [addDoorCause_doors, hl .doors (by decide)]
      · rw [addDoorCause_link, hl .link (by decide)]
  · exact .inl hwrite

theorem judgeInterlock_doors (s : State) :
    (judgeInterlock s).doors.closed = s.doors.closed
    ∧ (∀ side, SideStands side s (judgeInterlock s))
    ∧ (∃ f, (judgeInterlock s).doors.causes = s.doors.causes ||| f) ∧ FlagsGrow s (judgeInterlock s) := by
  rcases judgeInterlock_told s with ⟨hd, hl⟩ | ⟨hd, hl⟩
  · exact ⟨by rw [hd], fun _ => .of_doors hd, ⟨0, by rw [hd]; simp⟩, .of_link hl⟩
  · exact ⟨by rw [hd], fun side => ⟨getRelease_congr (by rw [hd]) (by rw [hd]) side, fun _ _ => by rw [hd]⟩,
      ⟨_, by rw [hd]⟩, .of_flagged hl⟩

/-- The DOORS entry after the interlock: its level, and the latch of a car that moves without being closed. -/
theorem judgeInterlock_entry (s : State) :
    let t := judgeInterlock s
    t.brakes.doors.level = (if s.odo.standstill = true ∧ s.doors.closed = false then s.params.sHold else 0)
    ∧ (s.odo.standstill = false → s.doors.closed = false → t.brakes.doors.emergency = .latched
        ∧ t.brakes.emergency = true ∧ t.brakes.effort = 100
        ∧ (s.brakes.doors.emergency ≠ .latched →
            t.doors.causes.getLsbD 3 = true ∧ t.link.flags.getLsbD (flagIndex .doorEvent) = true))
    ∧ (s.odo.standstill = true ∨ s.doors.closed = true → t.brakes.doors.emergency = s.brakes.doors.emergency) := by
  let d : Demand := { s.brakes.doors with level := doorsLevel s }
  have hlevel : doorsLevel s = if s.odo.standstill = true ∧ s.doors.closed = false then s.params.sHold else 0 := by
    simp [doorsLevel]
  have hd : (writeDoorsLevel s).brakes.doors = d := (writeDemand_spec .doors d s).1
  rw [← hlevel]
  intro t
  by_cases hmove : s.odo.standstill = false ∧ s.doors.closed = false
  · obtain ⟨h1, h2⟩ := hmove
    have hnot : ¬ (s.odo.standstill = true ∨ s.doors.closed = true) := by simp [h1, h2]
    by_cases hl : s.brakes.doors.emergency = .latched
    · have e : t = writeDoorsLevel s := by simp only [t, judgeInterlock, h1, h2, hl]; rfl
      obtain ⟨-, hem, heff, -⟩ := writeDemand_emergency .doors (d := d) (by rw [show d.emergency = _ from hl]; decide) s
      rw [e]
      exact ⟨congrArg Demand.level hd, fun _ _ => ⟨(congrArg Demand.emergency hd).trans hl, hem, heff, (absurd hl ·)⟩,
        (absurd · hnot)⟩
    · let w := writeDoorsLevel s
      have e : t = addDoorCause .doorMotion (latchDemand .doors w) := by
        simp only [t, judgeInterlock, h1, h2, hl]; rfl
      obtain ⟨hw, hem, heff, -⟩ := writeDemand_emergency .doors (d := { w.brakes.doors with emergency := .latched })
        Emergency.noConfusion w
      have hw' : t.brakes.doors = { w.brakes.doors with emergency := .latched } := by rw [e]; exact hw
      refine ⟨?_, fun _ _ => ⟨?_, ?_, ?_, fun _ => ⟨?_, ?_⟩⟩, (absurd · hnot)⟩
      · rw [hw']; exact congrArg Demand.level hd
      · rw [hw']
      · rw [e]; exact hem
      · rw [e]; exact heff
      · rw [e]
        show (w.doors.causes ||| doorCauseBit .doorMotion).getLsbD 3 = true
        simp [doorCauseBit, doorCauseIndex]
      · rw [e]; exact setFlag_getLsbD .doorEvent _
  · have e : t = writeDoorsLevel s := if_neg (by simpa using hmove)
    rw [e]
    have hem : (writeDoorsLevel s).brakes.doors.emergency = d.emergency := congrArg Demand.emergency hd
    exact ⟨congrArg Demand.level hd, fun h1 h2 => absurd ⟨h1, h2⟩ hmove, fun _ => hem⟩

/-! ### The releases at a sample (R138) -/

theorem retestReleases_causes (s : State) : ∃ f, (retestReleases s).doors.causes = s.doors.causes ||| f := by
  obtain ⟨f, hf⟩ := (retestRelease_grows .left s).2
  obtain ⟨g, hg⟩ := (retestRelease_grows .right (retestRelease .left s)).2
  exact ⟨f ||| g, by rw [← BitVec.or_assoc, ← hf]; exact hg⟩

/-- What leaves a side alone afterwards keeps the re-test of its release. -/
theorem ReleaseRetested.then_stands {side : Side} {s t u : State} (h : ReleaseRetested side s t)
    (fr : OnlyChanges [.doors, .brakes, .link] t u) (k : SideStands side t u)
    (hc : ∃ f, u.doors.causes = t.doors.causes ||| f) (hg : FlagsGrow t u) : ReleaseRetested side s u := by
  have stays (x : SideStands side s t) : SideStands side s u := x.trans k
  have withdrawn {w : Withdrawal} (x : getRelease t.doors side = ⟨false, false, none, w⟩
      ∧ t.doors.causes.getLsbD 2 = true ∧ t.link.flags.getLsbD (flagIndex .doorEvent) = true
      ∧ ∀ id, leafSide id = side → CloseTaken t.params (getLeaf s.doors.leaves id) (getLeaf t.doors.leaves id)) :
      getRelease u.doors side = ⟨false, false, none, w⟩
      ∧ u.doors.causes.getLsbD 2 = true ∧ u.link.flags.getLsbD (flagIndex .doorEvent) = true
      ∧ ∀ id, leafSide id = side → CloseTaken t.params (getLeaf s.doors.leaves id) (getLeaf u.doors.leaves id) := by
    obtain ⟨x1, x2, x3, x4⟩ := x
    obtain ⟨f, hf⟩ := hc
    exact ⟨k.1.trans x1, by rw [hf]; simp [x2], hg.getLsbD x3, fun id hid => by rw [k.2 id hid]; exact x4 id hid⟩
  unfold ReleaseRetested at h ⊢
  rw [fr .odo (by decide), fr .params (by decide), fr .sup (by decide), fr .window (by decide), fr .line (by decide),
    fr .restr (by decide)]
  obtain ⟨hun, hfo⟩ := h
  refine ⟨fun hf => stays (hun hf), fun hf => ?_⟩
  obtain ⟨hmode, hrun⟩ := hfo hf
  refine ⟨fun h1 h2 => withdrawn (hmode h1 h2), fun hm => ?_⟩
  obtain ⟨hstill, hrest⟩ := hrun hm
  refine ⟨fun h1 => withdrawn (hstill h1), fun h1 => ?_⟩
  obtain ⟨c1, c2, c3, c4, c5⟩ := hrest h1
  exact ⟨fun a b => withdrawn (c1 a b), fun a b c => withdrawn (c2 a b c), fun a b c d => withdrawn (c3 a b c d),
    fun a b c => withdrawn (c4 a b c), fun a b => stays (c5 a b)⟩

/-- A trip's withdrawal is the re-test's first check (R136, R138). -/
theorem SideTripped.retested {side : Side} {s t : State} (h : SideTripped side s t) (hp : t.params = s.params)
    (hm : t.sup.mode = .tripped) : ReleaseRetested side s t := by
  refine ⟨h.1, fun hf => ⟨fun _ _ => ?_, fun hrun => ?_⟩⟩
  · obtain ⟨h1, h2, h3, h4⟩ := h.2 hf
    exact ⟨h1, h2, h3, hp.symm ▸ h4⟩
  · rw [hm] at hrun
    exact absurd hrun (by decide)

theorem takeSample_retested (s : State) (side : Side) (hs : side ≠ .both) : ReleaseRetested side s (takeSample s) := by
  obtain ⟨w, hw, -, -, e⟩ := takeSample_takers s
  have fru := retirePassed_frame w
  have gru := retirePassed_grows w
  generalize retirePassed w = u at e fru gru
  have frv := retestReleases_frame u
  obtain ⟨-, hstands, hcauses, hgrows⟩ := judgeInterlock_doors (retestReleases u)
  have frt := judgeInterlock_frame (retestReleases u)
  rw [← e] at hstands hcauses hgrows frt
  have hud : u.doors = w.doors := fru .doors (by decide)
  rcases hw.doors with ⟨hd, -⟩ | ⟨-, hm, hside⟩
  · have hv : ReleaseRetested side s (retestReleases u) :=
      retestReleases_retested (u := u) (hud.trans hd) rfl (fun _ h => h) frv (by decide) side hs
    exact hv.then_stands frt (hstands side) hcauses hgrows
  · have hu : SideTripped side s u := (hside side hs).then_stands (.of_doors hud) ⟨0, by rw [hud]; simp⟩ gru
    have hv : SideTripped side s (retestReleases u) :=
      hu.then_stands ((retestReleases_side hs u).1 hu.unforced) (retestReleases_causes u) (retestReleases_grows u)
    have hsup : (takeSample s).sup = w.sup :=
      Eq.trans (frt .sup (by decide)) (Eq.trans (frv .sup (by decide)) (fru .sup (by decide)))
    exact (hv.then_stands (hstands side) hcauses hgrows).retested (takeSample_frame s .params (by decide))
      (by rw [hsup]; exact hm)

/-- The DOORS entry at a sample (R140, R141): a trip leaves its emergency demand alone. -/
theorem takeSample_entry (s : State) :
    let t := takeSample s
    t.brakes.doors.level = (if t.odo.standstill = true ∧ t.doors.closed = false then s.params.sHold else 0)
    ∧ (t.odo.standstill = false → t.doors.closed = false → t.brakes.doors.emergency = .latched
        ∧ t.brakes.emergency = true ∧ t.brakes.effort = 100
        ∧ (s.brakes.doors.emergency ≠ .latched →
            t.doors.causes.getLsbD 3 = true ∧ t.link.flags.getLsbD (flagIndex .doorEvent) = true))
    ∧ (t.odo.standstill = true ∨ t.doors.closed = true →
        t.brakes.doors.emergency = s.brakes.doors.emergency) := by
  obtain ⟨w, hw, -, -, e⟩ := takeSample_takers s
  have fru := retirePassed_frame w
  generalize retirePassed w = u at e fru
  have frv := retestReleases_frame u
  have hlevel := (retestReleases_levelWritten u).emergency
  generalize retestReleases u = v at e frv hlevel
  have hub : u.brakes = w.brakes := fru .brakes (by decide)
  have hvp : v.params = s.params :=
    Eq.trans (frv .params (by decide)) (Eq.trans (fru .params (by decide)) hw.params)
  have hem : v.brakes.doors.emergency = s.brakes.doors.emergency := by rw [hlevel, hub, hw.emergency]
  have hodo : (takeSample s).odo = v.odo := by rw [e]; exact judgeInterlock_frame v .odo (by decide)
  have hclosed : (takeSample s).doors.closed = v.doors.closed := by rw [e]; exact (judgeInterlock_doors v).1
  have h := judgeInterlock_entry v
  rw [← e, ← hodo, ← hclosed, hvp, hem] at h
  exact h

/-- The sample's fields, standstill and the records of the next period (R33, R34). -/
theorem takeSample_odo (s : State) :
    let v : Int := s.odo.travel.tdiv s.odo.period
    let quiet := min (s.odo.quiet + 1) s.params.nStill
    let still := if v.natAbs < s.params.vStill then s.odo.standstill || quiet == s.params.nStill else false
    (takeSample s).odo = { s.odo with
      sample := { p := s.odo.pUm / 1000, u := (s.odo.uUm + 999) / 1000, v := v, travel := s.odo.travel,
                  motion := if 0 < s.odo.travel then .up else if s.odo.travel < 0 then .down else .none,
                  standstill := still, state := s.odo.state, cur := s.odo.cur },
      standstill := still, quiet := if v.natAbs < s.params.vStill then quiet else 0,
      travel := 0, period := s.params.tOdo, sampleTimer := s.params.tOdo } := by
  intro v quiet still
  have hst : judgeStill s.params v.natAbs s.odo = (still, if v.natAbs < s.params.vStill then quiet else 0) := by
    unfold judgeStill
    by_cases h : v.natAbs < s.params.vStill
    · simp only [still, if_pos h]; rfl
    · simp only [still, if_neg h]
  have hi : (issueSample s).odo = { s.odo with
      sample := { p := pMm s.odo, u := uMm s.odo, v := v, travel := s.odo.travel, motion := motionOf s.odo.travel,
                  standstill := (judgeStill s.params v.natAbs s.odo).1, state := s.odo.state, cur := s.odo.cur },
      standstill := (judgeStill s.params v.natAbs s.odo).1, quiet := (judgeStill s.params v.natAbs s.odo).2,
      travel := 0, period := s.params.tOdo, sampleTimer := s.params.tOdo } := rfl
  rw [sampleTakers_frame s .odo (by decide), hi, hst]
  rfl

/-- Retirement by passage at a sample (R63): the supervisor's part before it touches neither the table nor the
direction. -/
theorem takeSample_passage (s : State) {k : Nat} (hk : k < 32) :
    (takeSample s).restr.table[k]? =
      match s.restr.table[k]? with
      | some (some e) =>
        if (s.odo.state = .valid ∨ s.odo.state = .degraded) ∧ (e.issuer = .valley ∨ e.issuer = .car)
            ∧ (e.kind = .speed ∨ e.kind = .door)
            ∧ ((s.sup.dir = .up ∧ e.dir ≠ .down
                  ∧ (e.hi : Int) < (s.odo.pUm / 1000 : Nat) - (s.params.L : Int) - ((s.odo.uUm + 999) / 1000 : Nat))
              ∨ (s.sup.dir = .down ∧ e.dir ≠ .up
                  ∧ s.odo.pUm / 1000 + (s.odo.uUm + 999) / 1000 < e.lo)) then
          some none
        else some (some e)
      | x => x := by
  obtain ⟨w, hw, hwr, hwo, e⟩ := takeSample_takers s
  have hrestr : (takeSample s).restr = (retirePassed w).restr := by
    rw [e]
    exact Eq.trans (judgeInterlock_frame (retestReleases (retirePassed w)) .restr (by decide))
      (retestReleases_frame (retirePassed w) .restr (by decide))
  have hstate : w.odo.sample.state = s.odo.state := by rw [hwo]; rfl
  have hp : w.odo.sample.p = s.odo.pUm / 1000 := by rw [hwo]; rfl
  have hu : w.odo.sample.u = (s.odo.uUm + 999) / 1000 := by rw [hwo]; rfl
  rw [hrestr, retirePassed_get w hk, hstate, hw.dir, hp, hu, hwr, hw.params]
  rcases s.restr.table[k]? with _ | _ | e
  · split <;> rfl
  · split <;> rfl
  · dsimp only
    by_cases hst : s.odo.state = .valid ∨ s.odo.state = .degraded
    · rw [if_pos hst]
      simp only [Option.map_some, Option.bind_some, passageChange_cases, hst, true_and]
      split <;> rfl
    · simp [hst]

end Sys2Proof.Machine

namespace Sys2Proof.Proofs

set_option Elab.async false

open Machine

/-- Settles O24: the sample is issued, and each of its takers has its own lemma. -/
theorem positionSamples : Obligations.PositionSamples := by
  unfold Obligations.PositionSamples
  intro s
  obtain ⟨hlevel, hmove, hrest⟩ := takeSample_entry s
  exact ⟨takeSample s, rfl, takeSample_frame s, takeSample_odo s, fun _ k hk => takeSample_passage s hk,
    takeSample_retested s, hlevel, hmove, hrest⟩

end Sys2Proof.Proofs
end

section
/-! PROOFS. The Restriction Table as the later proofs read it: its lookups, the places of its entries and that no two
share issuer and id, each said entry by entry (R53, R54). -/

namespace Sys2Proof.Machine

set_option Elab.async false

/-! ### Lookups (R53, R54) -/

theorem findEntry_eq_some_iff (issuer : Issuer) (id : Nat) (r : Restrictions) (i : Nat) :
    findEntry issuer id r = some i ↔
      (∃ e, r.table[i]? = some (some e) ∧ e.issuer = issuer ∧ e.id = id)
        ∧ ∀ k < i, ∀ e, r.table[k]? = some (some e) → ¬ (e.issuer = issuer ∧ e.id = id) := by
  have named (o : Option Restriction) :
      o.any (fun e => e.issuer == issuer && e.id == id) = true ↔ ∃ e, o = some e ∧ e.issuer = issuer ∧ e.id = id := by
    cases o <;> simp
  unfold findEntry
  rw [List.findIdx?_eq_some_iff_getElem]
  simp only [named]
  constructor
  · rintro ⟨hi, ⟨e, he, hn⟩, hlt⟩
    refine ⟨⟨e, by rw [List.getElem?_eq_getElem hi, he], hn⟩, fun k hk f hf hnf => hlt k hk ⟨f, ?_, hnf⟩⟩
    rw [List.getElem?_eq_getElem (hk.trans hi)] at hf
    exact Option.some.inj hf
  · rintro ⟨⟨e, he, hn⟩, hlt⟩
    obtain ⟨hi, he'⟩ := List.getElem?_eq_some_iff.1 he
    refine ⟨hi, ⟨e, he', hn⟩, fun k hk => ?_⟩
    rintro ⟨f, hf, hnf⟩
    exact hlt k hk f (by rw [List.getElem?_eq_getElem (hk.trans hi), hf]) hnf

theorem findEntry_eq_none_iff (issuer : Issuer) (id : Nat) (r : Restrictions) :
    findEntry issuer id r = none ↔ ∀ e, some e ∈ r.table → ¬ (e.issuer = issuer ∧ e.id = id) := by
  unfold findEntry
  rw [List.findIdx?_eq_none_iff]
  constructor
  · intro h e he hn
    simpa [hn] using h _ he
  · intro h o ho
    cases o with
    | none => rfl
    | some e => simpa using h e ho

/-- The entry a lookup finds. -/
theorem findEntry_entry {issuer : Issuer} {id i : Nat} {r : Restrictions} (h : findEntry issuer id r = some i) :
    ∃ e, r.table[i]? = some (some e) ∧ e.issuer = issuer ∧ e.id = id :=
  ((findEntry_eq_some_iff issuer id r i).1 h).1

theorem table_getD {r : Restrictions} {i : Nat} {o : Option Restriction} (h : r.table[i]? = some o) :
    r.table.getD i none = o := by rw [List.getD_eq_getElem?_getD, h]; rfl

theorem lowestFree_eq_some_iff (r : Restrictions) (i : Nat) :
    lowestFree r = some i ↔ i < 30 ∧ r.table[i]? = some none ∧ ∀ k < i, r.table[k]? ≠ some none := by
  unfold lowestFree
  rw [List.findIdx?_eq_some_iff_getElem]
  simp only [List.length_take, List.getElem_take, Option.isNone_iff_eq_none, lt_min_iff]
  constructor
  · rintro ⟨⟨h30, hi⟩, he, hlt⟩
    refine ⟨h30, by rw [List.getElem?_eq_getElem hi, he], fun k hk hf => hlt k hk ?_⟩
    rw [List.getElem?_eq_getElem (hk.trans hi)] at hf
    exact Option.some.inj hf
  · rintro ⟨h30, he, hlt⟩
    obtain ⟨hi, he'⟩ := List.getElem?_eq_some_iff.1 he
    exact ⟨⟨h30, hi⟩, he', fun k hk hf => hlt k hk (by rw [List.getElem?_eq_getElem (hk.trans hi), hf])⟩

theorem lowestFree_eq_none_iff (r : Restrictions) : lowestFree r = none ↔ ∀ i < 30, r.table[i]? ≠ some none := by
  unfold lowestFree
  simp only [List.findIdx?_eq_none_iff, List.mem_take_iff_getElem, forall_exists_index, lt_min_iff]
  constructor
  · intro h i hi he
    obtain ⟨hl, he'⟩ := List.getElem?_eq_some_iff.1 he
    simpa [he'] using h _ i ⟨hi, hl⟩ rfl
  · rintro h o i ⟨h30, hl⟩ rfl
    have := h i h30
    rw [List.getElem?_eq_getElem hl] at this
    cases ho : r.table[i] with
    | none => simp [ho] at this
    | some e => rfl

/-! ### Places (R53, R65) -/

theorem tablePlaced_iff (s : State) :
    TablePlaced s ↔ s.restr.table.length = 32
      ∧ ∀ k e, s.restr.table[k]? = some (some e) → entryPlaced (some e, k) = true := by
  unfold TablePlaced
  refine and_congr_right fun _ => ?_
  rw [List.all_eq_true]
  constructor
  · exact fun h k e he => h (some e, k) (List.mem_zipIdx_iff_getElem?.2 he)
  · rintro h ⟨o, k⟩ ho
    cases o with
    | none => rfl
    | some e => exact h k e (List.mem_zipIdx_iff_getElem?.1 ho)

theorem partIndex_injective {w x : PartEntry} (h : partIndex w = partIndex x) : w = x := by
  cases w <;> cases x <;> first | rfl | cases h

theorem partId_injective {w x : PartEntry} (h : partId w = partId x) : w = x := by
  cases w <;> cases x <;> first | rfl | cases h

theorem partIndex_lt (w : PartEntry) : 30 ≤ partIndex w ∧ partIndex w < 32 := by cases w <;> decide

/-- The place of a part-issued entry holds that entry alone. -/
theorem entryPlaced_part (w : PartEntry) (e : Restriction) :
    entryPlaced (some e, partIndex w) = isPartEntry w e := by cases w <;> rfl

/-- The other places hold entries of the valley and of the car. -/
theorem entryPlaced_other {k : Nat} (h : ∀ w, k ≠ partIndex w) (e : Restriction) :
    entryPlaced (some e, k) = (e.issuer != .part) := by
  have h30 : k ≠ 30 := h .radioLoss
  have h31 : k ≠ 31 := h .odoDegraded
  simp [entryPlaced, h30, h31]

theorem isPartEntry_iff (w : PartEntry) (e : Restriction) :
    isPartEntry w e = true ↔
      e.issuer = .part ∧ e.id = partId w ∧ e.kind = .speed ∧ e.active = true ∧ e.activation = none
        ∧ e.expiry = none := by
  simp [isPartEntry, and_assoc]

/-- A placed entry is the part's exactly in the place of the part-issued entry of its id. -/
theorem placed_part {k : Nat} {e : Restriction} (h : entryPlaced (some e, k) = true) (hp : e.issuer = .part) :
    ∃ w, k = partIndex w ∧ e.id = partId w := by
  by_contra hno
  have hk (w : PartEntry) : k ≠ partIndex w := by
    rintro rfl
    rw [entryPlaced_part, isPartEntry_iff] at h
    exact hno ⟨w, rfl, h.2.1⟩
  rw [entryPlaced_other hk, hp] at h
  cases h

/-- An entry of the valley or the car has none of the part's places. -/
theorem placed_other {k : Nat} {e : Restriction} (h : entryPlaced (some e, k) = true) (hp : e.issuer ≠ .part)
    (w : PartEntry) : k ≠ partIndex w := by
  rintro rfl
  rw [entryPlaced_part, isPartEntry_iff] at h
  exact hp h.1

/-- Where an entry is placed, so is any that agrees with it in what a place asks for. -/
theorem placed_of_same {k : Nat} {e f : Restriction} (h : entryPlaced (some e, k) = true) (hi : f.issuer = e.issuer)
    (hw : ∀ w, isPartEntry w e = true → isPartEntry w f = true) : entryPlaced (some f, k) = true := by
  by_cases hk : ∃ w, k = partIndex w
  · obtain ⟨w, rfl⟩ := hk
    rw [entryPlaced_part] at h ⊢
    exact hw w h
  · have hk' (w : PartEntry) : k ≠ partIndex w := fun e => hk ⟨w, e⟩
    rw [entryPlaced_other hk'] at h ⊢
    rw [hi]; exact h

/-! ### No two entries with one issuer and id (R54) -/

theorem entriesDistinct_iff (s : State) :
    EntriesDistinct s ↔ ∀ (i j : Nat) (e f : Restriction), s.restr.table[i]? = some (some e) →
      s.restr.table[j]? = some (some f) →
      e.issuer = f.issuer → e.id = f.id → i = j := by
  unfold EntriesDistinct List.Nodup
  rw [List.pairwise_filterMap, List.pairwise_iff_getElem]
  have ordered : (∀ i j (hi : i < s.restr.table.length) (hj : j < s.restr.table.length), i < j →
      ∀ b, s.restr.table[i].map (fun e => (e.issuer, e.id)) = some b →
      ∀ c, s.restr.table[j].map (fun e => (e.issuer, e.id)) = some c → b ≠ c) ↔
      ∀ (i j : Nat) (e f : Restriction), i < j → s.restr.table[i]? = some (some e) → s.restr.table[j]? = some (some f) →
        ¬ (e.issuer = f.issuer ∧ e.id = f.id) := by
    constructor
    · intro h i j e f hij he hf hn
      obtain ⟨hi, he⟩ := List.getElem?_eq_some_iff.1 he
      obtain ⟨hj, hf⟩ := List.getElem?_eq_some_iff.1 hf
      exact h i j hi hj hij _ (by rw [he]; rfl) _ (by rw [hf]; rfl) (Prod.ext hn.1 hn.2)
    · intro h i j hi hj hij b hb c hc hbc
      obtain ⟨e, he, rfl⟩ := Option.map_eq_some_iff.1 hb
      obtain ⟨f, hf, rfl⟩ := Option.map_eq_some_iff.1 hc
      refine h i j e f hij ?_ ?_ (Prod.mk.inj hbc)
      · rw [List.getElem?_eq_getElem hi, he]
      · rw [List.getElem?_eq_getElem hj, hf]
  refine Iff.trans ordered ⟨fun h i j e f he hf h1 h2 => ?_, fun h i j e f hij he hf hn => ?_⟩
  · rcases lt_trichotomy i j with hlt | rfl | hgt
    · exact absurd ⟨h1, h2⟩ (h i j e f hlt he hf)
    · rfl
    · exact absurd ⟨h1.symm, h2.symm⟩ (h j i f e hgt hf he)
  · exact absurd (h i j e f he hf hn.1 hn.2) hij.ne

end Sys2Proof.Machine
end

section
/-! PROOFS. What a step may do to the Restriction Table (R53, R54, R68): one entry written or made FREE, or every entry
judged by itself; each keeps the places, the distinct names and the bounds of the log. -/

namespace Sys2Proof.Machine

set_option Elab.async false

/-- What the table owes by itself: its places, its distinct names and the bounds of its log go over to the second
state. -/
structure TableKept (s t : State) : Prop where
  placed : TablePlaced s → TablePlaced t
  distinct : TablePlaced s → EntriesDistinct s → EntriesDistinct t
  log : LogBounded s → LogBounded t

namespace TableKept

variable {s t u : State} {ch : ChangeKind} {cause : Option RetireCause} {i : Nat} {x e old : Restriction}

theorem of_table (h : t.restr.table = s.restr.table) (hl : LogBounded s → LogBounded t) : TableKept s t := by
  refine ⟨fun k => ?_, fun _ k => ?_, hl⟩
  · unfold TablePlaced; rw [h]; exact k
  · unfold EntriesDistinct; rw [h]; exact k

theorem refl (s : State) : TableKept s s := of_table rfl id

theorem trans (h : TableKept s t) (k : TableKept t u) : TableKept s u :=
  ⟨fun p => k.placed (h.placed p), fun p d => k.distinct (h.placed p) (h.distinct p d), fun l => k.log (h.log l)⟩

theorem log_of_logged {c : ChangeRec} (h : Logged c s.restr t.restr) (hs : LogBounded s) : LogBounded t := by
  obtain ⟨hlen, hover⟩ := hs
  obtain ⟨hlog, hover'⟩ := h
  refine ⟨?_, ?_⟩
  · rw [hlog, List.length_append, List.length_singleton]
    split
    · omega
    · rw [List.length_drop]; omega
  · rw [hover']; split <;> omega

/-- An entry made FREE. -/
theorem of_retired (h : EntryChanged ch cause i x none s t) : TableKept s t := by
  obtain ⟨-, htab, -, -, hlog, -⟩ := h
  have hget {k : Nat} {e : Restriction} (he : t.restr.table[k]? = some (some e)) :
      s.restr.table[k]? = some (some e) := by
    rw [htab, List.getElem?_set] at he
    split at he
    · split at he <;> cases he
    · exact he
  refine ⟨fun hp => ?_, fun _ hd => ?_, log_of_logged hlog⟩
  · obtain ⟨hlen, hp⟩ := (tablePlaced_iff s).1 hp
    exact (tablePlaced_iff t).2 ⟨by rw [htab, List.length_set, hlen], fun k e he => hp k e (hget he)⟩
  · rw [entriesDistinct_iff] at hd ⊢
    exact fun j k e f he hf => hd j k e f (hget he) (hget hf)

/-- An entry written to a place of its own under a name that no other entry has. -/
theorem of_stored (h : EntryChanged ch cause i x (some e) s t)
    (hp : TablePlaced s → entryPlaced (some e, i) = true)
    (hn : TablePlaced s → EntriesDistinct s → ∀ k f, s.restr.table[k]? = some (some f) → f.issuer = e.issuer →
      f.id = e.id → k = i) : TableKept s t := by
  obtain ⟨-, htab, -, -, hlog, -⟩ := h
  have hget {k : Nat} {f : Restriction} (hf : t.restr.table[k]? = some (some f)) :
      (k = i ∧ f = e) ∨ (k ≠ i ∧ s.restr.table[k]? = some (some f)) := by
    rw [htab, List.getElem?_set] at hf
    split at hf
    · next hk =>
      split at hf
      · cases hf; exact .inl ⟨hk.symm, rfl⟩
      · cases hf
    · next hk => exact .inr ⟨Ne.symm hk, hf⟩
  refine ⟨fun hps => ?_, fun hps hd => ?_, log_of_logged hlog⟩
  · refine (tablePlaced_iff t).2 ⟨by rw [htab, List.length_set]; exact hps.1, fun k f hf => ?_⟩
    rcases hget hf with ⟨rfl, rfl⟩ | ⟨-, hf⟩
    · exact hp hps
    · exact ((tablePlaced_iff s).1 hps).2 k f hf
  · have hfresh := hn hps hd
    rw [entriesDistinct_iff] at hd ⊢
    intro j k f g hf hg h1 h2
    rcases hget hf with ⟨rfl, rfl⟩ | ⟨hj, hf⟩ <;> rcases hget hg with ⟨rfl, rfl⟩ | ⟨hk, hg⟩
    · rfl
    · exact (hfresh k g hg h1.symm h2.symm).symm
    · exact hfresh j f hf h1 h2
    · exact hd j k f g hf hg h1 h2

/-- An entry written over one of the same name. -/
theorem of_replaced (h : EntryChanged ch cause i x (some e) s t) (ho : s.restr.table[i]? = some (some old))
    (hi : e.issuer = old.issuer) (hid : e.id = old.id)
    (hw : ∀ w, isPartEntry w old = true → isPartEntry w e = true) : TableKept s t :=
  of_stored h (fun hp => placed_of_same (((tablePlaced_iff s).1 hp).2 i old ho) hi hw)
    fun _ hd k f hf h1 h2 => (entriesDistinct_iff s).1 hd k i f old hf ho (h1.trans hi) (h2.trans hid)

/-- Every entry judged by itself: it becomes FREE or keeps its name and what its place asks for. -/
theorem of_judged {f : Restriction → Option Restriction}
    (ht : s.restr.table.length = 32 → t.restr.table = s.restr.table.map (·.bind f))
    (hf : ∀ e e', f e = some e' → e'.issuer = e.issuer ∧ e'.id = e.id
      ∧ ∀ w, isPartEntry w e = true → isPartEntry w e' = true) (hl : LogBounded s → LogBounded t) : TableKept s t := by
  have hget (hs : s.restr.table.length = 32) {k : Nat} {e' : Restriction} (he : t.restr.table[k]? = some (some e')) :
      ∃ e, s.restr.table[k]? = some (some e) ∧ f e = some e' := by
    rw [ht hs, List.getElem?_map] at he
    obtain ⟨o, ho, hoe⟩ := Option.map_eq_some_iff.1 he
    obtain ⟨e, rfl, hfe⟩ := Option.bind_eq_some_iff.1 hoe
    exact ⟨e, ho, hfe⟩
  refine ⟨fun hp => ?_, fun hp hd => ?_, hl⟩
  · obtain ⟨hlen, hp⟩ := (tablePlaced_iff s).1 hp
    refine (tablePlaced_iff t).2 ⟨by rw [ht hlen, List.length_map, hlen], fun k e' he' => ?_⟩
    obtain ⟨e, he, hfe⟩ := hget hlen he'
    obtain ⟨hi, -, hw⟩ := hf e e' hfe
    exact placed_of_same (hp k e he) hi hw
  · rw [entriesDistinct_iff] at hd ⊢
    intro j k e' g' he' hg' h1 h2
    obtain ⟨e, he, hfe⟩ := hget hp.1 he'
    obtain ⟨g, hg, hfg⟩ := hget hp.1 hg'
    obtain ⟨ei, eid, -⟩ := hf e e' hfe
    obtain ⟨gi, gid, -⟩ := hf g g' hfg
    exact hd j k e g he hg (ei.symm.trans (h1.trans gi)) (eid.symm.trans (h2.trans gid))

end TableKept

/-! ### Changes taken together (R61, R63, R68) -/

/-- What an evaluation keeps of an entry that it does not retire. -/
theorem changedEntry_kept {f : Restriction → Option EntryChange} {e e' : Restriction}
    (h : changedEntry f e = some e') :
    e'.issuer = e.issuer ∧ e'.id = e.id ∧ ∀ w, isPartEntry w e = true → isPartEntry w e' = true := by
  unfold changedEntry at h
  split at h <;> cases h
  · exact ⟨rfl, rfl, fun _ hw => hw⟩
  · refine ⟨rfl, rfl, fun w hw => ?_⟩
    rw [isPartEntry_iff] at hw ⊢
    obtain ⟨hi, hid, hk, -, ha, hx⟩ := hw
    exact ⟨hi, hid, hk, rfl, ha, hx⟩

theorem changeAll_table (f : Restriction → Option EntryChange) {s : State} (h : s.restr.table.length = 32) :
    (changeAll f s).restr.table = s.restr.table.map (·.bind (changedEntry f)) := by
  refine List.ext_getElem? fun k => ?_
  rw [List.getElem?_map]
  by_cases hk : k < 32
  · exact changeAll_get f s hk
  · have hs : s.restr.table[k]? = none := List.getElem?_eq_none (by omega)
    rw [hs]
    unfold changeAll
    split
    · exact (changeAt_foldl_get f s.restr 32 k).trans (by rw [if_neg hk, hs]; rfl)
    · exact hs

/-- The change record an evaluation writes for the entry at an index (R61, R63, R68). -/
def changeRecord (f : Restriction → Option EntryChange) (r : Restrictions) (k : Nat) : Option ChangeRec :=
  (r.table.getD k none).bind fun e => (f e).map fun
    | .retire cause => ⟨.retired, some cause, some (e.issuer, e.id, e.kind, k), r.clock⟩
    | .activate => ⟨.activated, none, some (e.issuer, e.id, e.kind, k), r.clock⟩

/-- A run of change records taken by a log: the eight newest stand, and what was given up is counted to 255 (R68). -/
structure LogRuns (cs : List ChangeRec) (r r' : Restrictions) : Prop where
  log : r'.log = (r.log ++ cs).drop ((r.log ++ cs).length - 8)
  overflow : r'.overflow = min 255 (r.overflow + ((r.log ++ cs).length - 8))

theorem LogRuns.nil {r : Restrictions} (hl : r.log.length ≤ 8) (ho : r.overflow ≤ 255) : LogRuns [] r r := by
  have h0 : (r.log ++ []).length - 8 = 0 := by rw [List.append_nil]; omega
  exact ⟨by rw [h0]; simp, by rw [h0]; omega⟩

theorem LogRuns.bounded {cs : List ChangeRec} {r r' : Restrictions} (h : LogRuns cs r r') :
    r'.log.length ≤ 8 ∧ r'.overflow ≤ 255 := by
  rw [h.log, h.overflow, List.length_drop]
  omega

/-- One more record. -/
theorem LogRuns.push {cs : List ChangeRec} {c : ChangeRec} {r r' r'' : Restrictions} (h : LogRuns cs r r')
    (hc : Logged c r' r'') : LogRuns (cs ++ [c]) r r'' := by
  obtain ⟨hlog, hover⟩ := h
  obtain ⟨hlog', hover'⟩ := hc
  rw [hlog, List.length_drop] at hlog' hover'
  generalize hn : r.log ++ cs = l at hlog' hover' hover
  have happ : r.log ++ (cs ++ [c]) = l ++ [c] := by rw [← List.append_assoc, hn]
  by_cases hfull : l.length < 8
  · rw [if_pos (by omega)] at hlog' hover'
    rw [show l.length - 8 = 0 by omega] at hlog' hover
    constructor <;> rw [happ, List.length_append, List.length_singleton, show l.length + 1 - 8 = 0 by omega]
    · exact hlog'
    · exact hover'.trans hover
  · rw [if_neg (by omega)] at hlog' hover'
    constructor <;> rw [happ, List.length_append, List.length_singleton]
    · rw [hlog', List.drop_drop, List.drop_append_of_le_length (by omega)]
      congr 2; omega
    · rw [hover', hover]; omega

theorem changeAt_clock (f : Restriction → Option EntryChange) (r : Restrictions) (i : Nat) :
    (changeAt f r i).clock = r.clock ∧ (changeAt f r i).second = r.second := by
  unfold changeAt
  split
  · exact ⟨rfl, rfl⟩
  · split
    · exact ⟨rfl, rfl⟩
    · exact (logPush_rest _ _).2
    · exact (logPush_rest _ _).2

theorem changeAt_foldl_clock (f : Restriction → Option EntryChange) (l : List Nat) (r : Restrictions) :
    (l.foldl (changeAt f) r).clock = r.clock ∧ (l.foldl (changeAt f) r).second = r.second := by
  induction l generalizing r with
  | nil => exact ⟨rfl, rfl⟩
  | cons i l ih =>
    obtain ⟨hc, hs⟩ := ih (changeAt f r i)
    obtain ⟨hc', hs'⟩ := changeAt_clock f r i
    exact ⟨hc.trans hc', hs.trans hs'⟩

/-- A judged entry writes its record, when there is one. -/
theorem changeAt_logged (f : Restriction → Option EntryChange) (r : Restrictions) (i : Nat) :
    (changeRecord f r i = none → changeAt f r i = r)
      ∧ ∀ c, changeRecord f r i = some c → Logged c r (changeAt f r i) := by
  unfold changeRecord changeAt
  cases r.table.getD i none with
  | none => exact ⟨fun _ => rfl, fun c hc => nomatch hc⟩
  | some e =>
    rcases hf : f e with _ | _ | _
    · simp [hf]
    · simp only [Option.bind_some, hf, Option.map_some, reduceCtorEq, false_implies, true_and]
      rintro c ⟨⟩
      exact logPush_logged _ { r with table := r.table.set i none }
    · simp only [Option.bind_some, hf, Option.map_some, reduceCtorEq, false_implies, true_and]
      rintro c ⟨⟩
      exact logPush_logged _ { r with table := r.table.set i (some { e with active := true }) }

/-- The changes found in one evaluation write their records in index order (R61, R68). -/
theorem changeAt_foldl_runs (f : Restriction → Option EntryChange) {r : Restrictions} (hl : r.log.length ≤ 8)
    (ho : r.overflow ≤ 255) (n : Nat) :
    LogRuns ((List.range n).filterMap (changeRecord f r)) r ((List.range n).foldl (changeAt f) r) := by
  induction n with
  | zero => exact .nil hl ho
  | succ n ih =>
    rw [List.range_succ, List.foldl_append, List.foldl_cons, List.foldl_nil, List.filterMap_append]
    have hrec : changeRecord f ((List.range n).foldl (changeAt f) r) n = changeRecord f r n := by
      unfold changeRecord
      rw [List.getD_eq_getElem?_getD, changeAt_foldl_get, if_neg (lt_irrefl n), ← List.getD_eq_getElem?_getD,
        (changeAt_foldl_clock f _ r).1]
    obtain ⟨hnone, hsome⟩ := changeAt_logged f ((List.range n).foldl (changeAt f) r) n
    rw [hrec] at hnone hsome
    cases hc : changeRecord f r n with
    | none => rw [hnone hc]; simpa [hc] using ih
    | some c => simpa [hc] using ih.push (hsome c hc)

/-- No entry is changed exactly when no record is written. -/
theorem changeRecords_eq_nil {f : Restriction → Option EntryChange} {r : Restrictions} (h : r.table.length = 32) :
    (List.range 32).filterMap (changeRecord f r) = []
      ↔ ¬ r.table.any (fun o => (o.bind f).isSome) = true := by
  simp only [List.filterMap_eq_nil_iff, List.mem_range, List.any_eq_true, not_exists, not_and,
    Bool.not_eq_true, Option.isSome_eq_false_iff, Option.isNone_iff_eq_none]
  have hrec (k : Nat) : changeRecord f r k = none ↔ (r.table.getD k none).bind f = none := by
    unfold changeRecord
    cases r.table.getD k none with
    | none => simp
    | some e => cases hf : f e <;> simp [hf]
  constructor
  · intro hk o ho
    obtain ⟨k, hlt, rfl⟩ := List.getElem_of_mem ho
    have := (hrec k).1 (hk k (by omega))
    rwa [table_getD (List.getElem?_eq_getElem hlt)] at this
  · intro ho k hk
    rw [hrec, table_getD (List.getElem?_eq_getElem (by omega))]
    exact ho _ (List.getElem_mem _)

/-- An evaluation of the table: its records, one flag for all of them, and clock and timer untouched (R61, R63, R67,
R68). -/
theorem changeAll_runs (f : Restriction → Option EntryChange) {s : State} (h : s.restr.table.length = 32)
    (hl : LogBounded s) :
    LogRuns ((List.range 32).filterMap (changeRecord f s.restr)) s.restr (changeAll f s).restr
      ∧ (changeAll f s).link =
          (if (List.range 32).filterMap (changeRecord f s.restr) = [] then s.link
          else flagged .restrictionChanged s.link)
      ∧ (changeAll f s).restr.clock = s.restr.clock ∧ (changeAll f s).restr.second = s.restr.second := by
  have hruns := changeAt_foldl_runs f hl.1 hl.2 32
  have hclock := changeAt_foldl_clock f (List.range 32) s.restr
  unfold changeAll
  generalize (List.range 32).foldl (changeAt f) s.restr = r' at hruns hclock ⊢
  split
  · next hany =>
    rw [if_neg (by rw [changeRecords_eq_nil h]; exact fun hn => hn hany)]
    exact ⟨hruns, rfl, hclock⟩
  · next hany =>
    have hnil := (changeRecords_eq_nil (f := f) h).2 hany
    rw [hnil, if_pos rfl]
    exact ⟨.nil hl.1 hl.2, rfl, rfl, rfl⟩

theorem changeAll_kept (f : Restriction → Option EntryChange) (s : State) : TableKept s (changeAll f s) := by
  refine .of_judged (fun h => changeAll_table f h) (fun _ _ h => changedEntry_kept h) fun hl => ?_
  have hruns := (changeAt_foldl_runs f hl.1 hl.2 32).bounded
  unfold changeAll
  split
  · exact hruns
  · exact hl

end Sys2Proof.Machine
end

section
/-! PROOFS. The operations of the Restriction Table: what each can do to it, said once (R54 to R57, R61 to R66). -/

namespace Sys2Proof.Machine

set_option Elab.async false

/-! ### Put and withdrawal (R54 to R57) -/

theorem restrictionOfWire_name {issuer : Issuer} {w : PutWire} {e : Restriction}
    (h : restrictionOfWire issuer w = some e) : e.issuer = issuer ∧ e.id = w.id := by
  unfold restrictionOfWire at h
  split at h
  · split at h
    · cases h; exact ⟨rfl, rfl⟩
    · cases h
  · cases h

/-- What a put may do to the table: nothing, or, on a SEALED line, one of three changes of the issuer's own (R54,
R55). -/
inductive PutDone (issuer : Issuer) (s t : State) : Prop
  | unchanged (h : t = s)
  | inserted (i : Nat) (e : Restriction) (hs : isSealed s = true) (hi : i < 30) (he : e.issuer = issuer)
      (hfree : s.restr.table[i]? = some none) (hnone : findEntry issuer e.id s.restr = none)
      (h : EntryChanged .inserted none i e (some e) s t)
  | updated (i : Nat) (old e : Restriction) (hs : isSealed s = true) (he : e.issuer = issuer)
      (hold : s.restr.table[i]? = some (some old)) (hio : old.issuer = issuer) (hid : old.id = e.id)
      (h : EntryChanged .updated none i e (some e) s t)
  | expired (i : Nat) (old : Restriction) (hs : isSealed s = true) (hold : s.restr.table[i]? = some (some old))
      (hio : old.issuer = issuer) (h : EntryChanged .retired (some .expired) i old none s t)

theorem putChecked_done (e : Restriction) {s : State} (hs : isSealed s = true) :
    PutDone e.issuer s (putChecked e s).2 := by
  unfold putChecked
  split
  · next hnone =>
    split
    · exact .unchanged rfl
    · next i hi =>
      obtain ⟨h30, hfree, -⟩ := (lowestFree_eq_some_iff _ _).1 hi
      exact .inserted i { e with active := activeAt s.restr.clock e } hs h30 rfl hfree hnone (storeAt_changed _ _ _ s)
  · next i hi =>
    split
    · exact .unchanged rfl
    · obtain ⟨old, hold, hio, hid⟩ := findEntry_entry hi
      exact .updated i old { e with active := activeAt s.restr.clock e } hs rfl hold hio hid (storeAt_changed _ _ _ s)

theorem putRestriction_done (issuer : Issuer) (w : PutWire) (s : State) :
    PutDone issuer s (putRestriction issuer w s).2 := by
  unfold putRestriction
  split
  · exact .unchanged rfl
  · next hs =>
    rw [Bool.not_eq_true, Bool.not_eq_false'] at hs
    split
    · exact .unchanged rfl
    · next e he =>
      split
      · exact .unchanged rfl
      · split
        · split
          · exact .unchanged rfl
          · next i hi =>
            split
            · exact .unchanged rfl
            · next held hheld =>
              obtain ⟨old, hold, hio, -⟩ := findEntry_entry hi
              obtain rfl : old = held := Option.some.inj ((table_getD hold).symm.trans hheld)
              exact .expired i old hs hold hio (retireAt_changed _ _ _ s)
        · exact (restrictionOfWire_name he).1 ▸ putChecked_done e hs

/-- A withdrawal of an entry the issuer holds (R56, R57). -/
theorem withdrawEntry_found {issuer : Issuer} {id i : Nat} {e : Restriction} {s : State} (cause : RetireCause)
    (hi : findEntry issuer id s.restr = some i) (he : s.restr.table[i]? = some (some e)) :
    withdrawEntry issuer cause id s = (.done, restrChanged (retireAt cause i e s.restr) s) := by
  unfold withdrawEntry
  rw [hi]
  dsimp only
  rw [table_getD he]

theorem withdrawEntry_missing {issuer : Issuer} {id : Nat} {s : State} (cause : RetireCause)
    (h : findEntry issuer id s.restr = none) :
    withdrawEntry issuer cause id s =
      (if s.restr.table.any (·.any (·.id == id)) then .notOwner else .notFound, s) := by
  unfold withdrawEntry
  rw [h]
  dsimp only
  split <;> rfl

theorem withdrawEntry_done (issuer : Issuer) (cause : RetireCause) (id : Nat) (s : State) :
    (withdrawEntry issuer cause id s).2 = s
      ∨ ∃ i e, s.restr.table[i]? = some (some e) ∧ e.issuer = issuer
          ∧ EntryChanged .retired (some cause) i e none s (withdrawEntry issuer cause id s).2 := by
  cases hi : findEntry issuer id s.restr with
  | none => exact .inl (congrArg Prod.snd (withdrawEntry_missing cause hi))
  | some i =>
    obtain ⟨e, he, hio, -⟩ := findEntry_entry hi
    rw [withdrawEntry_found cause hi he]
    exact .inr ⟨i, e, he, hio, retireAt_changed cause i e s⟩

theorem putRestriction_tableKept {issuer : Issuer} (hp : issuer ≠ .part) (w : PutWire) (s : State) :
    TableKept s (putRestriction issuer w s).2 := by
  cases putRestriction_done issuer w s with
  | unchanged h => rw [h]; exact .refl s
  | inserted i e hs hi he hfree hnone h =>
    refine .of_stored h (fun _ => ?_) fun _ _ k f hf h1 h2 => ?_
    · rw [entryPlaced_other fun x => (hi.trans_le (partIndex_lt x).1).ne, he]
      simpa using hp
    · exact absurd ⟨h1.trans he, h2⟩ ((findEntry_eq_none_iff _ _ _).1 hnone f (List.mem_of_getElem? hf))
  | updated i old e hs he hold hio hid h =>
    refine .of_replaced h hold (he.trans hio.symm) hid.symm fun x hx => ?_
    exact absurd (hio.symm.trans ((isPartEntry_iff _ _).1 hx).1) hp
  | expired i old hs hold hio h => exact .of_retired h

theorem withdrawEntry_tableKept (issuer : Issuer) (cause : RetireCause) (id : Nat) (s : State) :
    TableKept s (withdrawEntry issuer cause id s).2 := by
  rcases withdrawEntry_done issuer cause id s with h | ⟨i, e, -, -, h⟩
  · rw [h]; exact .refl s
  · exact .of_retired h

/-! ### Part-issued entries (R65, R66) -/

/-- A part-issued entry is present. -/
def partHeld (w : PartEntry) (s : State) : Bool := (s.restr.table.getD (partIndex w) none).isSome

/-- What a judgement of a part-issued entry may do: nothing where cause and entry agree, or the line is not SEALED;
else the entry comes or goes (R66). -/
inductive PartJudged (w : PartEntry) (s t : State) : Prop
  | unsealed (hs : isSealed s = false) (h : t = s)
  | agrees (hw : partHeld w s = partCause w s) (h : t = s)
  | inserted (hs : isSealed s = true) (hw : partHeld w s = false) (hc : partCause w s = true)
      (h : EntryChanged .inserted none (partIndex w) (partRestriction w s) (some (partRestriction w s)) s t)
  | ended (e : Restriction) (hs : isSealed s = true) (hw : partHeld w s = true) (hc : partCause w s = false)
      (h : EntryChanged .retired (some .causeEnded) (partIndex w) e none s t)

theorem judgePart_judged (w : PartEntry) (s : State) : PartJudged w s (judgePart w s) := by
  unfold judgePart
  cases hs : isSealed s with
  | false => exact .unsealed hs rfl
  | true =>
    rw [if_pos rfl]
    cases hw : s.restr.table.getD (partIndex w) none with
    | none =>
      have hh : partHeld w s = false := by unfold partHeld; rw [hw]; rfl
      cases hc : partCause w s with
      | false => exact .agrees (hh.trans hc.symm) rfl
      | true => exact .inserted hs hh hc (storeAt_changed _ _ _ s)
    | some e =>
      have hh : partHeld w s = true := by unfold partHeld; rw [hw]; rfl
      cases hc : partCause w s with
      | false => exact .ended e hs hh hc (retireAt_changed _ _ _ s)
      | true => exact .agrees (hh.trans hc.symm) rfl

theorem isPartEntry_partRestriction (w : PartEntry) (s : State) : isPartEntry w (partRestriction w s) = true :=
  (isPartEntry_iff _ _).2 ⟨rfl, rfl, rfl, rfl, rfl, rfl⟩

theorem judgePart_tableKept (w : PartEntry) (s : State) : TableKept s (judgePart w s) := by
  cases judgePart_judged w s with
  | unsealed hs h => rw [h]; exact .refl s
  | agrees hw h => rw [h]; exact .refl s
  | ended e hs hw hc h => exact .of_retired h
  | inserted hs hw hc h =>
    refine .of_stored h (fun _ => ?_) fun hp _ k f hf h1 h2 => ?_
    · rw [entryPlaced_part]; exact isPartEntry_partRestriction w s
    · obtain ⟨x, rfl, hid⟩ := placed_part (((tablePlaced_iff s).1 hp).2 k f hf) h1
      rw [partId_injective (hid.symm.trans h2)]

/-- A change at one index says nothing of a part-issued entry elsewhere. -/
theorem partHeld_of_changed {ch : ChangeKind} {cause : Option RetireCause} {i : Nat} {e : Restriction}
    {new : Option Restriction} {s t : State} (h : EntryChanged ch cause i e new s t) {w : PartEntry}
    (hw : i ≠ partIndex w) : partHeld w t = partHeld w s := by
  obtain ⟨-, htab, -⟩ := h
  unfold partHeld
  rw [htab, List.getD_eq_getElem?_getD, List.getD_eq_getElem?_getD, List.getElem?_set_ne hw]

/-- A change at a part-issued entry's own index. -/
theorem partHeld_of_own {ch : ChangeKind} {cause : Option RetireCause} {e : Restriction} {new : Option Restriction}
    {s t : State} {w : PartEntry} (hl : s.restr.table.length = 32)
    (h : EntryChanged ch cause (partIndex w) e new s t) : partHeld w t = new.isSome := by
  obtain ⟨-, htab, -⟩ := h
  unfold partHeld
  rw [htab, List.getD_eq_getElem?_getD, List.getElem?_set_self (by rw [hl]; exact (partIndex_lt w).2)]
  rfl

/-- A judged entry agrees with its cause, and the other stands as it was (R66). -/
theorem judgePart_held (w : PartEntry) {s : State} (hs : isSealed s = true) (hl : s.restr.table.length = 32) :
    partHeld w (judgePart w s) = partCause w s
      ∧ ∀ x, x ≠ w → partHeld x (judgePart w s) = partHeld x s := by
  have apart {x : PartEntry} (hx : x ≠ w) : partIndex w ≠ partIndex x := fun e => hx (partIndex_injective e).symm
  cases judgePart_judged w s with
  | unsealed hn h => rw [hs] at hn; cases hn
  | agrees hw h => rw [h]; exact ⟨hw, fun _ _ => rfl⟩
  | inserted _ _ hc h => exact ⟨(partHeld_of_own hl h).trans hc.symm, fun x hx => partHeld_of_changed h (apart hx)⟩
  | ended e _ _ hc h => exact ⟨(partHeld_of_own hl h).trans hc.symm, fun x hx => partHeld_of_changed h (apart hx)⟩

theorem relimitPart_done (w : PartEntry) (s : State) :
    relimitPart w s = s
      ∨ ∃ e : Restriction, s.restr.table[partIndex w]? = some (some e)
          ∧ EntryChanged .updated none (partIndex w) e (some { e with limit := (partRestriction w s).limit }) s
              (relimitPart w s) := by
  unfold relimitPart
  rw [List.getD_eq_getElem?_getD]
  rcases hx : s.restr.table[partIndex w]? with _ | _ | e
  · exact .inl rfl
  · exact .inl rfl
  · exact .inr ⟨e, rfl, storeAt_changed .updated (partIndex w) { e with limit := (partRestriction w s).limit } s⟩

theorem relimitPart_tableKept (w : PartEntry) (s : State) : TableKept s (relimitPart w s) := by
  rcases relimitPart_done w s with h | ⟨e, he, h⟩
  · rw [h]; exact .refl s
  · exact .of_replaced h he rfl rfl fun x hx => hx

theorem relimitPart_held (w x : PartEntry) (s : State) : partHeld x (relimitPart w s) = partHeld x s := by
  rcases relimitPart_done w s with h | ⟨e, he, h⟩
  · rw [h]
  by_cases hx : x = w
  · subst hx
    obtain ⟨hlt, -⟩ := List.getElem?_eq_some_iff.1 he
    obtain ⟨-, htab, -⟩ := h
    unfold partHeld
    rw [htab, List.getD_eq_getElem?_getD, List.getD_eq_getElem?_getD, List.getElem?_set_self hlt, he]
    rfl
  · exact partHeld_of_changed h fun e => hx (partIndex_injective e).symm

/-! ### Tables emptied (R5, R53) -/

theorem TableKept.of_emptied {s t : State} (h : t.restr.table = List.replicate 32 none) (hl : LogBounded t) :
    TableKept s t := by
  have hno (k : Nat) (e : Restriction) : t.restr.table[k]? ≠ some (some e) := by
    rw [h, List.getElem?_replicate]
    split <;> simp
  refine ⟨fun _ => (tablePlaced_iff t).2 ⟨by rw [h]; rfl, fun k e he => absurd he (hno k e)⟩, fun _ _ => ?_, fun _ => hl⟩
  exact (entriesDistinct_iff t).2 fun j k e f he => absurd he (hno j e)

theorem clearTable_tableKept (s : State) : TableKept s (clearTable s) := by
  by_cases h : ∃ e, some e ∈ s.restr.table
  · rw [clearTable_held h]
    exact .of_emptied rfl ⟨show 1 ≤ 8 by decide, Nat.zero_le _⟩
  · rw [clearTable_empty (not_exists.1 h)]; exact .refl s

theorem clearTable_all_none (s : State) : ∀ o ∈ (clearTable s).restr.table, o = none := by
  by_cases h : ∃ e, some e ∈ s.restr.table
  · rw [clearTable_held h]
    exact fun o ho => List.eq_of_mem_replicate ho
  · rw [clearTable_empty (not_exists.1 h)]
    exact fun o ho => Option.eq_none_iff_forall_ne_some.2 fun e he => h ⟨e, he ▸ ho⟩

/-- After a soft reset the table holds part-issued entries alone, each in its place (R53). -/
theorem resetTable_entry {s : State} {k : Nat} {e : Restriction} (h : (resetTable s)[k]? = some (some e)) :
    ∃ w, k = partIndex w ∧ e = partRestriction w s := by
  rw [resetTable_eq] at h
  by_cases hk : k < 30
  · rw [List.getElem?_append_left (by simpa using hk), List.getElem?_replicate, if_pos hk] at h
    cases h
  · rw [List.getElem?_append_right (by simpa using hk), List.length_replicate] at h
    obtain ⟨d, rfl⟩ := Nat.exists_eq_add_of_le (Nat.le_of_not_lt hk)
    rw [Nat.add_sub_cancel_left] at h
    rcases d with _ | _ | d
    · refine ⟨.radioLoss, rfl, ?_⟩
      simp only [List.getElem?_cons_zero, Option.some.injEq] at h
      split at h <;> cases h
      rfl
    · refine ⟨.odoDegraded, rfl, ?_⟩
      simp only [List.getElem?_cons_succ, List.getElem?_cons_zero, Option.some.injEq] at h
      split at h <;> cases h
      rfl
    · simp at h

theorem softReset_tableKept (s : State) : TableKept s (softReset s) := by
  have htab : (softReset s).restr.table = resetTable (softResetBlocks s) := rfl
  have hentry {k : Nat} {e : Restriction} (he : (softReset s).restr.table[k]? = some (some e)) :=
    resetTable_entry (htab ▸ he)
  refine ⟨fun _ => (tablePlaced_iff _).2 ⟨rfl, fun k e he => ?_⟩, fun _ _ => ?_, fun _ => ⟨Nat.zero_le _, Nat.zero_le _⟩⟩
  · obtain ⟨w, rfl, rfl⟩ := hentry he
    rw [entryPlaced_part]; exact isPartEntry_partRestriction w _
  · refine (entriesDistinct_iff _).2 fun j k e f he hf _ hid => ?_
    obtain ⟨w, rfl, rfl⟩ := hentry he
    obtain ⟨x, rfl, rfl⟩ := hentry hf
    rw [partId_injective hid]

theorem softReset_held (w : PartEntry) (s : State) :
    partHeld w (softReset s) = (isSealed (softReset s) && partCause w (softReset s)) := by
  have h : partHeld w (softReset s) = (isSealed (softResetBlocks s) && partCause w (softResetBlocks s)) := by
    show ((resetTable (softResetBlocks s)).getD (partIndex w) none).isSome = _
    rw [resetTable_eq]
    cases w with
    | radioLoss => cases isSealed (softResetBlocks s) && partCause .radioLoss (softResetBlocks s) <;> rfl
    | odoDegraded => cases isSealed (softResetBlocks s) && partCause .odoDegraded (softResetBlocks s) <;> rfl
  exact h.trans (by cases w <;> rfl)

end Sys2Proof.Machine
end

section
/-! PROOFS. What keeps the Restriction Table sound (R53, R65, R66, R68): an operation that touches neither the table nor a
cause of a part-issued entry, one that changes the table alone, and one that changes a cause and judges its entry. -/

namespace Sys2Proof.Machine

set_option Elab.async false

/-! ### The invariant, cause by cause -/

theorem partEntriesAgree_iff (s : State) :
    PartEntriesAgree s ↔ (isSealed s = true → ∀ w, partHeld w s = partCause w s)
      ∧ (isSealed s = false → ∀ o ∈ s.restr.table, o = none) := by
  unfold PartEntriesAgree
  cases hs : isSealed s with
  | true =>
    simp only [if_true, forall_const, reduceCtorEq, false_implies, and_true]
    exact ⟨fun ⟨h1, h2⟩ w => by cases w; exacts [h1, h2], fun h => ⟨h .radioLoss, h .odoDegraded⟩⟩
  | false => simp [List.all_eq_true]

theorem isSealed_congr {s t : State} (h : t.line.state = s.line.state) : isSealed t = isSealed s := by
  unfold isSealed; rw [h]

/-- A change of the table keeps its soundness; the operation's own part of the invariant goes over. -/
structure Kept (s t : State) : Prop where
  table : TableKept s t
  sound : RestrictionsSound s → RestrictionsSound t

namespace Kept

variable {s t u v : State} {bs : List Block}

theorem trans (h : Kept s t) (k : Kept t u) : Kept s u := ⟨h.table.trans k.table, fun hs => k.sound (h.sound hs)⟩

/-- A change of the table alone that keeps the part-issued entries where they are, and an empty table of a line that is
not SEALED. -/
theorem of_edit (fr : OnlyChanges [.restr, .link] s t) (hk : TableKept s t)
    (hparts : TablePlaced s → ∀ w, partHeld w t = partHeld w s)
    (hempty : TablePlaced s → isSealed s = false → (∀ o ∈ s.restr.table, o = none) → ∀ o ∈ t.restr.table, o = none) :
    Kept s t := by
  have hsealed : isSealed t = isSealed s := isSealed_congr (congrArg _ (fr .line (by decide)))
  have hradio : t.radio = s.radio := fr .radio (by decide)
  have hodo : t.odo = s.odo := fr .odo (by decide)
  refine ⟨hk, fun ⟨hp, ha, hl, hn⟩ => ⟨hk.placed hp, ?_, hk.log hl, ?_⟩⟩
  · rw [partEntriesAgree_iff, hsealed] at *
    refine ⟨fun hs w => (hparts hp w).trans ((ha.1 hs w).trans ?_), fun hs => hempty hp hs (ha.2 hs)⟩
    cases w
    · exact congrArg (fun r : Radio => r.link == .lost) hradio.symm
    · exact congrArg (fun o : Odometry => o.state == .degraded) hodo.symm
  · unfold PositionNeedsLine; rw [hsealed, hodo]; exact hn

/-- One entry written or made FREE outside the part's places. -/
theorem of_changed {ch : ChangeKind} {cause : Option RetireCause} {i : Nat} {e : Restriction}
    {new : Option Restriction} (h : EntryChanged ch cause i e new s t) (hk : TableKept s t)
    (hi : TablePlaced s → ∀ w, i ≠ partIndex w)
    (hs : isSealed s = true ∨ ∃ old, s.restr.table[i]? = some (some old)) : Kept s t := by
  refine .of_edit h.1 hk (fun hp w => partHeld_of_changed h (hi hp w)) fun _ hn hno => ?_
  rcases hs with hs | ⟨old, ho⟩
  · rw [hs] at hn; cases hn
  · exact nomatch hno _ (List.mem_of_getElem? ho)

theorem putRestriction {issuer : Issuer} (hp : issuer ≠ .part) (w : PutWire) (s : State) :
    Kept s (putRestriction issuer w s).2 := by
  have hk := putRestriction_tableKept hp w s
  have other {i : Nat} {old : Restriction} (ho : s.restr.table[i]? = some (some old)) (hio : old.issuer = issuer)
      (hs : TablePlaced s) : ∀ w, i ≠ partIndex w :=
    placed_other (((tablePlaced_iff s).1 hs).2 i old ho) (hio.symm ▸ hp)
  cases putRestriction_done issuer w s with
  | unchanged h => exact ⟨hk, h.symm ▸ id⟩
  | inserted i e hs hi he hfree hnone h =>
    exact .of_changed h hk (fun _ x => (hi.trans_le (partIndex_lt x).1).ne) (.inl hs)
  | updated i old e hs he hold hio hid h => exact .of_changed h hk (other hold hio) (.inl hs)
  | expired i old hs hold hio h => exact .of_changed h hk (other hold hio) (.inl hs)

theorem withdrawEntry {issuer : Issuer} (hp : issuer ≠ .part) (cause : RetireCause) (id : Nat) (s : State) :
    Kept s (withdrawEntry issuer cause id s).2 := by
  have hk := withdrawEntry_tableKept issuer cause id s
  rcases withdrawEntry_done issuer cause id s with h | ⟨i, e, he, hio, h⟩
  · exact ⟨hk, h.symm ▸ fun x => x⟩
  · refine .of_changed h hk (fun hs => ?_) (.inr ⟨e, he⟩)
    exact placed_other (((tablePlaced_iff s).1 hs).2 i e he) (hio.symm ▸ hp)

/-- An evaluation that retires no part-issued entry. -/
theorem changeAll {f : Restriction → Option EntryChange}
    (hf : ∀ w e, isPartEntry w e = true → (changedEntry f e).isSome = true) (s : State) : Kept s (changeAll f s) := by
  refine .of_edit (changeAll_frame f s) (changeAll_kept f s) (fun hp w => ?_) fun hp _ hno => ?_
  · unfold partHeld
    rw [List.getD_eq_getElem?_getD, List.getD_eq_getElem?_getD, changeAll_get f s (partIndex_lt w).2]
    rcases hx : s.restr.table[partIndex w]? with _ | _ | e
    · rfl
    · rfl
    · have he := ((tablePlaced_iff s).1 hp).2 _ e hx
      rw [entryPlaced_part] at he
      exact hf w e he
  · rw [changeAll_table f hp.1]
    intro o ho
    obtain ⟨x, hx, rfl⟩ := List.mem_map.1 ho
    rw [hno x hx]; rfl

theorem relimitPart (w : PartEntry) (s : State) : Kept s (relimitPart w s) := by
  refine .of_edit (relimitPart_frame w s) (relimitPart_tableKept w s) (fun _ x => relimitPart_held w x s)
    fun _ _ hno => ?_
  rcases relimitPart_done w s with h | ⟨e, he, -⟩
  · rw [h]; exact hno
  · exact nomatch hno _ (List.mem_of_getElem? he)

/-- A cause changes and its part-issued entry is judged (R66). -/
theorem judged (w : PartEntry) (htab : v.restr = s.restr) (hline : v.line.state = s.line.state)
    (hother : ∀ x, x ≠ w → partCause x v = partCause x s)
    (hn : PositionNeedsLine s → PositionNeedsLine v) : Kept s (judgePart w v) := by
  have hk : TableKept s (judgePart w v) :=
    (TableKept.of_table (congrArg _ htab) fun hl => by unfold LogBounded; rw [htab]; exact hl).trans
      (judgePart_tableKept w v)
  have fr := judgePart_frame w v
  have hsv : isSealed v = isSealed s := isSealed_congr hline
  have hst : isSealed (judgePart w v) = isSealed v := isSealed_congr (congrArg _ (fr .line (by decide)))
  have hradio : (judgePart w v).radio = v.radio := fr .radio (by decide)
  have hodo : (judgePart w v).odo = v.odo := judgePart_odo w v
  have hcause (x : PartEntry) : partCause x (judgePart w v) = partCause x v := by
    cases x
    · exact congrArg (fun r : Radio => r.link == .lost) hradio
    · exact congrArg (fun o : Odometry => o.state == .degraded) hodo
  refine ⟨hk, fun ⟨hp, ha, hl, hpos⟩ => ⟨hk.placed hp, ?_, hk.log hl, ?_⟩⟩
  · rw [partEntriesAgree_iff] at ha ⊢
    refine ⟨fun hs x => ?_, fun hs => ?_⟩
    · have hsv' : isSealed v = true := hst.symm.trans hs
      obtain ⟨hown, hrest⟩ := judgePart_held w hsv' (by rw [htab]; exact hp.1)
      rw [hcause x]
      by_cases hx : x = w
      · rw [hx]; exact hown
      · rw [hrest x hx, hother x hx, ← ha.1 (hsv.symm.trans hsv') x]
        unfold partHeld; rw [htab]
    · have hsv' : isSealed v = false := hst.symm.trans hs
      have hstay : judgePart w v = v := by unfold Machine.judgePart; rw [hsv']; rfl
      rw [hstay, htab]
      exact ha.2 (hsv.symm.trans hsv')
  · unfold PositionNeedsLine; rw [hst, hodo]; exact hn hpos

/-- The link state changes and RADIO_LOSS is judged (R161). -/
theorem linkJudged (htab : v.restr = s.restr) (hline : v.line.state = s.line.state)
    (hodo : v.odo.state = s.odo.state) : Kept s (judgePart .radioLoss v) := by
  refine judged .radioLoss htab hline (fun x hx => ?_) fun hn hs => hodo.trans (hn ((isSealed_congr hline).symm.trans hs))
  cases x
  · exact absurd rfl hx
  · exact congrArg (· == OdoState.degraded) hodo

/-- The odometry's state changes to one that needs a line only where it needed one before, and ODO_DEGRADED is judged
(R66). -/
theorem odoJudged (htab : v.restr = s.restr) (hline : v.line.state = s.line.state)
    (hlink : v.radio.link = s.radio.link) (hn : isSealed s = false → s.odo.state = .unset → v.odo.state = .unset) :
    Kept s (judgePart .odoDegraded v) := by
  refine judged .odoDegraded htab hline (fun x hx => ?_) fun hp hs => ?_
  · cases x
    · exact congrArg (· == LinkState.lost) hlink
    · exact absurd rfl hx
  · have hs' : isSealed s = false := (isSealed_congr hline).symm.trans hs
    exact hn hs' (hp hs')

end Kept

/-! ### What leaves the table and its causes alone -/

/-- The table, the link state, the odometry's state and the line's state stand, and the log stays within its bounds. -/
structure Undisturbed (s t : State) : Prop where
  table : t.restr.table = s.restr.table
  log : LogBounded s → LogBounded t
  link : t.radio.link = s.radio.link
  odo : t.odo.state = s.odo.state
  line : t.line.state = s.line.state

namespace Undisturbed

variable {s t u : State} {bs : List Block}

theorem of_restr (hr : t.restr = s.restr) (hl : t.radio.link = s.radio.link) (ho : t.odo.state = s.odo.state)
    (hn : t.line.state = s.line.state) : Undisturbed s t :=
  ⟨congrArg _ hr, fun h => by unfold LogBounded; rw [hr]; exact h, hl, ho, hn⟩

theorem refl (s : State) : Undisturbed s s := of_restr rfl rfl rfl rfl

theorem trans (h : Undisturbed s t) (k : Undisturbed t u) : Undisturbed s u :=
  ⟨k.table.trans h.table, fun l => k.log (h.log l), k.link.trans h.link, k.odo.trans h.odo, k.line.trans h.line⟩

theorem of_frame (h : OnlyChanges bs s t) (hb : ∀ b ∈ [Block.restr, .radio, .odo, .line], b ∉ bs := by decide) :
    Undisturbed s t :=
  of_restr (h .restr (hb _ (by decide))) (congrArg _ (h .radio (hb _ (by decide))))
    (congrArg _ (h .odo (hb _ (by decide)))) (congrArg _ (h .line (hb _ (by decide))))

/-- An operation that reaches the Section Table and keeps the line's state. -/
theorem of_line (h : OnlyChanges bs s t) (hl : LineKept s t)
    (hb : ∀ b ∈ [Block.restr, .radio, .odo], b ∉ bs := by decide) : Undisturbed s t :=
  of_restr (h .restr (hb _ (by decide))) (congrArg _ (h .radio (hb _ (by decide))))
    (congrArg _ (h .odo (hb _ (by decide)))) hl.state

/-- An operation that reaches the Radio Frame Controller and keeps the link state. -/
theorem of_radio (h : OnlyChanges bs s t) (hl : t.radio.link = s.radio.link)
    (hb : ∀ b ∈ [Block.restr, .odo, .line], b ∉ bs := by decide) : Undisturbed s t :=
  of_restr (h .restr (hb _ (by decide))) hl (congrArg _ (h .odo (hb _ (by decide))))
    (congrArg _ (h .line (hb _ (by decide))))

/-- An operation that reaches the odometry and keeps its state. -/
theorem of_odo (h : OnlyChanges bs s t) (ho : t.odo.state = s.odo.state)
    (hb : ∀ b ∈ [Block.restr, .radio, .line], b ∉ bs := by decide) : Undisturbed s t :=
  of_restr (h .restr (hb _ (by decide))) (congrArg _ (h .radio (hb _ (by decide)))) ho
    (congrArg _ (h .line (hb _ (by decide))))

theorem setOdo {o : Odometry} (h : o.state = s.odo.state) : Undisturbed s (s.setOdo o) := of_restr rfl rfl h rfl

theorem setRadio {r : Radio} (h : r.link = s.radio.link) : Undisturbed s (s.setRadio r) := of_restr rfl h rfl rfl

theorem kept (h : Undisturbed s t) : Kept s t := by
  have hsealed : isSealed t = isSealed s := isSealed_congr h.line
  have hk : TableKept s t := .of_table h.table h.log
  refine ⟨hk, fun ⟨hp, ha, hl, hn⟩ => ⟨hk.placed hp, ?_, hk.log hl, ?_⟩⟩
  · rw [partEntriesAgree_iff, hsealed, h.table] at *
    refine ⟨fun hs w => ?_, ha.2⟩
    have := ha.1 hs w
    unfold partHeld at this ⊢
    rw [h.table, this]
    cases w
    · exact congrArg (· == LinkState.lost) h.link.symm
    · exact congrArg (· == OdoState.degraded) h.odo.symm
  · unfold PositionNeedsLine; rw [hsealed, h.odo]; exact hn

end Undisturbed

namespace Kept

variable {s t u : State} {bs : List Block}

theorem refl (s : State) : Kept s s := (Undisturbed.refl s).kept

theorem of_frame (h : OnlyChanges bs s t) (hb : ∀ b ∈ [Block.restr, .radio, .odo, .line], b ∉ bs := by decide) :
    Kept s t := (Undisturbed.of_frame h hb).kept

theorem then_frame (h : Kept s t) (k : OnlyChanges bs t u)
    (hb : ∀ b ∈ [Block.restr, .radio, .odo, .line], b ∉ bs := by decide) : Kept s u := h.trans (.of_frame k hb)

theorem answered (h : Kept s t) (r : Req) (res : Result) (data : List Byte) : Kept s (answer r res data t) :=
  h.then_frame (answer_frame r res data t)

end Kept

end Sys2Proof.Machine
end

section
/-! PROOFS. Every operation keeps the Restriction Table sound (O34) and its names distinct (O35). -/

namespace Sys2Proof.Machine

set_option Elab.async false

/-! ### Operations that leave the table and its causes alone -/

theorem queueAck_undisturbed (k : AckKind) (n : Nat) (res : Result) (st : Nat) (s : State) :
    Undisturbed s (queueAck k n res st s) := by
  refine .of_radio (queueAck_frame k n res st s) ?_
  obtain ⟨f, hf⟩ := queueAck_causes k n res st s
  rw [hf]

theorem ackHeld_undisturbed (u : StagedUpdate) (st : Option Nat) (res : Result) (s : State) :
    Undisturbed s (ackHeld u st res s) := by
  refine .of_radio (ackHeld_frame u st res s) ?_
  obtain ⟨f, hf⟩ := ackHeld_causes u st res s
  rw [hf]

theorem enterSearchAnew_link (r : Radio) : (enterSearchAnew r).link = r.link := by
  unfold enterSearchAnew clearGrant; split <;> rfl

theorem radioCrossing_undisturbed (cell : Nat) (s : State) : Undisturbed s (radioCrossing cell s) := by
  refine .of_radio (radioCrossing_frame cell s) ?_
  unfold radioCrossing
  split
  · rfl
  · exact enterSearchAnew_link _

theorem radioCrossingCurrent_undisturbed (s : State) : Undisturbed s (radioCrossingCurrent s) := by
  unfold radioCrossingCurrent
  split
  · exact .refl s
  · exact radioCrossing_undisturbed _ s

theorem deriveWindow_undisturbed (s : State) : Undisturbed s (deriveWindow s) :=
  .of_line (deriveWindow_frame s) (deriveWindow_lineKept s)

theorem applyUpdate_undisturbed (u : StagedUpdate) (s : State) : Undisturbed s (applyUpdate u s) := by
  have h : Undisturbed s (applied u s) := .of_line (applied_frame u s) (applied_lineKept u s)
  rw [applyUpdate_eq]
  split
  · exact h
  · exact h.trans (radioCrossingCurrent_undisturbed _)

theorem retestHeld_undisturbed (s : State) : Undisturbed s (retestHeld s) := by
  rcases retestHeld_cases s with e | ⟨u, n, -, -, e⟩ <;> rw [e]
  · exact .refl s
  · exact (applyUpdate_undisturbed u s).trans (ackHeld_undisturbed _ _ _ _)

theorem commitUpdate_undisturbed (o : Owner) (id crc : Nat) (s : State) :
    Undisturbed s (commitUpdate o id crc s).2 := by
  unfold commitUpdate
  repeat' split
  all_goals first
    | exact .refl s
    | exact applyUpdate_undisturbed _ s
    | exact .of_frame (dropStaging_frame s)
    | exact .of_frame (setStaging_frame _ s)

theorem holdExpired_undisturbed (s : State) : Undisturbed s (holdExpired s) := by
  unfold holdExpired
  split
  · next u n hu =>
    have h : Undisturbed s (setFlag .lineUpdate
        (dropStaging (s.setLine { s.line with update := some (.commitTimeout u.id) }))) := .of_restr rfl rfl rfl rfl
    exact h.trans (ackHeld_undisturbed _ _ _ _)
  · exact .refl s

theorem selectDir_undisturbed (d : Dir) (s : State) : Undisturbed s (selectDir d s) :=
  ((Undisturbed.of_frame (setSup_frame _ s)).trans
    ((deriveWindow_undisturbed _).trans (retestHeld_undisturbed _))).trans
      ((Undisturbed.of_frame (judgePermit_frame _)).trans (.of_frame (setFlag_frame _ _)))

theorem neutralInStandby_undisturbed (m : Mode) (s : State) : Undisturbed s (neutralInStandby m s) := by
  unfold neutralInStandby
  split
  · exact selectDir_undisturbed _ s
  · exact .refl s

theorem changeMode_undisturbed (m : Mode) (s : State) : Undisturbed s (changeMode m s) :=
  ((Undisturbed.of_frame (enterMode_frame m s)).trans
    ((neutralInStandby_undisturbed m _).trans (retestHeld_undisturbed _))).trans
      ((Undisturbed.of_frame (retestReleases_frame _)).trans
        ((Undisturbed.of_frame (judgePermit_frame _)).trans (.of_frame (setFlag_frame _ _))))

theorem tripIf_undisturbed (b : Bool) (c : TripCause) (s : State) : Undisturbed s (tripIf b c s) := by
  unfold tripIf trip
  split
  · exact (Undisturbed.of_frame (setSup_frame _ s)).trans (changeMode_undisturbed _ _)
  · exact .refl s

theorem releaseSupervisor_undisturbed (s : State) : Undisturbed s (releaseSupervisor s) := by
  unfold releaseSupervisor
  split
  · exact (Undisturbed.of_frame (setSup_frame _ s)).trans (changeMode_undisturbed _ _)
  · exact .refl s

theorem stageTrip_undisturbed (s : State) : Undisturbed s (stageTrip s) := by
  unfold stageTrip
  split
  · exact .refl s
  · exact tripIf_undisturbed _ _ s

theorem stageAct_undisturbed (s : State) : Undisturbed s (stageAct s) := by
  have h : Undisturbed s (stageIntervene (stageLevel s)) :=
    (Undisturbed.of_frame (stageLevel_frame s)).trans
      ((tripIf_undisturbed _ _ _).trans (tripIf_undisturbed _ _ _))
  unfold stageAct
  dsimp only
  split
  · exact h
  · exact h.trans (.of_frame (writeSupervisor_frame _))

theorem superviseSample_undisturbed (s : State) : Undisturbed s (superviseSample s) :=
  ((Undisturbed.of_frame (stageRollback_frame s)).trans (stageTrip_undisturbed _)).trans
    ((Undisturbed.of_frame (stageStandstill_frame _)).trans
      ((Undisturbed.of_frame (evaluate_frame _)).trans (stageAct_undisturbed _)))

theorem deficitExpired_undisturbed (s : State) : Undisturbed s (deficitExpired s) := by
  unfold deficitExpired setDeficit sbNotice
  split
  · exact ((Undisturbed.of_frame (setBrakes_frame _ s)).trans (.of_frame (addBrakeCause_frame _ _))).trans
      ((Undisturbed.of_frame (setSup_frame _ _)).trans (tripIf_undisturbed _ _ _))
  · exact .refl s

theorem issueCrossing_undisturbed (s : State) : Undisturbed s (issueCrossing s) :=
  (deriveWindow_undisturbed s).trans ((retestHeld_undisturbed _).trans (radioCrossingCurrent_undisturbed _))

theorem setMode_undisturbed (code : Nat) (s : State) : Undisturbed s (setMode code s).2 := by
  unfold setMode
  repeat' split
  all_goals first | exact .refl s | exact changeMode_undisturbed _ s

theorem setDirection_undisturbed (code : Nat) (s : State) : Undisturbed s (setDirection code s).2 := by
  unfold setDirection
  repeat' split
  all_goals first | exact .refl s | exact selectDir_undisturbed _ s

/-! ### The Radio Frame Controller keeps its link state (R144 to R160) -/

theorem setSlot_undisturbed (slot route : Nat) (s : State) : Undisturbed s (setSlot slot route s).2 := by
  refine .of_radio (setSlot_frame slot route s) ?_
  unfold setSlot
  repeat' split
  all_goals rfl

theorem setChannel_undisturbed (cell channel : Nat) (s : State) : Undisturbed s (setChannel cell channel s).2 := by
  refine .of_radio (setChannel_frame cell channel s) ?_
  unfold setChannel retune
  dsimp only
  repeat' split
  all_goals first | rfl | exact enterSearchAnew_link _

theorem takeGrant_undisturbed (g : Grant) (s : State) : Undisturbed s (takeGrant g s).2 := by
  refine .of_radio (takeGrant_frame g s) ?_
  unfold takeGrant clearGrant
  dsimp only
  repeat' split
  all_goals rfl

theorem finishInit_undisturbed (s : State) : Undisturbed s (finishInit s) := by
  refine .of_radio (finishInit_frame s) ?_
  unfold finishInit
  dsimp only
  split <;> rfl

theorem holdoverExpired_undisturbed (s : State) : Undisturbed s (holdoverExpired s) := by
  refine .of_radio (holdoverExpired_frame s) ?_
  unfold holdoverExpired
  split <;> rfl

theorem endOfSlot0_undisturbed (s : State) : Undisturbed s (endOfSlot0 s) := by
  unfold endOfSlot0 enterHoldover
  dsimp only
  repeat' split
  · exact .setRadio rfl
  · exact Undisturbed.trans (.of_restr (by exact rfl) (by exact rfl) (by exact rfl) (by exact rfl))
      (holdoverExpired_undisturbed _)
  · exact .of_restr rfl rfl rfl rfl
  · exact .refl s

theorem advanceSlot_link (p : Params) (r : Radio) : (advanceSlot p r).link = r.link := by
  unfold advanceSlot guardFrame
  dsimp only
  repeat' split
  all_goals rfl

theorem actInSlot_undisturbed (s : State) : Undisturbed s (actInSlot s) := by
  unfold actInSlot transmit loopTest
  repeat' split
  · exact (Undisturbed.of_frame (takeUplink_frame s)).trans (.setRadio rfl)
  · exact .of_restr rfl rfl rfl rfl
  · exact .of_restr rfl rfl rfl rfl
  · exact .refl s

theorem startSlot_undisturbed (s : State) : Undisturbed s (startSlot s) := by
  have hend : Undisturbed s (endReception s) := by
    unfold endReception
    split
    · exact .refl s
    · exact .setRadio rfl
  unfold startSlot
  split
  · exact .refl s
  · exact (hend.trans (endOfSlot0_undisturbed _)).trans
      ((Undisturbed.setRadio (advanceSlot_link _ _)).trans (actInSlot_undisturbed _))

theorem takeBeacon_undisturbed (frame cell : Nat) (source : BeaconOrigin) (s : State) :
    Undisturbed s (takeBeacon frame cell source s) := by
  refine .of_radio (takeBeacon_frame frame cell source s) ?_
  unfold takeBeacon confirmOrResync acquire
  dsimp only
  repeat' split
  all_goals rfl

theorem receiveBeacon_undisturbed (frame cell : Nat) (source : BeaconOrigin) (s : State) :
    Undisturbed s (receiveBeacon frame cell source s) := by
  unfold receiveBeacon
  split
  · exact ((Undisturbed.of_frame (setCounts_frame _ s)).trans (.of_frame (setCounts_frame _ _))).trans
      (takeBeacon_undisturbed _ _ _ _)
  · exact .refl s

/-! ### The link state (R150, R161) -/

theorem linkHeard_kept (s : State) : Kept s (linkHeard s) := by
  unfold linkHeard
  split
  · exact Undisturbed.kept (.setRadio (by exact rfl))
  · exact .linkJudged rfl rfl rfl

theorem linkExpired_kept (s : State) : Kept s (linkExpired s) := by
  unfold linkExpired
  split
  · exact Undisturbed.kept (.setRadio (by exact rfl))
  · exact .linkJudged rfl rfl rfl

theorem radioReset_kept (s : State) : Kept s (radioReset s) := .linkJudged rfl rfl rfl

/-- A received telegram keeps what the link state and its receiving block keep (R161, R168). -/
theorem receive_kept (h : TgHeader) {body : State → State} (hb : ∀ t, Kept t (body t)) (s : State) :
    Kept s (receive h body s) := by
  have counted (f g : Counts → Counts) : Kept s (setCounts f (setCounts g s)) :=
    (Kept.of_frame (setCounts_frame g s)).then_frame (setCounts_frame f _)
  unfold receive acceptTelegram
  dsimp only
  repeat' split
  · exact counted _ _
  · exact (((counted _ _).trans (linkHeard_kept _)).then_frame (setTele_frame _ _)).trans (hb _)
  · exact counted _ _
  · exact .refl s

theorem queueReport_kept (s : State) : Kept s (queueReport s) := by
  unfold queueReport
  dsimp only
  repeat' split
  · exact .refl s
  · exact .of_frame (setTele_frame _ s)
  · exact Undisturbed.kept (.of_restr (by exact rfl) (by exact rfl) (by exact rfl) (by exact rfl))

theorem Kept.acked {s : State} {x : Result × State} (h : Kept s x.2) (k : AckKind) (n : Nat) (hd : TgHeader) :
    Kept s (ackResult k n hd x) := h.trans (queueAck_undisturbed k n x.1 hd.station x.2).kept

theorem ackBlock_kept (n : Nat) (hd : TgHeader) (b : BlockWire) (s : State) :
    Kept s (ackBlock n hd (stageBlock .valley b s)) := by
  have h : Kept s (stageBlock .valley b s).2 := .of_frame (stageBlock_frame .valley b s)
  unfold ackBlock
  split
  · exact h
  · exact h.acked _ _ _

theorem ackCommit_kept (id crc : Nat) (hd : TgHeader) (s : State) :
    Kept s (ackCommit id hd (commitUpdate .valley id crc s)) := by
  have h : Kept s (commitUpdate .valley id crc s).2 := (commitUpdate_undisturbed _ id crc s).kept
  unfold ackCommit
  split
  · exact h.then_frame (setTele_frame _ _)
  · exact h.acked _ _ _

/-! ### The line clock and the passage (R58, R61, R63) -/

/-- The line clock times out no part-issued entry, which has no times (R65). -/
theorem clockChange_part (v : Nat) (w : PartEntry) (e : Restriction) (h : isPartEntry w e = true) :
    (changedEntry (clockChange v) e).isSome = true := by
  obtain ⟨-, -, -, -, ha, hx⟩ := (isPartEntry_iff w e).1 h
  simp [changedEntry, clockChange, ha, hx]

/-- No part-issued entry is retired by passage (R63). -/
theorem passageChange_part (dir : Dir) (len p u : Nat) (w : PartEntry) (e : Restriction)
    (h : isPartEntry w e = true) : (changedEntry (passageChange dir len p u) e).isSome = true := by
  obtain ⟨hi, -⟩ := (isPartEntry_iff w e).1 h
  simp [changedEntry, passageChange, hi]

theorem setClock_kept (v : Nat) (s : State) : Kept s (setClock v s) := by
  have h : Undisturbed s (s.setRestr { s.restr with clock := some v, second := Config.secondMs }) :=
    ⟨rfl, id, rfl, rfl, rfl⟩
  exact h.kept.trans (.changeAll (clockChange_part v) _)

theorem retirePassed_kept (s : State) : Kept s (retirePassed s) := by
  unfold retirePassed
  split
  · exact .changeAll (passageChange_part _ _ _ _) s
  · exact .refl s

theorem takeSample_kept (s : State) : Kept s (takeSample s) := by
  have h : Undisturbed s (superviseSample (issueSample s)) :=
    (Undisturbed.setOdo (by exact rfl)).trans (superviseSample_undisturbed _)
  exact ((h.kept.trans (retirePassed_kept _)).then_frame (retestReleases_frame _)).then_frame (judgeInterlock_frame _)

/-! ### The odometry's state (R32, R38, R40, R48 to R50) -/

theorem enterOdoFault_kept (f : OdoFault) (s : State) : Kept s (enterOdoFault f s) := by
  unfold enterOdoFault
  split
  · next hk =>
    have fr := latchDemand_frame .odometry
      (addOdoCause (faultCause f) (s.setOdo { s.odo with state := .fault, fault := some f }))
    refine .odoJudged (fr .restr (by decide)) (congrArg LineTable.state (fr .line (by decide)))
      (congrArg Radio.link (fr .radio (by decide))) fun _ hu => ?_
    rw [hu] at hk
    cases hk
  · exact .refl s

theorem takeCompares_kept (held : Option Sense) (s : State) : Kept s (takeCompares held s) := by
  unfold takeCompares
  split
  · exact .refl s
  · rw [crossUp_eq]
    exact ((Undisturbed.setOdo (by exact rfl)).trans (issueCrossing_undisturbed _)).kept
  · rw [crossDown_eq]
    exact ((Undisturbed.setOdo (by exact rfl)).trans (issueCrossing_undisturbed _)).kept
  · exact enterOdoFault_kept .offLine s

theorem degradeAtBound_kept_sound (s : State) : Kept s (degradeAtBound s) := by
  unfold degradeAtBound
  split
  · next h => exact .odoJudged rfl rfl rfl fun _ hu => nomatch hu.symm.trans h.1
  · exact .refl s

theorem activeCount_kept (sensor : Sensor) (x : Sense) (s : State) : Kept s (activeCount sensor x s) := by
  by_cases hs : s.odo.state = .unset
  · rw [activeCount_unset hs]
    exact (Undisturbed.setOdo (by exact rfl)).kept
  · rw [activeCount_eq hs]
    have h : Undisturbed s (moved sensor x s) := .setOdo rfl
    exact (h.kept.trans (degradeAtBound_kept_sound _)).trans (takeCompares_kept _ _)

theorem crossCheck_kept (s : State) : Kept s (crossCheck s) := by
  unfold crossCheck
  dsimp only
  repeat' split
  · exact (Undisturbed.setOdo (by exact rfl)).kept.trans (enterOdoFault_kept .mismatch _)
  · exact (Undisturbed.setOdo (by exact rfl)).kept
  · exact .refl s

theorem fed_undisturbed (sensor : Sensor) (x : Sense) (s : State) : Undisturbed s (fed sensor x s) := by
  have h : track (fed sensor x s).odo = track s.odo :=
    (feedCheck_kept sensor x _).1.trans (feedCal_kept sensor x s.odo).1
  exact .of_odo (fed_frame sensor x s) (congrArg Prod.fst h)

theorem takeCount_kept (sensor : Sensor) (x : Sense) (s : State) : Kept s (takeCount sensor x s) := by
  have h : Kept s (if isActive sensor s.odo then activeCount sensor x (fed sensor x s) else fed sensor x s) := by
    split
    · exact (fed_undisturbed sensor x s).kept.trans (activeCount_kept sensor x _)
    · exact (fed_undisturbed sensor x s).kept
  rw [takeCount_eq]
  dsimp only
  split
  · exact h.trans (crossCheck_kept _)
  · exact h

theorem offerReport_undisturbed (r : MarkReport) (s : State) : Undisturbed s (offerReport r s) := by
  refine .of_odo (offerReport_frame r s) ?_
  rw [offerReport_odo]
  split <;> rfl

theorem correctPosition_kept (m : Nat) (s : State) : Kept s (correctPosition m s) := by
  unfold correctPosition
  dsimp only
  split
  · next h => exact .odoJudged rfl rfl rfl fun _ hu => nomatch hu.symm.trans h
  · exact (Undisturbed.setOdo (by exact rfl)).kept

theorem handleCal_undisturbed (m : Nat) (s : State) : Undisturbed s (handleCal m s) := by
  refine .of_odo (handleCal_frame m s) ?_
  obtain ⟨⟨cs, ho⟩, -⟩ := handleCal_kept m s
  rw [ho]

theorem detectMark_kept (s : State) : Kept s (detectMark s) := by
  have captured : Undisturbed s (s.setOdo { s.odo with capture := s.odo.pUm }) := .setOdo rfl
  unfold detectMark
  dsimp only
  split
  · exact .refl s
  · split
    · exact (captured.trans ((Undisturbed.of_odo (addOdoCause_frame _ _) rfl).trans (offerReport_undisturbed _ _))).kept
    · refine Kept.trans ?_ (offerReport_undisturbed _ _).kept
      split
      · exact (captured.kept.trans (correctPosition_kept _ _)).trans
          ((takeCompares_kept _ _).trans (handleCal_undisturbed _ _).kept)
      · exact captured.kept

theorem setPosition_kept (p u : Nat) (s : State) : Kept s (setPosition p u s).2 := by
  rcases setPosition_cases p u s with e | ⟨c, r, hs, -, -, -, -, -, e⟩ <;> rw [e]
  · exact .refl s
  · have h := (deriveWindow_undisturbed (s.setOdo (positionSet p u c s))).trans (radioCrossingCurrent_undisturbed _)
    have hr : (radioCrossingCurrent (deriveWindow (s.setOdo (positionSet p u c s)))).restr = s.restr :=
      Eq.trans (radioCrossingCurrent_frame _ .restr (by decide)) (deriveWindow_frame _ .restr (by decide))
    refine .odoJudged hr h.line h.link fun hn => ?_
    rw [hs] at hn
    cases hn

theorem releaseOdometry_kept (s : State) : Kept s (releaseOdometry s) := by
  unfold releaseOdometry
  split
  · next h => exact .odoJudged rfl rfl rfl fun _ hu => nomatch hu.symm.trans h.1
  · exact .refl s

theorem releaseTrip_kept (s : State) : Kept s (releaseTrip s) :=
  (((releaseOdometry_kept s).trans (releaseSupervisor_undisturbed _).kept).then_frame
    (setBrakes_frame _ _)).then_frame (combine_frame _)

/-! ### Parameters (R65, R197) -/

theorem paramTold_kept_sound (n : Nat) (s : State) : Kept s (paramTold n s) := by
  unfold paramTold
  split
  · exact (Undisturbed.setOdo (by exact rfl)).kept
  · split
    · exact (Undisturbed.setOdo (by exact rfl)).kept
    · exact .refl s
  · exact (deriveWindow_undisturbed s).kept
  · exact (deriveWindow_undisturbed s).kept
  · exact .relimitPart .radioLoss s
  · exact .relimitPart .odoDegraded s
  · exact .refl s

theorem setParameter_kept (n v : Nat) (s : State) : Kept s (setParameter n v s).2 := by
  rcases setParameter_cases n v s with e | ⟨r, -, -, -, -, e⟩ <;> rw [e]
  · exact .refl s
  · exact (Kept.of_frame (setParams_frame _ s)).trans (paramTold_kept_sound n _)

/-! ### Resets and line loads (R5, R7, R53) -/

theorem reset_sound : RestrictionsSound State.reset := by decide

theorem powerOn_kept (s : State) : Kept s (powerOn s) := by
  have h : Undisturbed State.reset (powerOn s) := .of_restr rfl rfl rfl rfl
  have hsound := h.kept.sound reset_sound
  exact ⟨.of_emptied rfl hsound.2.2.1, fun _ => hsound⟩

theorem softReset_kept (s : State) : Kept s (softReset s) := by
  refine ⟨softReset_tableKept s, fun ⟨hp, ha, hl, hn⟩ => ?_⟩
  refine ⟨(softReset_tableKept s).placed hp, (partEntriesAgree_iff _).2 ⟨fun hs w => ?_, fun hs o ho => ?_⟩,
    (softReset_tableKept s).log hl, hn⟩
  · rw [softReset_held, hs, Bool.true_and]
  · cases o with
    | none => rfl
    | some e =>
      obtain ⟨k, hk⟩ := List.getElem?_of_mem ho
      obtain ⟨w, rfl, -⟩ := resetTable_entry (s := softResetBlocks s) hk
      have hheld := softReset_held w s
      rw [hs, Bool.false_and] at hheld
      unfold partHeld at hheld
      rw [table_getD hk] at hheld
      cases hheld

theorem beginLineLoad_kept (s : State) : Kept s (beginLineLoad s) := by
  obtain ⟨hline, hodo, -⟩ := beginLineLoad_spec s
  obtain ⟨hrestr, -, -⟩ := beginLineLoad_cleared s
  have hk : TableKept s (beginLineLoad s) :=
    (clearTable_tableKept s).trans (.of_table (congrArg _ hrestr) fun h => by unfold LogBounded; rw [hrestr]; exact h)
  have hs : isSealed (beginLineLoad s) = false := by unfold isSealed; rw [hline]; rfl
  refine ⟨hk, fun ⟨hp, _, hl, _⟩ => ⟨hk.placed hp, (partEntriesAgree_iff _).2 ⟨fun ht => ?_, fun _ => ?_⟩, hk.log hl,
    fun _ => by rw [hodo]; rfl⟩⟩
  · rw [hs] at ht; cases ht
  · rw [hrestr]; exact clearTable_all_none s

theorem appendSection_kept (w : SectionWire) (s : State) : Kept s (appendSection w s).2 := by
  rcases appendSection_cases w s with e | ⟨r, -, -, -, e⟩ <;> rw [e]
  · exact .refl s
  · exact Undisturbed.kept (.of_restr (by exact rfl) rfl rfl (by exact rfl))

theorem sealLine_kept (s : State) : Kept s (sealLine s).2 := by
  unfold sealLine
  split
  · exact .refl s
  · next hst =>
    split
    · exact .refl s
    · let u := s.setLine { s.line with state := .sealed, check := lineCheckOf s.line.records }
      have frl := judgePart_frame .radioLoss u
      have fro := judgePart_frame .odoDegraded (judgePart .radioLoss u)
      have hsu0 : TableKept s u := .of_table rfl id
      have hk : TableKept s (judgePart .odoDegraded (judgePart .radioLoss u)) :=
        hsu0.trans ((judgePart_tableKept .radioLoss u).trans (judgePart_tableKept .odoDegraded _))
      have hsu : isSealed u = true := rfl
      have hsl : isSealed (judgePart .radioLoss u) = true :=
        (isSealed_congr (congrArg LineTable.state (frl .line (by decide)))).trans hsu
      have hst : isSealed (judgePart .odoDegraded (judgePart .radioLoss u)) = true :=
        (isSealed_congr (congrArg LineTable.state (fro .line (by decide)))).trans hsl
      refine ⟨hk, fun ⟨hp, _, hl, _⟩ => ⟨hk.placed hp, (partEntriesAgree_iff _).2 ⟨fun _ w => ?_, fun hn => ?_⟩, hk.log hl,
        fun hn => ?_⟩⟩
      · obtain ⟨hloss, -⟩ := judgePart_held .radioLoss hsu hp.1
        obtain ⟨hdeg, hkeep⟩ := judgePart_held .odoDegraded hsl ((judgePart_tableKept .radioLoss u).placed hp).1
        have hradio : (judgePart .odoDegraded (judgePart .radioLoss u)).radio = u.radio :=
          Eq.trans (fro .radio (by decide)) (frl .radio (by decide))
        cases w
        · rw [hkeep .radioLoss (by decide), hloss]
          exact congrArg (fun r : Radio => r.link == .lost) hradio.symm
        · rw [hdeg]
          exact congrArg (fun o : Odometry => o.state == .degraded) (judgePart_odo .odoDegraded _).symm
      · exact absurd (hst.symm.trans hn) (by decide)
      · exact absurd (hst.symm.trans hn) (by decide)

/-! ### Commands with a case split of their own -/

theorem Kept.branch {s t u : State} {p : Prop} [Decidable p] (ht : Kept s t) (hu : Kept s u) :
    Kept s (if p then t else u) := by
  split
  · exact ht
  · exact hu

theorem setTime_kept (v : Nat) (s : State) : ∃ t, execSetTime v s = .next t ∧ Kept s t :=
  ⟨_, rfl, .branch ((Kept.refl s).answered _ _ _) ((setClock_kept v s).answered _ _ _)⟩

theorem lineClockAdvance_kept (s : State) : ∃ t, execLineClockAdvance s = .next t ∧ Kept s t := by
  refine ⟨_, rfl, ?_⟩
  split
  · exact Undisturbed.kept ⟨rfl, id, rfl, rfl, rfl⟩
  · exact setClock_kept _ s

theorem readRestrictionLog_kept (s : State) : ∃ t, execReadRestrictionLog s = .next t ∧ Kept s t := by
  refine ⟨_, rfl, ?_⟩
  split
  · have h : Undisturbed s (s.setRestr { s.restr with overflow := 0 }) :=
      ⟨rfl, fun h => ⟨h.1, Nat.zero_le _⟩, rfl, rfl, rfl⟩
    exact h.kept.answered _ _ _
  · next c rest hlog =>
    have h : Undisturbed s (s.setRestr { s.restr with log := rest, overflow := 0 }) := by
      refine ⟨rfl, fun h => ⟨?_, Nat.zero_le _⟩, rfl, rfl, rfl⟩
      have hl := h.1
      rw [hlog] at hl
      exact (Nat.le_succ _).trans hl
    exact h.kept.answered _ _ _

theorem readMarkReport_kept (s : State) : ∃ t, execReadMarkReport s = .next t ∧ Kept s t := by
  refine ⟨_, rfl, ?_⟩
  split
  · exact (Kept.refl s).answered _ _ _
  · exact Kept.answered (Undisturbed.kept (.setOdo (by exact rfl))) _ _ _

theorem readDoorFault_kept (leaf : Nat) (s : State) : ∃ t, execReadDoorFault leaf s = .next t ∧ Kept s t := by
  refine ⟨_, rfl, ?_⟩
  unfold readDoorFault
  dsimp only
  repeat' split
  · exact (Kept.refl s).answered _ _ _
  · exact (Kept.refl s).answered _ _ _
  · exact (Kept.of_frame (setDoors_frame _ s)).answered _ _ _

theorem closeSide_kept (side : Nat) (s : State) : ∃ t, execCloseSide side s = .next t ∧ Kept s t := by
  refine ⟨_, rfl, ?_⟩
  split
  · exact (Kept.refl s).answered _ _ _
  · exact (Kept.of_frame (closeSide_frame _ s)).answered _ _ _

theorem leafRequests_kept (leaf : Nat) (s : State) :
    (∃ t, execIsolateLeaf leaf s = .next t ∧ Kept s t) ∧ (∃ t, execRestoreLeaf leaf s = .next t ∧ Kept s t) := by
  refine ⟨⟨_, rfl, ?_⟩, ⟨_, rfl, ?_⟩⟩ <;> split
  · exact (Kept.refl s).answered _ _ _
  · exact (Kept.of_frame (isolateLeaf_frame _ s)).answered _ _ _
  · exact (Kept.refl s).answered _ _ _
  · exact (Kept.of_frame (restoreLeaf_frame _ s)).answered _ _ _

/-! ### Every command and every step -/

theorem exec_kept (c : Instr) (s : State) : ∃ t, exec c s = .next t ∧ Kept s t := by
  obtain ⟨rParam, rSection, rWindow, rLookup, rRestr, rChannel, rFilter, rUplink, rAnalog⟩ := execRead_frame s
  have link {o : Host.Outcome State Fault Refusal} (h : ∃ t, o = .next t ∧ OnlyChanges [.link] s t) :
      ∃ t, o = .next t ∧ Kept s t := h.imp fun _ ht => ⟨ht.1, .of_frame ht.2⟩
  have read {r : Req} {res : Result} {data : List Byte} : Kept s (answer r res data s) :=
    .of_frame (answer_frame r res data s)
  have request {r : Req} {res : Result} {data : List Byte} {t : State} (h : Kept s t) :
      Kept s (answer r res data t) := h.answered r res data
  have leafMoved (id : LeafId) (f : LeafEnv → Leaf → Leaf × List DoorCause) : Kept s (moveLeaf id f s) :=
    .of_frame (moveLeaf_frame id f s)
  cases c with
  | powerOnReset => exact ⟨_, rfl, powerOn_kept s⟩
  | hostFrameRefused why => exact link (hostFrameRefused_frame why s)
  | nop => exact ⟨_, rfl, .of_frame (respond_frame _ _ _ s)⟩
  | readPage page => exact link (readPage_frame page s)
  | ident | readEvents | readLine | readStage | readRestrictionStatus | readSupervision | readTelegrams =>
    exact ⟨_, rfl, read⟩
  | clearEvents set | setEventMask set => exact ⟨_, rfl, request (.of_frame (setLink_frame _ s))⟩
  | readParameter n => exact link (rParam n)
  | setParameter n v => exact ⟨_, rfl, request (setParameter_kept n v s)⟩
  | reset => exact ⟨_, rfl, .branch (softReset_kept s) read⟩
  | lineLoadBegin => exact ⟨_, rfl, .branch (request (beginLineLoad_kept s)) read⟩
  | appendSection w => exact ⟨_, rfl, request (appendSection_kept w s)⟩
  | lineLoadEnd => exact ⟨_, rfl, request (sealLine_kept s)⟩
  | readSection i => exact link (rSection i)
  | readSectionNext => exact link (readSectionNext_frame s)
  | setSectionCursor i => exact link (setSectionCursor_frame i s)
  | readWindow k => exact link (rWindow k)
  | stageSection b => exact ⟨_, rfl, request (.of_frame (stageBlock_frame _ b s))⟩
  | commitStage id crc => exact ⟨_, rfl, request (commitUpdate_undisturbed _ id crc s).kept⟩
  | abortStage id => exact ⟨_, rfl, request (.of_frame (abortUpdate_frame _ id s))⟩
  | setPosition p u => exact ⟨_, rfl, request (setPosition_kept p u s)⟩
  | readOdometry => exact ⟨_, rfl, request (Undisturbed.kept (.setOdo (by exact rfl)))⟩
  | readMarkReport => exact readMarkReport_kept s
  | putRestriction w => exact ⟨_, rfl, request (.putRestriction (by decide) w s)⟩
  | retireRestriction id => exact ⟨_, rfl, request (.withdrawEntry (by decide) _ id s)⟩
  | setTime v => exact setTime_kept v s
  | lookupRestriction i id => exact link (rLookup i id)
  | readRestriction i => exact link (rRestr i)
  | nextRestriction => exact link (nextRestriction_frame s)
  | setRestrictionCursor i => exact link (setRestrictionCursor_frame i s)
  | readRestrictionLog => exact readRestrictionLog_kept s
  | setMode code => exact ⟨_, rfl, request (setMode_undisturbed code s).kept⟩
  | setDirection code => exact ⟨_, rfl, request (setDirection_undisturbed code s).kept⟩
  | brakeDemand l e => exact ⟨_, rfl, request (.of_frame (writeDemand_frame _ _ s))⟩
  | releaseTrip => exact ⟨_, rfl, .branch (request (releaseTrip_kept s)) read⟩
  | readBrakes => exact ⟨_, rfl, request (.of_frame (setBrakes_frame _ s))⟩
  | releaseSide side auto => exact ⟨_, rfl, request (.of_frame (releaseSide_frame side auto s))⟩
  | closeSide side => exact closeSide_kept side s
  | closeAll => exact ⟨_, rfl, request (.of_frame ((closeSide_frame .left s).trans (closeSide_frame .right _)))⟩
  | isolateLeaf leaf => exact (leafRequests_kept leaf s).1
  | restoreLeaf leaf => exact (leafRequests_kept leaf s).2
  | readDoors => exact ⟨_, rfl, request (.of_frame (setDoors_frame _ s))⟩
  | readDoorFault leaf => exact readDoorFault_kept leaf s
  | setSlot slot route => exact ⟨_, rfl, request (setSlot_undisturbed slot route s).kept⟩
  | radioReset => exact ⟨_, rfl, request (radioReset_kept s)⟩
  | setChannel cell ch => exact ⟨_, rfl, request (setChannel_undisturbed cell ch s).kept⟩
  | readRadio => exact ⟨_, rfl, request (Undisturbed.kept (.setRadio (by exact rfl)))⟩
  | readChannel i => exact link (rChannel i)
  | setFilter i en k v m => exact ⟨_, rfl, request (.of_frame (setFilter_frame i en k v m s))⟩
  | readFilter i => exact link (rFilter i)
  | readUplink i => exact link (rUplink i)
  | setSweep m e => exact ⟨_, rfl, request (.of_frame (setSweep_frame m e s))⟩
  | setCalibration w => exact ⟨_, rfl, request (.of_frame (setCalibration_frame w s))⟩
  | setWindow ch l h => exact ⟨_, rfl, request (.of_frame (setWindowLimits_frame ch l h s))⟩
  | readAnalog i => exact link (rAnalog i)
  | quadratureCount sensor x => exact ⟨_, rfl, takeCount_kept sensor x s⟩
  | phaseError sensor =>
    refine ⟨_, rfl, Kept.trans (Undisturbed.kept (.setOdo ?_)) (Undisturbed.kept (.of_odo (addOdoCause_frame _ _) rfl))⟩
    cases sensor <;> rfl
  | markDetection => exact ⟨_, rfl, detectMark_kept s⟩
  | clsChange leaf on | lksChange leaf on | opsChange leaf on | pbPressed leaf on =>
    exact ⟨_, rfl, .branch (.refl s) (leafMoved _ _)⟩
  | tLockExpiry leaf | tOpenExpiry leaf | tCloseExpiry leaf | tReopenExpiry leaf | tPauseExpiry leaf =>
    exact ⟨_, rfl, leafMoved _ _⟩
  | conversionComplete raw => exact ⟨_, rfl, .of_frame (completeConversion_frame raw s)⟩
  | positionSample => exact ⟨_, rfl, takeSample_kept s⟩
  | lineClockAdvance => exact lineClockAdvance_kept s
  | holdTimerExpiry => exact ⟨_, rfl, (holdExpired_undisturbed s).kept⟩
  | tRelExpiry => exact ⟨_, rfl, .of_frame (relExpired_frame s)⟩
  | tAppExpiry => exact ⟨_, rfl, .of_frame (appExpired_frame s)⟩
  | deficitTimerExpiry => exact ⟨_, rfl, (deficitExpired_undisturbed s).kept⟩
  | slotStart => exact ⟨_, rfl, (startSlot_undisturbed s).kept⟩
  | initSequenceEnd => exact ⟨_, rfl, .branch (finishInit_undisturbed s).kept (.refl s)⟩
  | holdoverTimerExpiry => exact ⟨_, rfl, (holdoverExpired_undisturbed s).kept⟩
  | radioLossTimerExpiry => exact ⟨_, rfl, .branch (linkExpired_kept s) (.refl s)⟩
  | telegramDiscarded d => exact ⟨_, rfl, .of_frame (discardTelegram_frame d s)⟩
  | beacon f cell src => exact ⟨_, rfl, (receiveBeacon_undisturbed f cell src s).kept⟩
  | time h v => exact ⟨_, rfl, receive_kept h (setClock_kept v) s⟩
  | restrict h w =>
    exact ⟨_, rfl, receive_kept h (fun t => (Kept.putRestriction (by decide) w t).acked _ _ _) s⟩
  | revoke h id => exact ⟨_, rfl, receive_kept h (fun t => (Kept.withdrawEntry (by decide) _ id t).acked _ _ _) s⟩
  | sectionBlock h b => exact ⟨_, rfl, receive_kept h (fun t => ackBlock_kept _ h b t) s⟩
  | sectionCommit h id crc => exact ⟨_, rfl, receive_kept h (fun t => ackCommit_kept id crc h t) s⟩
  | sectionAbort h id =>
    exact ⟨_, rfl, receive_kept h (fun t => (Kept.of_frame (abortUpdate_frame _ id t)).acked _ _ _) s⟩
  | slotGrant h slot p ph => exact ⟨_, rfl, receive_kept h (fun t => (takeGrant_undisturbed _ t).kept.acked _ _ _) s⟩
  | poll h => exact ⟨_, rfl, receive_kept h queueReport_kept s⟩
  | emergencyStop h => exact ⟨_, rfl, receive_kept h (fun t => (Kept.of_frame (radioStop_frame t)).acked _ _ _) s⟩
  | stopRelease h => exact ⟨_, rfl, receive_kept h (fun t => (Kept.of_frame (radioRelease_frame t)).acked _ _ _) s⟩

theorem idle_kept (s : State) : Kept s (idle s) := by
  unfold idle
  split
  · exact Undisturbed.kept ⟨rfl, id, rfl, rfl, rfl⟩
  · exact .of_frame (setPending_frame _ s)

theorem step_kept {s t : State} (h : step s = .next t) : Kept s t := by
  unfold step at h
  split at h
  · cases h
    exact idle_kept s
  · next c rest _ =>
    obtain ⟨u, hu, hk⟩ := exec_kept c (s.setPending rest)
    cases hu.symm.trans h
    exact (Kept.of_frame (setPending_frame rest s)).trans hk

end Sys2Proof.Machine

namespace Sys2Proof.Proofs

set_option Elab.async false

open Machine

/-- Settles O34: every operation leaves the table and its causes alone, changes the table outside the part's places, or
judges the part-issued entry of the cause it changes (`step_kept`). -/
theorem restrictionsStaySound : Obligations.RestrictionsStaySound := by
  unfold Obligations.RestrictionsStaySound
  exact fun s t h hs => (step_kept h).sound hs

/-- Settles O35: an entry is written under a name that no other entry has, since a new one is put only where none of its
name was found (R54) and a part-issued one only into its own place (R53). -/
theorem entriesStayDistinct : Obligations.EntriesStayDistinct := by
  unfold Obligations.EntriesStayDistinct
  exact fun s t h hp hd => ⟨(step_kept h).table.placed hp, (step_kept h).table.distinct hp hd⟩

end Sys2Proof.Proofs
end

section
/-! PROOFS. A put of a restriction and its withdrawal (O30, O31). -/

namespace Sys2Proof.Machine

set_option Elab.async false

/-! ### The fields of a put (R54, check 2) -/

theorem rkindOfCode_iff (n : Nat) (k : RKind) : rkindOfCode n = some k ↔ rkindCode k = n := by
  constructor
  · intro h; unfold rkindOfCode at h; split at h <;> cases h <;> rfl
  · rintro rfl; cases k <;> rfl

theorem rkindOfCode_eq_none_iff : ∀ n : Nat, rkindOfCode n = none ↔ n = 0 ∨ 3 < n
  | 0 | 1 | 2 | 3 => by decide
  | n + 4 => by simp [rkindOfCode]

theorem rdirOfCode_iff (n : Nat) (d : RDir) : rdirOfCode n = some d ↔ rdirCode d = n := by
  constructor
  · intro h; unfold rdirOfCode at h; split at h <;> cases h <;> rfl
  · rintro rfl; cases d <;> rfl

theorem rdirOfCode_eq_none_iff : ∀ n : Nat, rdirOfCode n = none ↔ n = 0 ∨ 3 < n
  | 0 | 1 | 2 | 3 => by decide
  | n + 4 => by simp [rdirOfCode]

theorem anySideOfCode_isSome_iff : ∀ n : Nat, (anySideOfCode n).isSome = true ↔ n ≠ 0 ∧ n ≤ 3
  | 0 | 1 | 2 | 3 => by decide
  | n + 4 => by simp [anySideOfCode]

theorem rkindCode_eq_iff (k : RKind) :
    (rkindCode k = 1 ↔ k = .speed) ∧ (rkindCode k = 2 ↔ k = .stop) ∧ (rkindCode k = 3 ↔ k = .door) := by
  cases k <;> decide

theorem rdirCode_eq_three_iff (d : RDir) : rdirCode d = 3 ↔ d = .both := by cases d <;> decide

theorem restrictionOfWire_eq_none_iff (issuer : Issuer) (w : PutWire) :
    restrictionOfWire issuer w = none ↔
      w.id = 0 ∨ 65519 < w.id ∨ w.kind = 0 ∨ 3 < w.kind ∨ w.direction = 0 ∨ 3 < w.direction
        ∨ (w.kind = 3 ∧ (w.limit = 0 ∨ 3 < w.limit)) := by
  unfold restrictionOfWire
  cases hk : rkindOfCode w.kind with
  | none =>
    rw [rkindOfCode_eq_none_iff] at hk
    simp only [true_iff]; omega
  | some k =>
    cases hd : rdirOfCode w.direction with
    | none =>
      rw [rdirOfCode_eq_none_iff] at hd
      simp only [true_iff]; omega
    | some d =>
      have hk' : ¬ (w.kind = 0 ∨ 3 < w.kind) := by rw [← rkindOfCode_eq_none_iff, hk]; nofun
      have hd' : ¬ (w.direction = 0 ∨ 3 < w.direction) := by rw [← rdirOfCode_eq_none_iff, hd]; nofun
      have hdoor : w.kind = 3 ↔ k = .door := by
        rw [← (rkindOfCode_iff _ _).1 hk]; exact (rkindCode_eq_iff k).2.2
      simp only [anySideOfCode_isSome_iff, ite_eq_right_iff, reduceCtorEq, imp_false, ← hdoor]
      omega

/-- An entry carries the fields of a put by an issuer; the limit of a STOP is stored as 0 (R54). -/
structure Carries (issuer : Issuer) (w : PutWire) (e : Restriction) : Prop where
  issuer : e.issuer = issuer
  id : e.id = w.id
  kind : rkindCode e.kind = w.kind
  dir : rdirCode e.dir = w.direction
  lo : e.lo = w.lo
  hi : e.hi = w.hi
  limit : e.limit = if w.kind = 2 then 0 else w.limit
  activation : e.activation = w.activation
  expiry : e.expiry = w.expiry

theorem restrictionOfWire_carries {issuer : Issuer} {w : PutWire} {e : Restriction}
    (h : restrictionOfWire issuer w = some e) : Carries issuer w e := by
  unfold restrictionOfWire at h
  split at h
  · next k d hk hd =>
    rw [rkindOfCode_iff] at hk
    rw [rdirOfCode_iff] at hd
    split at h
    · cases h
      exact ⟨rfl, rfl, hk, hd, rfl, rfl, if_congr (by rw [← hk, (rkindCode_eq_iff k).2.1]) rfl rfl, rfl, rfl⟩
    · cases h
  · cases h

/-! ### The checks of a put (R54, checks 3 and 4) -/

theorem rangeGood_eq_false_iff {issuer : Issuer} {w : PutWire} {e : Restriction} (h : Carries issuer w e) (s : State) :
    (!rangeGood e s) = true ↔
      w.lo < lineStart s ∨ lineEnd s ≤ w.lo ∨ w.hi < lineStart s ∨ lineEnd s ≤ w.hi ∨ w.hi < w.lo
        ∨ (w.kind = 2 ∧ (w.lo ≠ w.hi ∨ w.direction = 3)) ∨ (w.kind = 1 ∧ 600 < w.limit)
        ∨ (w.activation.any (fun a => w.expiry.any (· ≤ a))) = true := by
  obtain ⟨hspeed, hstop, -⟩ := rkindCode_eq_iff e.kind
  have hboth := rdirCode_eq_three_iff e.dir
  have hlimit : e.kind = .speed → e.limit = w.limit := fun hk => by
    rw [h.limit, ← h.kind, hk]; rfl
  unfold rangeGood
  rw [← h.kind, ← h.dir, ← h.lo, ← h.hi, ← h.activation, ← h.expiry, hspeed, hstop, hboth]
  rw [Bool.not_eq_true', ← Bool.not_eq_true]
  simp only [Bool.and_eq_true, Bool.not_eq_true', insideLine_iff, decide_eq_true_eq, beq_iff_eq, Bool.or_eq_true,
    bne_iff_ne, ← Bool.not_eq_true (_ && _), ← Bool.not_eq_true (Option.any _ _)]
  grind

theorem alreadyExpired_eq {issuer : Issuer} {w : PutWire} {e : Restriction} (h : Carries issuer w e) (s : State) :
    alreadyExpired e s = w.expiry.any (fun x => s.restr.clock.any (x ≤ ·)) := by rw [alreadyExpired, h.expiry]

theorem activeAt_iff (clock : Option Nat) (e : Restriction) :
    activeAt clock e = true ↔ ∀ a, e.activation = some a → ∃ c, clock = some c ∧ a ≤ c := by
  unfold activeAt
  cases e.activation with
  | none => simp
  | some a => simp [Option.any_eq_true]

/-! ### The outcomes of a put (R54, R55) -/

theorem putRestriction_unsealed (issuer : Issuer) (w : PutWire) {s : State} (h : s.line.state ≠ .sealed) :
    putRestriction issuer w s = (.noLine, s) := by
  unfold putRestriction isSealed
  rw [if_pos (by simpa using h)]

section
variable {issuer : Issuer} {w : PutWire} {s : State} {e : Restriction}

/-- On a SEALED line a put goes by the entry its fields spell. -/
theorem putRestriction_sealed (hs : s.line.state = .sealed) :
    putRestriction issuer w s =
      match restrictionOfWire issuer w with
      | none => (.badValue, s)
      | some e =>
        if (!rangeGood e s) = true then (.badRange, s)
        else if alreadyExpired e s = true then
          match findEntry issuer e.id s.restr with
          | none => (.expired, s)
          | some i =>
            match s.restr.table.getD i none with
            | none => (.expired, s)
            | some held => (.expired, restrChanged (retireAt .expired i held s.restr) s)
        else putChecked e s := by
  unfold putRestriction isSealed
  rw [hs]
  rfl

theorem putRestriction_badValue (hs : s.line.state = .sealed) (h : restrictionOfWire issuer w = none) :
    putRestriction issuer w s = (.badValue, s) := by
  rw [putRestriction_sealed hs, h]

theorem putRestriction_badRange (hs : s.line.state = .sealed) (h : restrictionOfWire issuer w = some e)
    (hr : (!rangeGood e s) = true) : putRestriction issuer w s = (.badRange, s) := by
  rw [putRestriction_sealed hs, h]
  exact if_pos hr

/-- A put that expired before it came ends the issuer's entry of that id, if there is one (R55). -/
theorem putRestriction_expired (hs : s.line.state = .sealed) (h : restrictionOfWire issuer w = some e)
    (hr : ¬ (!rangeGood e s) = true) (hx : alreadyExpired e s = true) :
    (putRestriction issuer w s).1 = .expired
      ∧ (findEntry issuer w.id s.restr = none → (putRestriction issuer w s).2 = s)
      ∧ (∀ i held, findEntry issuer w.id s.restr = some i → s.restr.table[i]? = some (some held) →
          EntryChanged .retired (some .expired) i held none s (putRestriction issuer w s).2) := by
  rw [putRestriction_sealed hs, h]
  dsimp only
  rw [if_neg hr, if_pos hx, (restrictionOfWire_carries h).id]
  cases hf : findEntry issuer w.id s.restr with
  | none => exact ⟨rfl, fun _ => rfl, nofun⟩
  | some i =>
    obtain ⟨old, hold, -⟩ := findEntry_entry hf
    dsimp only
    rw [table_getD hold]
    refine ⟨rfl, nofun, fun j held hj hheld => ?_⟩
    cases hj
    cases hold.symm.trans hheld
    exact retireAt_changed _ _ _ s

theorem putRestriction_checked (hs : s.line.state = .sealed) (h : restrictionOfWire issuer w = some e)
    (hr : ¬ (!rangeGood e s) = true) (hx : ¬ alreadyExpired e s = true) :
    putRestriction issuer w s = putChecked e s := by
  rw [putRestriction_sealed hs, h]
  dsimp only
  rw [if_neg hr, if_neg hx]

end

/-- Two entries that differ at most in their state. -/
theorem same_but_state_iff (old e : Restriction) :
    ({ old with active := false } : Restriction) = { e with active := false }
      ↔ { old with active := e.active } = e := by
  constructor
  · intro h
    exact congrArg (fun x : Restriction => { x with active := e.active }) h
  · intro h
    exact congrArg (fun x : Restriction => { x with active := false }) h

/-- A checked put whose issuer and id are not in the table: the lowest FREE index of 0 to 29, or TABLE_FULL (R53,
R54). -/
theorem putChecked_new (e : Restriction) {s : State} (h : findEntry e.issuer e.id s.restr = none) :
    (∀ i < 30, s.restr.table[i]? = some none → (∀ k < i, s.restr.table[k]? ≠ some none) →
        (putChecked e s).1 = .accepted
        ∧ EntryChanged .inserted none i { e with active := activeAt s.restr.clock e }
            (some { e with active := activeAt s.restr.clock e }) s (putChecked e s).2)
      ∧ ((∀ i < 30, s.restr.table[i]? ≠ some none) → (putChecked e s).1 = .tableFull ∧ (putChecked e s).2 = s) := by
  unfold putChecked
  rw [h]
  constructor
  · intro i hi hfree hlow
    rw [(lowestFree_eq_some_iff _ _).2 ⟨hi, hfree, hlow⟩]
    exact ⟨rfl, storeAt_changed _ _ _ s⟩
  · intro hfull
    rw [(lowestFree_eq_none_iff _).2 hfull]
    exact ⟨rfl, rfl⟩

/-- A checked put whose issuer and id are in the table: nothing to change, or the entry updated in its index (R54). -/
theorem putChecked_held (e : Restriction) {old : Restriction} {i : Nat} {s : State}
    (h : findEntry e.issuer e.id s.restr = some i) (hold : s.restr.table[i]? = some (some old)) :
    ({ old with active := activeAt s.restr.clock e } = { e with active := activeAt s.restr.clock e } →
        (putChecked e s).1 = .unchanged ∧ (putChecked e s).2 = s)
      ∧ ({ old with active := activeAt s.restr.clock e } ≠ { e with active := activeAt s.restr.clock e } →
        (putChecked e s).1 = .updated
        ∧ EntryChanged .updated none i { e with active := activeAt s.restr.clock e }
            (some { e with active := activeAt s.restr.clock e }) s (putChecked e s).2) := by
  have hsame := same_but_state_iff old { e with active := activeAt s.restr.clock e }
  have hcmp : (s.restr.table.getD i none).map (fun o => { o with active := false }) = some { e with active := false }
      ↔ { old with active := activeAt s.restr.clock e } = { e with active := activeAt s.restr.clock e } := by
    rw [table_getD hold, Option.map_some, Option.some.injEq]
    exact hsame
  unfold putChecked
  rw [h]
  constructor
  · intro heq
    dsimp only
    rw [if_pos (hcmp.2 heq)]
    exact ⟨rfl, rfl⟩
  · intro hne
    dsimp only
    rw [if_neg (mt hcmp.1 hne)]
    exact ⟨rfl, storeAt_changed _ _ _ s⟩

end Sys2Proof.Machine

namespace Sys2Proof.Proofs

set_option Elab.async false

open Machine

/-- Settles O31: a withdrawal goes by the lookup of the issuer's own entry. -/
theorem withdrawRestriction : Obligations.WithdrawRestriction := by
  refine ⟨fun issuer cause id s =>
      ⟨fun i e hi he => ?_, fun hnone => ?_, findEntry_eq_some_iff issuer id s.restr⟩,
    fun id s => ⟨_, rfl, (withdrawEntry_frame .car .withdrawn id s).answered _ _ _, rfl, answerResult_answered _ _⟩⟩
  · rw [withdrawEntry_found cause hi he]
    exact ⟨rfl, retireAt_changed cause i e s⟩
  · have hany : s.restr.table.any (·.any (·.id == id)) = true ↔ ∃ e, some e ∈ s.restr.table ∧ e.id = id := by
      simp [List.any_eq_true, Option.any_eq_true]
    rw [withdrawEntry_missing cause hnone]
    refine ⟨rfl, fun hheld => if_pos (hany.2 hheld), fun hno => if_neg fun hheld => ?_⟩
    obtain ⟨e, he, hid⟩ := hany.1 hheld
    exact hno e he hid

/-- Settles O30: one case per check of R54, in their order, and then by the lookup of the issuer's own entry. -/
theorem putRestriction : Obligations.PutRestriction := by
  refine ⟨fun issuer w s => ?_,
    fun w s => ⟨_, rfl, (putRestriction_frame .car w s).answered _ _ _, rfl, answerResult_answered _ _⟩⟩
  dsimp only
  split
  · next hs => rw [putRestriction_unsealed issuer w hs]; exact ⟨rfl, rfl⟩
  next hs =>
  rw [not_not] at hs
  have hnone := restrictionOfWire_eq_none_iff issuer w
  split
  · next hbad => rw [putRestriction_badValue hs (hnone.2 hbad)]; exact ⟨rfl, rfl⟩
  next hbad =>
  cases hw : restrictionOfWire issuer w with
  | none => exact absurd (hnone.1 hw) hbad
  | some e =>
    have hc := restrictionOfWire_carries hw
    have hrange := rangeGood_eq_false_iff hc s
    have hpast := alreadyExpired_eq hc s
    split
    · next hr => rw [putRestriction_badRange hs hw (hrange.2 hr)]; exact ⟨rfl, rfl⟩
    next hr =>
    split
    · next hx => exact putRestriction_expired hs hw (mt hrange.1 hr) (hpast.trans hx)
    next hx =>
    rw [putRestriction_checked hs hw (mt hrange.1 hr) (by rw [hpast]; exact hx)]
    refine ⟨{ e with active := activeAt s.restr.clock e }, hc.issuer, hc.id, hc.kind, hc.dir, hc.lo, hc.hi, hc.limit,
      hc.activation, hc.expiry, ?_, fun hnone => ?_, fun i old hi hold => ?_⟩
    · rw [← hc.activation]; exact activeAt_iff _ e
    · exact putChecked_new e (by rw [hc.issuer, hc.id]; exact hnone)
    · exact putChecked_held e (by rw [hc.issuer, hc.id]; exact hi) hold

end Sys2Proof.Proofs
end

section
/-! PROOFS. The line clock (O32): what its new value does to an entry and to the log. -/

namespace Sys2Proof.Machine

set_option Elab.async false

/-- The entry after a new value of the line clock (R61): FREE once expired, ACTIVE once due. -/
theorem changedEntry_clock (v : Nat) (e : Restriction) :
    changedEntry (clockChange v) e =
      if e.expiry.any (· ≤ v) then none
      else if !e.expiry.any (· ≤ v) && !e.active && e.activation.any (· ≤ v) then some { e with active := true }
      else some e := by
  unfold changedEntry clockChange
  by_cases hx : e.expiry.any (· ≤ v) = true
  · simp [hx]
  · by_cases ha : (!e.active && e.activation.any (· ≤ v)) = true
    · simp [hx, ha]
    · simp [hx, ha]

/-- The record a new value of the line clock writes for the entry at an index (R61, R68). -/
theorem changeRecord_clock (v : Nat) {r : Restrictions} (hr : r.clock = some v) (k : Nat) :
    changeRecord (clockChange v) r k =
      (r.table[k]?.getD none).bind fun e =>
        if e.expiry.any (· ≤ v) then some ⟨.retired, some .expired, some (e.issuer, e.id, e.kind, k), some v⟩
        else if !e.expiry.any (· ≤ v) && !e.active && e.activation.any (· ≤ v) then
          some ⟨.activated, none, some (e.issuer, e.id, e.kind, k), some v⟩
        else none := by
  unfold changeRecord
  rw [List.getD_eq_getElem?_getD, hr]
  congr 1
  funext e
  unfold clockChange
  by_cases hx : e.expiry.any (· ≤ v) = true
  · simp [hx]
  · by_cases ha : (!e.active && e.activation.any (· ≤ v)) = true
    · simp [hx, ha]
    · simp [hx, ha]

end Sys2Proof.Machine

namespace Sys2Proof.Proofs

set_option Elab.async false

open Machine

/-- Settles O32: the evaluation of the table, with the change and the record of each entry as the clock gives them. -/
theorem lineClock : Obligations.LineClock := by
  refine ⟨fun v s hlen hlog => ?_, fun v s => ?_, fun s => ?_⟩
  · intro t expired activated records
    let s' : State := s.setRestr { s.restr with clock := some v, second := Config.secondMs }
    have hrecords : records = (List.range 32).filterMap (changeRecord (clockChange v) s'.restr) := by
      refine List.filterMap_congr fun k _ => ?_
      rw [changeRecord_clock v rfl k]
      show _ = (s.restr.table[k]?.getD none).bind _
      rcases s.restr.table[k]? with _ | _ | e <;> rfl
    obtain ⟨⟨hl, ho⟩, hlink, hclock, hsecond⟩ := changeAll_runs (clockChange v) (s := s') hlen hlog
    rw [← hrecords] at hl ho hlink
    refine ⟨setClock_frame v s, hclock, hsecond, fun k hk o hko => ?_, hl, ho, hlink⟩
    calc t.restr.table[k]? = s'.restr.table[k]?.map (·.bind (changedEntry (clockChange v))) := changeAll_get _ s' hk
      _ = some (o.bind (changedEntry (clockChange v))) := congrArg (Option.map _) hko
      _ = _ := by rw [funext (changedEntry_clock v)]
  · refine ⟨_, rfl, fun c hc => ?_, fun hc => ?_⟩
    · rw [if_pos (by rw [hc]; rfl)]
      exact answer_only _ _ _ s
    · rw [if_neg (by rw [hc]; nofun)]
      exact ⟨(setClock_frame v s).answered _ _ _, rfl, answer_answered _ _ _ _⟩
  · refine ⟨_, rfl, fun hc => ?_, fun c hc => ?_⟩
    · rw [hc]
      exact ⟨(setRestr_frame _ s).mono (by decide), rfl⟩
    · have hnext : min (c + 1) 4294967295 = if c < 4294967295 then c + 1 else 4294967295 := by split <;> omega
      rw [hc, ← hnext]

end Sys2Proof.Proofs
end

section
/-! PROOFS. The reads of the Restriction Table and its log (O33). -/

namespace Sys2Proof.Machine

set_option Elab.async false

theorem issuerOfCode_iff (n : Nat) (x : Issuer) : issuerOfCode n = some x ↔ issuerCode x = n := by
  constructor
  · intro h; unfold issuerOfCode at h; split at h <;> cases h <;> rfl
  · rintro rfl; cases x <;> rfl

theorem issuerOfCode_eq_none_iff : ∀ n : Nat, issuerOfCode n = none ↔ n = 0 ∨ 3 < n
  | 0 | 1 | 2 | 3 => by decide
  | n + 4 => by simp [issuerOfCode]

theorem entryAt_eq {s : State} {i : Nat} {o : Option Restriction} (h : s.restr.table[i]? = some o) : entryAt s i = o :=
  table_getD h

/-- An entry in an answer: index, issuer and state, then the 23 put fields (R201). -/
theorem restrictionBytes_eq (i : Nat) (e : Restriction) :
    restrictionBytes i e =
      u8 i ++ u8 (issuerCode e.issuer) ++ u8 (if e.active then 2 else 1)
        ++ (u16 e.id ++ u8 (rkindCode e.kind) ++ u8 (rdirCode e.dir) ++ u32 e.lo ++ u32 e.hi ++ u16 e.limit
          ++ u8 ((if e.activation.isSome then 1 else 0) + (if e.expiry.isSome then 2 else 0))
          ++ u32 (e.activation.getD 0) ++ u32 (e.expiry.getD 0)) := by
  simp only [restrictionBytes, List.append_assoc]

/-- The walk stops at the lowest occupied index from the cursor up (R72). -/
theorem nextOccupied_eq_some {c i : Nat} {r : Restrictions} {e : Restriction} (hc : c ≤ i) (hi : i < 32)
    (he : r.table[i]? = some (some e)) (hfree : ∀ k, c ≤ k → k < i → r.table[k]? = some none) :
    nextOccupied c r = some i := by
  unfold nextOccupied
  rw [List.find?_range_eq_some]
  refine ⟨by simp [hc, he], List.mem_range.2 hi, fun k hk => ?_⟩
  by_cases hck : c ≤ k
  · simp [hfree k hck hk]
  · simp [hck]

theorem nextOccupied_eq_none {c : Nat} {r : Restrictions}
    (h : ∀ k e, c ≤ k → k < 32 → r.table[k]? ≠ some (some e)) : nextOccupied c r = none := by
  unfold nextOccupied
  refine List.find?_eq_none.2 fun k hk hocc => ?_
  rw [Bool.and_eq_true, decide_eq_true_eq, List.getD_eq_getElem?_getD] at hocc
  obtain ⟨hck, hsome⟩ := hocc
  rcases ho : r.table[k]? with _ | _ | e
  · rw [ho] at hsome; cases hsome
  · rw [ho] at hsome; cases hsome
  · exact h k e hck (List.mem_range.1 hk) ho

/-! ### The reads -/

theorem lookupRestriction_answers (code id : Nat) (s : State) :
    ∃ t, execLookupRestriction code id s = .next t
      ∧ ((code = 0 ∨ 3 < code) → AnsweredOnly .lookupRestriction .badValue (noRecord 26) s t)
      ∧ (∀ x, issuerCode x = code →
          (∀ i e, findEntry x id s.restr = some i → s.restr.table[i]? = some (some e) →
            AnsweredOnly .lookupRestriction .accepted (restrictionBytes i e) s t)
          ∧ (findEntry x id s.restr = none → AnsweredOnly .lookupRestriction .notFound (noRecord 26) s t)) := by
  refine ⟨_, rfl, fun hc => ?_, fun x hx => ⟨fun i e hi he => ?_, fun hnone => ?_⟩⟩
  · rw [(issuerOfCode_eq_none_iff code).2 hc]
    exact answer_only _ _ _ s
  · rw [(issuerOfCode_iff code x).2 hx]
    dsimp only
    rw [hi, Option.bind_some, entryAt_eq he]
    exact answer_only _ _ _ s
  · rw [(issuerOfCode_iff code x).2 hx]
    dsimp only
    rw [hnone]
    exact answer_only _ _ _ s

theorem readRestriction_answers (i : Nat) (s : State) :
    ∃ t, execReadRestriction i s = .next t
      ∧ (31 < i → AnsweredOnly .readRestriction .badValue (noRecord 26) s t)
      ∧ (∀ e, i ≤ 31 → s.restr.table[i]? = some (some e) →
          AnsweredOnly .readRestriction .accepted (restrictionBytes i e) s t)
      ∧ (i ≤ 31 → s.restr.table[i]? = some none → AnsweredOnly .readRestriction .free (noRecord 26) s t) := by
  refine ⟨_, rfl, fun hi => ?_, fun e hi he => ?_, fun hi he => ?_⟩
  · rw [if_pos hi]
    exact answer_only _ _ _ s
  · rw [if_neg hi.not_gt, entryAt_eq he]
    exact answer_only _ _ _ s
  · rw [if_neg hi.not_gt, entryAt_eq he]
    exact answer_only _ _ _ s

theorem nextRestriction_answers (s : State) :
    ∃ t, execNextRestriction s = .next t ∧ OnlyChanges [.link] s t
      ∧ (∀ i e, s.link.resCursor ≤ i → i < 32 → s.restr.table[i]? = some (some e) →
          (∀ k, s.link.resCursor ≤ k → k < i → s.restr.table[k]? = some none) →
          Answered .nextRestriction .accepted (restrictionBytes i e) { s.link with resCursor := i + 1 } t)
      ∧ ((∀ k e, s.link.resCursor ≤ k → k < 32 → s.restr.table[k]? ≠ some (some e)) →
          Answered .nextRestriction .endOfWalk (noRecord 26) { s.link with resCursor := 32 } t) := by
  refine ⟨_, rfl, ?_, fun i e hc hi he hfree => ?_, fun hnone => ?_⟩
  · split
    · exact (setLink_frame _ s).answered _ _ _
    · exact (setLink_frame _ s).answered _ _ _
  · rw [nextOccupied_eq_some hc hi he hfree, Option.bind_some, entryAt_eq he]
    exact answer_answered _ _ _ _
  · rw [nextOccupied_eq_none hnone]
    exact answer_answered _ _ _ _

theorem setRestrictionCursor_answers (i : Nat) (s : State) :
    ∃ t, execSetRestrictionCursor i s = .next t ∧ OnlyChanges [.link] s t
      ∧ (i ≤ 32 → Answered .setRestrictionCursor .accepted [] { s.link with resCursor := i } t)
      ∧ (32 < i → Answered .setRestrictionCursor .badValue [] s.link t) := by
  refine ⟨_, rfl, ?_, fun hi => ?_, fun hi => ?_⟩
  · split
    · exact (setLink_frame _ s).answered _ _ _
    · exact answer_frame _ _ _ s
  · rw [if_pos hi]
    exact answer_answered _ _ _ _
  · rw [if_neg hi.not_ge]
    exact answer_answered _ _ _ _

theorem readRestrictionStatus_answers (s : State) :
    ∃ t, execReadRestrictionStatus s = .next t
      ∧ AnsweredOnly .readRestrictionStatus .accepted
          (u8 (if s.restr.clock.isSome then 1 else 0) ++ flagged32 s.restr.clock
            ++ u8 (countEntries .valley false s.restr) ++ u8 (countEntries .valley true s.restr)
            ++ u8 (countEntries .car false s.restr) ++ u8 (countEntries .car true s.restr)
            ++ u8 (countEntries .part false s.restr) ++ u8 (countEntries .part true s.restr)
            ++ u8 ((s.restr.table.take 30).countP (·.isNone)) ++ u8 s.restr.log.length ++ u8 s.restr.overflow
            ++ u8 s.link.resCursor) s t := by
  refine ⟨_, rfl, ?_⟩
  simp only [issuerCounts, ← List.append_assoc]
  exact answer_only _ _ _ s

/-- The oldest record leaves the log and the overflow count is set to 0, whatever the answer (R69). -/
theorem readRestrictionLog_answers (s : State) :
    ∃ t, execReadRestrictionLog s = .next t ∧ OnlyChanges [.restr, .link] s t
      ∧ t.restr = { s.restr with log := s.restr.log.drop 1, overflow := 0 }
      ∧ (s.restr.log = [] → Answered .readRestrictionLog .none
          (noRecord 12 ++ u8 0 ++ u8 s.restr.overflow) s.link t)
      ∧ (∀ c rest, s.restr.log = c :: rest → Answered .readRestrictionLog .accepted
          (changeBytes c ++ u8 rest.length ++ u8 s.restr.overflow) s.link t) := by
  have frame (r : Restrictions) : OnlyChanges [.restr, .link] s (s.setRestr r) := (setRestr_frame r s).mono (by decide)
  unfold execReadRestrictionLog
  rcases hlog : s.restr.log with _ | ⟨c, rest⟩
  · refine ⟨_, rfl, (frame _).answered _ _ _, ?_, fun _ => answer_answered _ _ _ _, nofun⟩
    exact congrArg (fun l => ({ s.restr with log := l, overflow := 0 } : Restrictions)) hlog
  · refine ⟨_, rfl, (frame _).answered _ _ _, rfl, nofun, ?_⟩
    rintro _ _ ⟨⟩
    exact answer_answered _ _ _ _

end Sys2Proof.Machine

namespace Sys2Proof.Proofs

set_option Elab.async false

open Machine

/-- Settles O33: each read by its own lemma, with the bytes of an entry as R201 orders them. -/
theorem restrictionReads : Obligations.RestrictionReads := by
  intro s
  dsimp only
  simp only [← restrictionBytes_eq]
  exact ⟨fun code id => lookupRestriction_answers code id s, fun i => readRestriction_answers i s,
    nextRestriction_answers s, fun i => setRestrictionCursor_answers i s, readRestrictionStatus_answers s,
    readRestrictionLog_answers s⟩

end Sys2Proof.Proofs
end

section
/-! PROOFS. A step with no command waiting (O2): the first timer that has run out, or a millisecond. -/

namespace Sys2Proof.Machine

set_option Elab.async false

/-! ### The timers in their order (log 3) -/

theorem due_iff (t : Option Nat) : due t = true ↔ t = some 0 := by simp [due]

theorem findSome?_cons_or {α β : Type} (f : α → Option β) (a : α) (l : List α) :
    (a :: l).findSome? f = (f a).or (l.findSome? f) := by
  rw [List.findSome?_cons]
  cases f a <;> rfl

theorem ite_some_or {α : Type} (p : Prop) [Decidable p] (a : α) (x o : Option α) :
    (if p then some a else x).or o = if p then some a else x.or o := by split <;> rfl

theorem ite_some_ite {α : Type} (p q : Prop) [Decidable p] [Decidable q] (a b : α) (o : Option α) :
    (if p then some (if q then a else b) else o) = if p ∧ q then some a else if p then some b else o := by
  by_cases hp : p
  · by_cases hq : q
    · simp [hp, hq]
    · simp [hp, hq]
  · simp [hp]

/-- The expiry of the first leaf whose motion timer has run out. -/
def leavesDue (ls : Leaves) : Option Instr :=
  [LeafId.l1, .l2, .l3, .r4, .r5, .r6].findSome? fun id => leafDue id (getLeaf ls id)

theorem leavesDue_eq (ls : Leaves) :
    leavesDue ls = (leafDue .l1 ls.l1).or ((leafDue .l2 ls.l2).or ((leafDue .l3 ls.l3).or ((leafDue .r4 ls.r4).or
      ((leafDue .r5 ls.r5).or (leafDue .r6 ls.r6))))) := by
  unfold leavesDue
  simp only [findSome?_cons_or, List.findSome?_nil, Option.or_none, getLeaf]

theorem dueCommands_head? (s : State) :
    (dueCommands s).head? =
      if s.odo.sampleTimer = 0 then some .positionSample
      else if s.restr.second = 0 then some .lineClockAdvance
      else if holdTimer s = some 0 then some .holdTimerExpiry
      else if s.brakes.rackTimer = some 0 ∧ s.brakes.rack = .releasing then some .tRelExpiry
      else if s.brakes.rackTimer = some 0 then some .tAppExpiry
      else if s.brakes.deficitTimer = some 0 then some .deficitTimerExpiry
      else (leavesDue s.doors.leaves).or
        (if s.radio.initTimer = some 0 then some .initSequenceEnd
        else if s.radio.slotTimer = some 0 then some .slotStart
        else if s.radio.holdover = some 0 then some .holdoverTimerExpiry
        else if s.radio.loss = some 0 then some .radioLossTimerExpiry
        else none) := by
  unfold dueCommands
  rw [List.head?_filterMap, leavesDue_eq]
  simp only [findSome?_cons_or, List.findSome?_nil, id_eq, ite_some_or, Option.none_or, due_iff,
    Option.some.injEq, Option.or_none,
    ite_some_ite, Option.or_assoc]

theorem idle_of_due {s : State} {c : Instr} (h : (dueCommands s).head? = some c) : idle s = s.setPending [c] := by
  unfold idle
  split
  · next hnil => rw [hnil] at h; cases h
  · next hcons => rw [hcons] at h; cases h; rfl

theorem idle_of_none_due {s : State} (h : (dueCommands s).head? = none) : idle s = passMillisecond s := by
  unfold idle
  rw [List.head?_eq_none_iff.1 h]

theorem passMillisecond_frame (s : State) :
    OnlyChanges [.staging, .odo, .restr, .brakes, .doors, .radio] s (passMillisecond s) := by
  intro b hb; cases b <;> first | rfl | simp at hb

end Sys2Proof.Machine

namespace Sys2Proof.Proofs

set_option Elab.async false

open Machine

/-- Settles O2: the head of the due commands is the first timer that has run out, and with none every timer lapses. -/
theorem emptyQueueLetsTimePass : Obligations.EmptyQueueLetsTimePass := by
  intro s hs leaf first
  have hleaf : leaf = fun id => leafDue id (getLeaf s.doors.leaves id) := by
    funext id
    dsimp only [leaf, leafDue]
    rcases (getLeaf s.doors.leaves id).timer with _ | ⟨w, _ | n⟩
    · rfl
    · cases w <;> rfl
    · cases w <;> rfl
  have hhold : (holdTimer s = some 0) = ((match s.staging with | .held _ n => n == 0 | _ => false) = true) := by
    unfold holdTimer
    cases s.staging <;> simp
  have hfirst : (dueCommands s).head? = first := by
    rw [dueCommands_head?]
    refine ite_congr rfl (fun _ => rfl) fun _ => ite_congr rfl (fun _ => rfl) fun _ => ite_congr hhold (fun _ => rfl)
      fun _ => ite_congr rfl (fun _ => rfl) fun _ => ite_congr rfl (fun _ => rfl) fun _ =>
        ite_congr rfl (fun _ => rfl) fun _ => ?_
    rw [hleaf]
    cases hd : leavesDue s.doors.leaves with
    | none => rw [leavesDue] at hd; rw [hd]; rfl
    | some c => rw [leavesDue] at hd; rw [hd]; rfl
  refine ⟨idle s, by rw [step, hs], fun c hc => ?_, fun hnone => ?_⟩
  · rw [idle_of_due (hfirst.trans hc)]
    exact ⟨rfl, setPending_frame _ s⟩
  · rw [idle_of_none_due (hfirst.trans hnone)]
    refine ⟨passMillisecond_frame s, rfl, rfl, rfl, rfl, fun u n hst => ?_, fun hst => ?_,
      fun id => getLeaf_mapLeaves lapseLeaf s.doors.leaves id, rfl⟩
    · exact congrArg lapseStaging hst
    · show lapseStaging s.staging = s.staging
      cases hst' : s.staging with
      | idle => rfl
      | filling u => rfl
      | held u n => exact absurd hst' (hst u n)

end Sys2Proof.Proofs
end

section
/-! PROOFS. The brakes as one invariant (R80, R103, R109, R116, R140): what a write of an entry, a move of the rack brake
and a re-derivation of car closed make of it. -/

namespace Sys2Proof.Machine

set_option Elab.async false

/-! ### The invariant in parts -/

/-- The rack brake's own part: its coil is off under the emergency last found, and its timer runs in exactly the states
that have one (R109). A new entry in the table leaves it as it is. -/
structure RackSound (b : Brakes) : Prop where
  coil : rbcoil b = true → b.emergency = false
  timed : b.rackTimer.isSome = (b.rack == .releasing || b.rack == .applying || b.rack == .faultNotReleased)

/-- The demand table combined: both values are what the entries make them (R103), the rack brake told. -/
structure Combined (b : Brakes) : Prop extends RackSound b where
  emergency : b.emergency = emergencyOf b
  effort : b.effort = effortOf b

/-- The table combined and the permit judged (R103, R116). -/
structure Judged (s : State) : Prop where
  combined : Combined s.brakes
  permit : s.brakes.tperm = permitHolds s.sup s.doors.closed s.brakes

/-- The table combined, the permit judged and car closed derived (R140). -/
structure Braked (s : State) : Prop extends Judged s where
  closed : s.doors.closed = carClosed s.doors.leaves

theorem brakesSound_iff (s : State) : BrakesSound s ↔ Braked s ∧ SupervisorEntry s := by
  constructor
  · rintro ⟨⟨hem, heff, hperm, hclosed⟩, hcoil, htimed, hentry⟩
    exact ⟨⟨⟨⟨⟨fun h => hem.trans (hcoil h), htimed⟩, hem, heff⟩, hperm⟩, hclosed⟩, hentry⟩
  · rintro ⟨⟨⟨⟨⟨hcoil, htimed⟩, hem, heff⟩, hperm⟩, hclosed⟩, hentry⟩
    exact ⟨⟨hem, heff, hperm, hclosed⟩, fun h => hem.symm.trans (hcoil h), htimed, hentry⟩

/-! ### A combination and a write (R103, R104, R110) -/

/-- Under a fresh emergency the rack brake holds its coil off, whatever it did before (R110). -/
theorem rackTold_coil (p : Params) {b : Brakes} (h : b.emergency = true) : rbcoil (rackTold p b) = false := by
  unfold rackTold rbcoil
  cases hr : b.rack <;> simp [h, hr]

theorem rackTold_timed (p : Params) {b : Brakes}
    (h : b.rackTimer.isSome = (b.rack == .releasing || b.rack == .applying || b.rack == .faultNotReleased)) :
    (rackTold p b).rackTimer.isSome = ((rackTold p b).rack == .releasing || (rackTold p b).rack == .applying
      || (rackTold p b).rack == .faultNotReleased) := by
  unfold rackTold
  split
  · rfl
  · rfl
  · rfl
  · exact h

theorem effortOf_congr {b c : Brakes} (h : ∀ src, getDemand c src = getDemand b src) : effortOf c = effortOf b := by
  have hem : emergencyOf c = emergencyOf b := emergencyOf_congr fun src => by rw [h]
  have hall : allDemands c = allDemands b := by
    simp only [allDemands, List.cons.injEq, and_true]
    exact ⟨h .supervisor, h .odometry, h .doors, h .radio, h .host, h .brake⟩
  unfold effortOf highestLevel
  rw [hem, hall]

/-- Whatever the entries are, the combination is made of them (R103). -/
theorem RackSound.combined {p : Params} {b : Brakes} (h : RackSound b) : Combined (combined p b) := by
  obtain ⟨hem, heff, hd⟩ := combined_spec p b
  obtain ⟨hsame, htold⟩ := combined_rack p b
  have hof : emergencyOf (Machine.combined p b) = emergencyOf b := emergencyOf_congr fun src => by rw [hd]
  refine ⟨⟨fun hc => ?_, ?_⟩, hem.trans hof.symm, heff.trans (effortOf_congr hd).symm⟩
  · by_cases he : emergencyOf b = b.emergency
    · rw [hem, he]
      exact h.coil (by unfold rbcoil at hc ⊢; rwa [(hsame he).1] at hc)
    · rw [hem]
      by_contra htrue
      have hoff := rackTold_coil p (b := { b with emergency := emergencyOf b, effort := effortOf b })
        (by simpa using htrue)
      unfold rbcoil at hc hoff
      rw [(htold he).1, hoff] at hc
      cases hc
  · by_cases he : emergencyOf b = b.emergency
    · rw [(hsame he).1, (hsame he).2]; exact h.timed
    · rw [(htold he).1, (htold he).2]
      exact rackTold_timed p h.timed

theorem Combined.with_permit {b : Brakes} (h : Combined b) (x : Bool) : Combined { b with tperm := x } :=
  ⟨⟨h.coil, h.timed⟩, h.emergency, h.effort⟩

theorem RackSound.putDemand {b : Brakes} (h : RackSound b) (src : BrakeSource) (d : Demand) :
    RackSound (putDemand src d b) := by
  cases src <;> exact ⟨h.coil, h.timed⟩

/-- The permit judged on combined entries (R116). -/
theorem judgePermit_judged {s : State} (h : Combined s.brakes) : Judged (judgePermit s) := ⟨h.with_permit _, rfl⟩

theorem combine_judged {s : State} (h : RackSound s.brakes) : Judged (combine s) :=
  judgePermit_judged (s := s.setBrakes (combined s.params s.brakes)) h.combined

/-- An entry written: the table is combined and the permit judged, whatever stood before (R104). -/
theorem writeDemand_judged (src : BrakeSource) (d : Demand) {s : State} (h : RackSound s.brakes) :
    Judged (writeDemand src d s) :=
  combine_judged (s := s.setBrakes (putDemand src d s.brakes)) (h.putDemand src d)

/-! ### What keeps the brakes sound and leaves the mode and the SUPERVISOR entry -/

/-- The brakes stay sound, and the mode and the SUPERVISOR entry are not touched. -/
structure BrakesKept (s t : State) : Prop where
  braked : Braked s → Braked t
  mode : t.sup.mode = s.sup.mode
  supervisor : t.brakes.supervisor = s.brakes.supervisor

theorem supervisorEntry_congr {s t : State} (hm : t.sup.mode = s.sup.mode)
    (he : t.brakes.supervisor.emergency = s.brakes.supervisor.emergency) (h : SupervisorEntry s) : SupervisorEntry t := by
  unfold SupervisorEntry
  rw [hm, he]
  exact h

namespace BrakesKept

variable {bs : List Block} {s t u : State}

theorem sound (h : BrakesKept s t) (hs : BrakesSound s) : BrakesSound t := by
  rw [brakesSound_iff] at hs ⊢
  exact ⟨h.braked hs.1, supervisorEntry_congr h.mode (congrArg _ h.supervisor) hs.2⟩

theorem refl (s : State) : BrakesKept s s := ⟨id, rfl, rfl⟩

theorem trans (h : BrakesKept s t) (k : BrakesKept t u) : BrakesKept s u :=
  ⟨fun x => k.braked (h.braked x), k.mode.trans h.mode, k.supervisor.trans h.supervisor⟩

theorem of_eq (hs : t.sup = s.sup) (hb : t.brakes = s.brakes) (hc : t.doors.closed = s.doors.closed)
    (hl : carClosed t.doors.leaves = carClosed s.doors.leaves) : BrakesKept s t :=
  ⟨fun h => ⟨⟨by rw [hb]; exact h.combined, by rw [hb, hs, hc]; exact h.permit⟩, by rw [hc, hl]; exact h.closed⟩,
    congrArg _ hs, congrArg _ hb⟩

/-- An operation that reaches neither the supervisor nor the brakes nor the doors. -/
theorem of_frame (h : OnlyChanges bs s t) (hb : ∀ b ∈ [Block.sup, .brakes, .doors], b ∉ bs := by decide) :
    BrakesKept s t := by
  have hd : t.doors = s.doors := h .doors (hb _ (by decide))
  exact of_eq (h .sup (hb _ (by decide))) (h .brakes (hb _ (by decide))) (by rw [hd]) (by rw [hd])

theorem answered (h : BrakesKept s t) (r : Req) (res : Result) (data : List Byte) : BrakesKept s (answer r res data t) :=
  h.trans (of_frame (answer_frame r res data t))

theorem branch {p : Prop} [Decidable p] (ht : BrakesKept s t) (hu : BrakesKept s u) :
    BrakesKept s (if p then t else u) := by
  split
  · exact ht
  · exact hu

/-- An operation that reaches the brakes alone of the three, and leaves them judged. -/
theorem of_judged (h : OnlyChanges bs s t) (hj : Braked s → Judged t)
    (hv : t.brakes.supervisor = s.brakes.supervisor)
    (hb : ∀ b ∈ [Block.sup, .doors], b ∉ bs := by decide) : BrakesKept s t := by
  have hd : t.doors = s.doors := h .doors (hb _ (by decide))
  exact ⟨fun x => ⟨hj x, by rw [hd]; exact x.closed⟩, congrArg _ (h .sup (hb _ (by decide))), hv⟩

/-- An entry other than SUPERVISOR's is written (R104). -/
theorem writeDemand {src : BrakeSource} (h : src ≠ .supervisor) (d : Demand) (s : State) :
    BrakesKept s (writeDemand src d s) :=
  of_judged (writeDemand_frame src d s) (fun x => writeDemand_judged src d x.combined.toRackSound)
    ((writeDemand_spec src d s).2.1 .supervisor h.symm)

theorem latchDemand {src : BrakeSource} (h : src ≠ .supervisor) (s : State) : BrakesKept s (latchDemand src s) :=
  writeDemand h _ s

/-- Fields of the brakes that nothing is computed from. -/
theorem setBrakes {b : Brakes} (hc : Combined s.brakes → Combined b)
    (hp : permitHolds s.sup s.doors.closed b = permitHolds s.sup s.doors.closed s.brakes)
    (ht : b.tperm = s.brakes.tperm) (hv : b.supervisor = s.brakes.supervisor) : BrakesKept s (s.setBrakes b) :=
  of_judged (setBrakes_frame b s) (fun x => ⟨hc x.combined, ht.trans (x.permit.trans hp.symm)⟩) hv

end BrakesKept

end Sys2Proof.Machine
end

section
/-! PROOFS. The operations that keep the brakes sound without the mode: doors, rack brake, service tracking, odometry
and telegrams; then every command but the six that may change the mode or rewrite the SUPERVISOR entry. -/

namespace Sys2Proof.Machine

set_option Elab.async false

/-! ### The doors (R140, R141) -/

/-- Car closed derived anew once the leaves or the releases have changed (R140). -/
theorem closedAnew_brakesKept {s u : State} (hs : u.sup = s.sup) (hb : u.brakes = s.brakes)
    (hc : u.doors.closed = s.doors.closed) : BrakesKept s (closedAnew u) := by
  have hjudged (h : Braked s) : Judged u := ⟨by rw [hb]; exact h.combined, by rw [hb, hs, hc]; exact h.permit⟩
  unfold closedAnew
  split
  case isTrue h => exact ⟨fun x => ⟨hjudged x, h.symm⟩, congrArg _ hs, congrArg _ hb⟩
  case isFalse =>
    let v := addDoorCause .closedChanged (u.setDoors { u.doors with closed := carClosed u.doors.leaves })
    let d : Demand := { v.brakes.doors with level := doorsLevel v }
    refine ⟨fun x => ⟨writeDemand_judged .doors d (s := v) (hjudged x).combined.toRackSound, rfl⟩, congrArg _ hs, ?_⟩
    exact ((writeDemand_spec .doors d v).2.1 .supervisor (by decide)).trans (congrArg Brakes.supervisor hb)

theorem settleLeaf_brakesKept (id : LeafId) (l : Leaf) (cs : List DoorCause) (s : State) :
    BrakesKept s (settleLeaf id l cs s) := by
  let u := s.setDoors { s.doors with leaves := putLeaf id l s.doors.leaves }
  have fr := addDoorCauses_frame cs u
  exact closedAnew_brakesKept (fr .sup (by decide)) (fr .brakes (by decide))
    ((congrArg Doors.closed (addDoorCauses_spec cs u).1).trans rfl)

theorem moveLeaf_brakesKept (id : LeafId) (f : LeafEnv → Leaf → Leaf × List DoorCause) (s : State) :
    BrakesKept s (moveLeaf id f s) := by
  unfold moveLeaf
  dsimp only
  split
  · exact (settleLeaf_brakesKept _ _ _ s).trans (settleLeaf_brakesKept _ _ _ _)
  · exact settleLeaf_brakesKept _ _ _ s

theorem moveSide_brakesKept (side : Side) (f : LeafEnv → Leaf → Leaf) (s : State) : BrakesKept s (moveSide side f s) :=
  closedAnew_brakesKept rfl rfl rfl

theorem putRelease_closed (side : Side) (r : SideRelease) (d : Doors) :
    (putRelease side r d).closed = d.closed ∧ (putRelease side r d).leaves = d.leaves := by
  unfold putRelease; split <;> exact ⟨rfl, rfl⟩

/-- A release record written (R136): no leaf has moved yet. -/
theorem setRelease_brakesKept (side : Side) (r : SideRelease) (s : State) :
    BrakesKept s (s.setDoors (putRelease side r s.doors)) := by
  obtain ⟨hc, hl⟩ := putRelease_closed side r s.doors
  exact .of_eq rfl rfl hc (congrArg carClosed hl)

theorem releaseSide_brakesKept (code : Nat) (auto : Bool) (s : State) :
    BrakesKept s (releaseSide code auto s).2 := by
  unfold releaseSide
  repeat' split
  · exact .refl s
  · exact (setRelease_brakesKept _ _ s).trans (moveSide_brakesKept _ _ _)
  · exact .refl s

theorem closeSide_brakesKept (side : Side) (s : State) : BrakesKept s (closeSide side s) := by
  unfold closeSide
  dsimp only
  split
  · exact (setRelease_brakesKept _ _ s).trans (moveSide_brakesKept _ _ _)
  · exact moveSide_brakesKept _ _ s

theorem execCloseSide_brakesKept (side : Nat) (s : State) :
    ∃ t, execCloseSide side s = .next t ∧ BrakesKept s t := by
  refine ⟨_, rfl, ?_⟩
  split
  · exact (BrakesKept.refl s).answered _ _ _
  · exact (closeSide_brakesKept _ s).answered _ _ _

theorem isolateLeaf_brakesKept (id : LeafId) (s : State) : BrakesKept s (isolateLeaf id s).2 := by
  unfold isolateLeaf
  dsimp only
  repeat' split
  · exact .refl s
  · exact .refl s
  · exact moveLeaf_brakesKept id (fun _ l => (enterIsolated l, [])) s

theorem restoreLeaf_brakesKept (id : LeafId) (s : State) : BrakesKept s (restoreLeaf id s).2 := by
  unfold restoreLeaf
  dsimp only
  split
  · exact .refl s
  · exact moveLeaf_brakesKept id (fun _ l => (enterLocked l, [])) s

theorem leafRequests_brakesKept (leaf : Nat) (s : State) :
    (∃ t, execIsolateLeaf leaf s = .next t ∧ BrakesKept s t)
      ∧ (∃ t, execRestoreLeaf leaf s = .next t ∧ BrakesKept s t) := by
  refine ⟨⟨_, rfl, ?_⟩, ⟨_, rfl, ?_⟩⟩ <;> split
  · exact (BrakesKept.refl s).answered _ _ _
  · exact (isolateLeaf_brakesKept _ s).answered _ _ _
  · exact (BrakesKept.refl s).answered _ _ _
  · exact (restoreLeaf_brakesKept _ s).answered _ _ _

theorem carClosed_putLeaf {id : LeafId} {l : Leaf} {ls : Leaves} (h : l.state = (getLeaf ls id).state) :
    carClosed (putLeaf id l ls) = carClosed ls := by
  have hl : leafClosed l = leafClosed (getLeaf ls id) := by unfold leafClosed; rw [h]
  cases id <;> simp only [putLeaf, carClosed, allLeaves, List.all_cons, hl] <;> rfl

/-- A fault record read is no change of a leaf's state (R134). -/
theorem readDoorFault_brakesKept (leaf : Nat) (s : State) :
    ∃ t, execReadDoorFault leaf s = .next t ∧ BrakesKept s t := by
  have taken (id : LeafId) : BrakesKept s (s.setDoors { s.doors with
      leaves := putLeaf id { getLeaf s.doors.leaves id with fault := none } s.doors.leaves }) :=
    .of_eq rfl rfl rfl (carClosed_putLeaf (ls := s.doors.leaves) rfl)
  refine ⟨_, rfl, ?_⟩
  unfold readDoorFault
  dsimp only
  repeat' split
  · exact (BrakesKept.refl s).answered _ _ _
  · exact (BrakesKept.refl s).answered _ _ _
  · exact (taken _).answered _ _ _

theorem addDoorCause_brakesKept (c : DoorCause) (s : State) : BrakesKept s (addDoorCause c s) := .of_eq rfl rfl rfl rfl

theorem retestRelease_brakesKept (side : Side) (s : State) : BrakesKept s (retestRelease side s) := by
  rcases retestRelease_cases side s with e | ⟨w, e⟩ <;> rw [e]
  · exact .refl s
  · exact ((setRelease_brakesKept side _ s).trans (addDoorCause_brakesKept _ _)).trans
      (moveSide_brakesKept side leafClose _)

theorem retestReleases_brakesKept (s : State) : BrakesKept s (retestReleases s) :=
  (retestRelease_brakesKept .left s).trans (retestRelease_brakesKept .right _)

theorem judgeInterlock_brakesKept (s : State) : BrakesKept s (judgeInterlock s) := by
  have h : BrakesKept s (writeDoorsLevel s) := .writeDemand (by decide) _ s
  unfold judgeInterlock
  dsimp only
  repeat' split
  · exact h
  · exact (h.trans (.latchDemand (by decide) _)).trans (addDoorCause_brakesKept .doorMotion _)
  · exact h

/-! ### The rack brake (R110 to R113) -/

theorem addBrakeCause_brakesKept (c : BrakeCause) (s : State) : BrakesKept s (addBrakeCause c s) := by
  let b : Brakes := { s.brakes with causes := s.brakes.causes ||| brakeCauseBit c }
  have h : BrakesKept s (s.setBrakes b) := .setBrakes (fun h => ⟨⟨h.coil, h.timed⟩, h.emergency, h.effort⟩) rfl rfl rfl
  exact h.trans (.of_frame (setFlag_frame .brakeFault _))

/-- The rack brake set to a state with the timer that goes with it, its coil off under an emergency (R109). -/
theorem setRack_brakesKept {x : RackState} {timer : Option Nat} {s : State}
    (hcoil : Braked s → (x = .releasing ∨ x = .released) → s.brakes.emergency = false)
    (htimed : timer.isSome = (x == .releasing || x == .applying || x == .faultNotReleased)) :
    BrakesKept s (setRack x timer s) := by
  refine .of_judged (setRack_frame x timer s) (fun h => ?_) rfl
  refine judgePermit_judged (s := s.setBrakes { s.brakes with rack := x, rackTimer := timer })
    ⟨⟨fun hc => hcoil h ?_, htimed⟩, h.combined.emergency, h.combined.effort⟩
  simpa [rbcoil] using hc

theorem enterApplied_brakesKept (s : State) : BrakesKept s (enterApplied s) := by
  unfold enterApplied
  split
  · exact setRack_brakesKept (by simp) rfl
  · next he => exact setRack_brakesKept (fun _ _ => by simpa using he) rfl

/-- A fault of the rack brake latches its entry from a state whose coil is off and whose timer is right (R112, R113). -/
theorem rackFault_brakesKept {b : Brakes} {c : BrakeCause} (d : Demand) {s : State} (hb : RackSound b)
    (hv : b.supervisor = s.brakes.supervisor) :
    BrakesKept s (addBrakeCause c (writeDemand .brake d (s.setBrakes b))) := by
  have h : BrakesKept s (writeDemand .brake d (s.setBrakes b)) :=
    .of_judged ((setBrakes_frame b s).trans (writeDemand_frame .brake d _)) (fun _ => writeDemand_judged .brake d hb)
      (((writeDemand_spec .brake d (s.setBrakes b)).2.1 .supervisor (by decide)).trans hv)
  exact h.trans (addBrakeCause_brakesKept c _)

theorem enterNotReleased_brakesKept (f : RackFault) (c : BrakeCause) (s : State) :
    BrakesKept s (enterNotReleased f c s) :=
  rackFault_brakesKept _ ⟨fun h => (by cases h), rfl⟩ rfl

theorem enterNotApplied_brakesKept (s : State) : BrakesKept s (enterNotApplied s) :=
  rackFault_brakesKept _ ⟨fun h => (by cases h), rfl⟩ rfl

theorem rackConversion_brakesKept (w : WinState) (s : State) : BrakesKept s (rackConversion w s) := by
  unfold rackConversion
  split
  · next hr =>
    refine setRack_brakesKept (fun h _ => h.combined.coil ?_) rfl
    rw [rbcoil, hr]; rfl
  · exact enterNotReleased_brakesKept _ _ s
  · exact enterApplied_brakesKept s
  · exact (enterApplied_brakesKept s).trans (addBrakeCause_brakesKept _ _)
  · exact ((BrakesKept.writeDemand (by decide) _ s).trans (enterApplied_brakesKept _)).trans (addBrakeCause_brakesKept _ _)
  · exact .refl s

theorem takeAin0_brakesKept (w : WinState) (s : State) : BrakesKept s (takeAin0 w s) := by
  let b : Brakes := { s.brakes with ain0 := w }
  have h : BrakesKept s (s.setBrakes b) := .setBrakes (fun h => ⟨⟨h.coil, h.timed⟩, h.emergency, h.effort⟩) rfl rfl rfl
  exact h.trans (rackConversion_brakesKept w _)

theorem relExpired_brakesKept (s : State) : BrakesKept s (relExpired s) :=
  .branch (enterNotReleased_brakesKept _ _ s) (.refl s)

theorem appExpired_brakesKept (s : State) : BrakesKept s (appExpired s) :=
  .branch (enterNotApplied_brakesKept s) (.refl s)

/-! ### Service tracking (R114) -/

/-- The fields of service tracking: nothing else is computed from them. -/
theorem tracking_brakesKept (ain1 timer : Option Nat) (deficit : Bool) (s : State) :
    BrakesKept s (s.setBrakes { s.brakes with ain1 := ain1, deficitTimer := timer, sbDeficit := deficit }) :=
  .setBrakes (fun h => ⟨⟨h.coil, h.timed⟩, h.emergency, h.effort⟩) rfl rfl rfl

/-- The supervisor's view of SB_DEFICIT is no condition of the permit (R97, R116). -/
theorem sbView_brakesKept (x : Bool) (s : State) : BrakesKept s (s.setSup { s.sup with sbView := x }) :=
  ⟨fun h => ⟨⟨h.combined, h.permit⟩, h.closed⟩, rfl, rfl⟩

theorem clearDeficit_brakesKept (s : State) : BrakesKept s (setDeficit false s) := by
  unfold setDeficit
  rw [sbNotice_false]
  exact ((tracking_brakesKept s.brakes.ain1 none false s).trans (addBrakeCause_brakesKept _ _)).trans
    (sbView_brakesKept false _)

theorem takeAin1_brakesKept (x : Nat) (s : State) : BrakesKept s (takeAin1 x s) := by
  have h := tracking_brakesKept (some x) s.brakes.deficitTimer s.brakes.sbDeficit s
  refine BrakesKept.trans h ?_
  unfold takeAin1 trackPressure
  repeat' split
  · exact tracking_brakesKept _ (some _) _ _
  · exact .refl _
  · exact tracking_brakesKept _ none _ _
  · exact clearDeficit_brakesKept _
  · exact .refl _

theorem completeConversion_brakesKept (raw : Nat) (s : State) : BrakesKept s (completeConversion raw s) := by
  have h (a : Analog) : BrakesKept s (s.setAnalog a) := .of_frame (setAnalog_frame a s)
  unfold completeConversion announce
  dsimp only
  repeat' split
  · exact (h _).trans (takeAin0_brakesKept _ _)
  · exact (h _).trans (takeAin1_brakesKept _ _)
  · exact (h _).trans (moveLeaf_brakesKept _ _ _)
  · exact h _
  · exact h _

/-! ### The odometry (R32, R38, R47, R48) -/

theorem enterOdoFault_brakesKept (f : OdoFault) (s : State) : BrakesKept s (enterOdoFault f s) := by
  unfold enterOdoFault
  split
  · let u := addOdoCause (faultCause f) (s.setOdo { s.odo with state := .fault, fault := some f })
    have h : BrakesKept s u := .of_eq rfl rfl rfl rfl
    exact (h.trans (.latchDemand (by decide) u)).trans (.of_frame (judgePart_frame _ _))
  · exact .refl s

theorem takeCompares_brakesKept (held : Option Sense) (s : State) : BrakesKept s (takeCompares held s) := by
  unfold takeCompares crossUp crossDown
  split
  · exact .refl s
  · exact (BrakesKept.of_frame (setOdo_frame _ s)).trans (.of_frame (issueCrossing_frame _))
  · exact (BrakesKept.of_frame (setOdo_frame _ s)).trans (.of_frame (issueCrossing_frame _))
  · exact enterOdoFault_brakesKept _ s

theorem activeCount_brakesKept (sensor : Sensor) (x : Sense) (s : State) : BrakesKept s (activeCount sensor x s) := by
  unfold activeCount
  dsimp only
  split
  · exact .of_frame (setOdo_frame _ s)
  · exact ((BrakesKept.of_frame (setOdo_frame _ s)).trans (.of_frame (degradeAtBound_frame _))).trans
      (takeCompares_brakesKept _ _)

theorem crossCheck_brakesKept (s : State) : BrakesKept s (crossCheck s) := by
  unfold crossCheck
  dsimp only
  repeat' split
  · exact (BrakesKept.of_frame (setOdo_frame _ s)).trans (enterOdoFault_brakesKept _ _)
  · exact .of_frame (setOdo_frame _ s)
  · exact .refl s

theorem takeCount_brakesKept (sensor : Sensor) (x : Sense) (s : State) : BrakesKept s (takeCount sensor x s) := by
  have h (o : Odometry) : BrakesKept s (feedCheck sensor x (s.setOdo o)) :=
    (BrakesKept.of_frame (setOdo_frame o s)).trans (.of_frame (feedCheck_frame sensor x _))
  unfold takeCount
  dsimp only
  refine .branch (BrakesKept.trans ?_ (crossCheck_brakesKept _)) ?_ <;>
    exact .branch ((h _).trans (activeCount_brakesKept _ _ _)) (h _)

theorem applyMark_brakesKept (m : Nat) (s : State) : BrakesKept s (applyMark m s) :=
  ((BrakesKept.of_frame (correctPosition_frame m s)).trans (takeCompares_brakesKept _ _)).trans
    (.of_frame (handleCal_frame m _))

theorem detectMark_brakesKept (s : State) : BrakesKept s (detectMark s) := by
  have h (o : Odometry) : BrakesKept s (s.setOdo o) := .of_frame (setOdo_frame o s)
  unfold detectMark
  dsimp only
  split
  · exact .refl s
  split
  · exact ((h _).trans (.of_frame (addOdoCause_frame _ _))).trans (.of_frame (offerReport_frame _ _))
  · exact BrakesKept.trans (.branch ((h _).trans (applyMark_brakesKept _ _)) (h _)) (.of_frame (offerReport_frame _ _))

/-! ### A change of direction (R79) -/

theorem selectDir_brakesKept (d : Dir) (s : State) : BrakesKept s (selectDir d s) := by
  have hd : (selectDir d s).doors = s.doors := selectDir_frame d s .doors (by decide)
  have hb := selectDir_brakes d s
  refine ⟨fun x => ⟨⟨?_, ?_⟩, by rw [hd]; exact x.closed⟩, by rw [selectDir_sup], by rw [hb]⟩
  · rw [hb]; exact x.combined.with_permit _
  · rw [hb, hd]; rfl

theorem setDirection_brakesKept (code : Nat) (s : State) : BrakesKept s (setDirection code s).2 := by
  unfold setDirection
  repeat' split
  · exact .refl s
  · exact .refl s
  · exact .refl s
  · exact .refl s
  · exact selectDir_brakesKept _ s

/-! ### Telegrams (R106, R164) -/

theorem receive_brakesKept (h : TgHeader) {body : State → State} (hb : ∀ u, BrakesKept u (body u)) (s : State) :
    BrakesKept s (receive h body s) := by
  have received (f g : Counts → Counts) : BrakesKept s (setCounts g (setCounts f s)) :=
    (BrakesKept.of_frame (setCounts_frame f s)).trans (.of_frame (setCounts_frame g _))
  unfold receive acceptTelegram
  dsimp only
  repeat' split
  · exact received _ _
  · exact (((received _ _).trans (.of_frame (linkHeard_frame _))).trans (.of_frame (setTele_frame _ _))).trans (hb _)
  · exact received _ _
  · exact .refl s

theorem radioStop_brakesKept (s : State) : BrakesKept s (radioStop s).2 := by
  unfold radioStop
  split
  · exact .refl s
  · exact .latchDemand (by decide) s

theorem radioRelease_brakesKept (s : State) : BrakesKept s (radioRelease s).2 := by
  unfold radioRelease
  split
  · exact .writeDemand (by decide) _ s
  · exact .refl s

/-! ### Every command but six -/

/-- The commands that may change the mode or rewrite the SUPERVISOR entry (R77, R80). -/
def movesMode : Instr → Bool
  | .powerOnReset | .reset | .setMode _ | .releaseTrip | .positionSample | .deficitTimerExpiry => true
  | _ => false

theorem readRestrictionLog_frame (s : State) :
    ∃ t, execReadRestrictionLog s = .next t ∧ OnlyChanges [.restr, .link] s t := by
  refine ⟨_, rfl, ?_⟩
  split <;> exact (setRestr_frame _ s).mono.trans (answer_frame _ _ _ _).mono

theorem setTime_frame (v : Nat) (s : State) : ∃ t, execSetTime v s = .next t ∧ OnlyChanges [.restr, .link] s t := by
  refine ⟨_, rfl, ?_⟩
  split
  · exact (answer_frame _ _ _ s).mono
  · exact (setClock_frame v s).trans (answer_frame _ _ _ _).mono

theorem readMarkReport_frame (s : State) :
    ∃ t, execReadMarkReport s = .next t ∧ OnlyChanges [.odo, .link] s t := by
  refine ⟨_, rfl, ?_⟩
  split
  · exact (answer_frame _ _ _ s).mono
  · exact (setOdo_frame _ s).mono.trans (answer_frame _ _ _ _).mono

theorem setParameter_brakesKept (n v : Nat) (s : State) : BrakesKept s (setParameter n v s).2 := by
  rcases setParameter_cases n v s with e | ⟨r, -, -, -, -, e⟩ <;> rw [e]
  · exact .refl s
  · exact (BrakesKept.of_frame (setParams_frame _ s)).trans (.of_frame (paramTold_kept n _))

theorem appendSection_brakesKept (w : SectionWire) (s : State) : BrakesKept s (appendSection w s).2 := by
  rcases appendSection_cases w s with e | ⟨r, -, -, -, e⟩ <;> rw [e]
  · exact .refl s
  · exact .of_frame (setLine_frame _ s)

theorem sealLine_brakesKept (s : State) : BrakesKept s (sealLine s).2 := by
  rcases sealLine_cases s with e | ⟨-, fr⟩
  · rw [e]; exact .refl s
  · exact (BrakesKept.of_frame (setLine_frame _ s)).trans (.of_frame fr)

theorem ackBlock_brakesKept (n : Nat) (h : TgHeader) (b : BlockWire) (s : State) :
    BrakesKept s (ackBlock n h (stageBlock .valley b s)) := by
  have hs : BrakesKept s (stageBlock .valley b s).2 := .of_frame (stageBlock_frame _ b s)
  exact .branch hs (hs.trans (.of_frame (ackResult_frame _ _ _ _)))

theorem exec_brakesKept (c : Instr) (s : State) (hc : movesMode c = false) :
    ∃ t, exec c s = .next t ∧ BrakesKept s t := by
  obtain ⟨rParam, rSection, rWindow, rLookup, rRestr, rChannel, rFilter, rUplink, rAnalog⟩ := execRead_frame s
  have moves {c : Instr} {p : Prop} (hc : movesMode c = false) (h : movesMode c = true) : p :=
    absurd (h.symm.trans hc) (by decide)
  have link {o : Host.Outcome State Fault Refusal} (h : ∃ t, o = .next t ∧ OnlyChanges [.link] s t) :
      ∃ t, o = .next t ∧ BrakesKept s t := h.imp fun _ ht => ⟨ht.1, .of_frame ht.2⟩
  have table {o : Host.Outcome State Fault Refusal} (h : ∃ t, o = .next t ∧ OnlyChanges [.restr, .link] s t) :
      ∃ t, o = .next t ∧ BrakesKept s t := h.imp fun _ ht => ⟨ht.1, .of_frame ht.2⟩
  have read {r : Req} {res : Result} {data : List Byte} : BrakesKept s (answer r res data s) :=
    .of_frame (answer_frame r res data s)
  have request {r : Req} {res : Result} {data : List Byte} {t : State} (h : BrakesKept s t) :
      BrakesKept s (answer r res data t) := h.answered r res data
  have acked {k : AckKind} {n : Nat} {h : TgHeader} {u : State} {x : Result × State} (hx : BrakesKept u x.2) :
      BrakesKept u (ackResult k n h x) := hx.trans (.of_frame (ackResult_frame k n h x))
  cases c with
  | powerOnReset | reset | releaseTrip | positionSample | deficitTimerExpiry => exact moves hc rfl
  | setMode code => exact moves hc rfl
  | hostFrameRefused why => exact link (hostFrameRefused_frame why s)
  | nop => exact ⟨_, rfl, .of_frame (respond_frame _ _ _ s)⟩
  | readPage page => exact link (readPage_frame page s)
  | ident | readEvents | readLine | readStage | readRestrictionStatus | readSupervision | readTelegrams =>
    exact ⟨_, rfl, read⟩
  | clearEvents set | setEventMask set => exact ⟨_, rfl, request (.of_frame (setLink_frame _ s))⟩
  | readParameter n => exact link (rParam n)
  | setParameter n v => exact ⟨_, rfl, request (setParameter_brakesKept n v s)⟩
  | lineLoadBegin => exact ⟨_, rfl, .branch (request (.of_frame (beginLineLoad_frame s))) read⟩
  | appendSection w => exact ⟨_, rfl, request (appendSection_brakesKept w s)⟩
  | lineLoadEnd => exact ⟨_, rfl, request (sealLine_brakesKept s)⟩
  | readSection i => exact link (rSection i)
  | readSectionNext => exact link (readSectionNext_frame s)
  | setSectionCursor i => exact link (setSectionCursor_frame i s)
  | readWindow k => exact link (rWindow k)
  | stageSection b => exact ⟨_, rfl, request (.of_frame (stageBlock_frame _ b s))⟩
  | commitStage id crc => exact ⟨_, rfl, request (.of_frame (commitUpdate_frame _ id crc s))⟩
  | abortStage id => exact ⟨_, rfl, request (.of_frame (abortUpdate_frame _ id s))⟩
  | setPosition p u => exact ⟨_, rfl, request (.of_frame (setPosition_frame p u s))⟩
  | readOdometry => exact ⟨_, rfl, request (.of_frame (setOdo_frame _ s))⟩
  | readMarkReport => exact (readMarkReport_frame s).imp fun _ h => ⟨h.1, .of_frame h.2⟩
  | putRestriction w => exact ⟨_, rfl, request (.of_frame (putRestriction_frame _ w s))⟩
  | retireRestriction id => exact ⟨_, rfl, request (.of_frame (withdrawEntry_frame _ _ id s))⟩
  | setTime v => exact table (setTime_frame v s)
  | lookupRestriction i id => exact link (rLookup i id)
  | readRestriction i => exact link (rRestr i)
  | nextRestriction => exact link (nextRestriction_frame s)
  | setRestrictionCursor i => exact link (setRestrictionCursor_frame i s)
  | readRestrictionLog => exact table (readRestrictionLog_frame s)
  | setDirection code => exact ⟨_, rfl, request (setDirection_brakesKept code s)⟩
  | brakeDemand l e => exact ⟨_, rfl, request (.writeDemand (by decide) _ s)⟩
  | readBrakes =>
    exact ⟨_, rfl, request (.setBrakes (b := { s.brakes with causes := 0#16 })
      (fun h => ⟨⟨h.coil, h.timed⟩, h.emergency, h.effort⟩) rfl rfl rfl)⟩
  | releaseSide side auto => exact ⟨_, rfl, request (releaseSide_brakesKept side auto s)⟩
  | closeSide side => exact execCloseSide_brakesKept side s
  | closeAll => exact ⟨_, rfl, request ((closeSide_brakesKept .left s).trans (closeSide_brakesKept .right _))⟩
  | isolateLeaf leaf => exact (leafRequests_brakesKept leaf s).1
  | restoreLeaf leaf => exact (leafRequests_brakesKept leaf s).2
  | readDoors => exact ⟨_, rfl, request (t := s.setDoors _) (.of_eq rfl rfl rfl rfl)⟩
  | readDoorFault leaf => exact readDoorFault_brakesKept leaf s
  | setSlot slot route => exact ⟨_, rfl, request (.of_frame (setSlot_frame slot route s))⟩
  | radioReset => exact ⟨_, rfl, request (.of_frame (radioReset_frame s))⟩
  | setChannel cell ch => exact ⟨_, rfl, request (.of_frame (setChannel_frame cell ch s))⟩
  | readRadio => exact ⟨_, rfl, request (.of_frame (setRadio_frame _ s))⟩
  | readChannel i => exact link (rChannel i)
  | setFilter i en k v m => exact ⟨_, rfl, request (.of_frame (setFilter_frame i en k v m s))⟩
  | readFilter i => exact link (rFilter i)
  | readUplink i => exact link (rUplink i)
  | setSweep m e => exact ⟨_, rfl, request (.of_frame (setSweep_frame m e s))⟩
  | setCalibration w => exact ⟨_, rfl, request (.of_frame (setCalibration_frame w s))⟩
  | setWindow ch l h => exact ⟨_, rfl, request (.of_frame (setWindowLimits_frame ch l h s))⟩
  | readAnalog i => exact link (rAnalog i)
  | quadratureCount sensor x => exact ⟨_, rfl, takeCount_brakesKept sensor x s⟩
  | phaseError sensor =>
    exact ⟨_, rfl, (BrakesKept.of_frame (setOdo_frame _ s)).trans (.of_frame (addOdoCause_frame _ _))⟩
  | markDetection => exact ⟨_, rfl, detectMark_brakesKept s⟩
  | clsChange leaf on | lksChange leaf on | opsChange leaf on | pbPressed leaf on =>
    exact ⟨_, rfl, .branch (.refl s) (moveLeaf_brakesKept _ _ s)⟩
  | tLockExpiry leaf | tOpenExpiry leaf | tCloseExpiry leaf | tReopenExpiry leaf | tPauseExpiry leaf =>
    exact ⟨_, rfl, moveLeaf_brakesKept _ _ s⟩
  | conversionComplete raw => exact ⟨_, rfl, completeConversion_brakesKept raw s⟩
  | lineClockAdvance => exact table (lineClockAdvance_frame s)
  | holdTimerExpiry => exact ⟨_, rfl, .of_frame (holdExpired_frame s)⟩
  | tRelExpiry => exact ⟨_, rfl, relExpired_brakesKept s⟩
  | tAppExpiry => exact ⟨_, rfl, appExpired_brakesKept s⟩
  | slotStart => exact ⟨_, rfl, .of_frame (startSlot_frame s)⟩
  | initSequenceEnd => exact ⟨_, rfl, .branch (.of_frame (finishInit_frame s)) (.refl s)⟩
  | holdoverTimerExpiry => exact ⟨_, rfl, .of_frame (holdoverExpired_frame s)⟩
  | radioLossTimerExpiry => exact ⟨_, rfl, .branch (.of_frame (linkExpired_frame s)) (.refl s)⟩
  | telegramDiscarded d => exact ⟨_, rfl, .of_frame (discardTelegram_frame d s)⟩
  | beacon f cell src => exact ⟨_, rfl, .of_frame (receiveBeacon_frame f cell src s)⟩
  | time h v => exact ⟨_, rfl, receive_brakesKept h (fun u => .of_frame (setClock_frame v u)) s⟩
  | restrict h w =>
    exact ⟨_, rfl, receive_brakesKept h (fun u => acked (.of_frame (putRestriction_frame _ w u))) s⟩
  | revoke h id =>
    exact ⟨_, rfl, receive_brakesKept h (fun u => acked (.of_frame (withdrawEntry_frame _ _ id u))) s⟩
  | sectionBlock h b => exact ⟨_, rfl, receive_brakesKept h (fun u => ackBlock_brakesKept _ h b u) s⟩
  | sectionCommit h id crc => exact ⟨_, rfl, .of_frame (sectionCommit_frame h id crc s)⟩
  | sectionAbort h id =>
    exact ⟨_, rfl, receive_brakesKept h (fun u => acked (.of_frame (abortUpdate_frame _ id u))) s⟩
  | slotGrant h slot p ph =>
    exact ⟨_, rfl, receive_brakesKept h (fun u => acked (.of_frame (takeGrant_frame _ u))) s⟩
  | poll h => exact ⟨_, rfl, receive_brakesKept h (fun u => .of_frame (queueReport_frame u)) s⟩
  | emergencyStop h => exact ⟨_, rfl, receive_brakesKept h (fun u => acked (radioStop_brakesKept u)) s⟩
  | stopRelease h => exact ⟨_, rfl, receive_brakesKept h (fun u => acked (radioRelease_brakesKept u)) s⟩

end Sys2Proof.Machine
end

section
/-! PROOFS. The brakes through changes of mode, trips, releases, samples and resets; every step keeps them sound (O44). -/

namespace Sys2Proof.Machine

set_option Elab.async false

/-! ### A change of mode (R78, R80) -/

/-- What a rewritten SUPERVISOR entry needs: the rack brake's own part, car closed, and the entry of the mode. The table
need not be combined, nor the permit judged. -/
structure Loose (s : State) : Prop where
  rack : RackSound s.brakes
  closed : s.doors.closed = carClosed s.doors.leaves
  entry : SupervisorEntry s

theorem BrakesSound.loose {s : State} (h : BrakesSound s) : Loose s :=
  have ⟨hb, he⟩ := (brakesSound_iff s).1 h
  ⟨hb.combined.toRackSound, hb.closed, he⟩

theorem writeDemand_braked (src : BrakeSource) (d : Demand) {s : State} (hr : RackSound s.brakes)
    (hc : s.doors.closed = carClosed s.doors.leaves) : Braked (writeDemand src d s) :=
  ⟨writeDemand_judged src d hr, hc⟩

/-- A change of mode combines the table and judges the permit (R78). -/
theorem changeMode_braked (m : Mode) {s : State} (hr : RackSound s.brakes)
    (hc : s.doors.closed = carClosed s.doors.leaves) : Braked (changeMode m s) := by
  have h1 : Braked (enterMode m s) := by
    rw [enterMode_eq]; exact writeDemand_braked .supervisor _ (s := s.setSup _) hr hc
  have h2 : BrakesKept (enterMode m s) (entered m s) := by
    unfold entered
    rcases neutralInStandby_cases m (enterMode m s) with ⟨e, -⟩ | ⟨-, e⟩ <;> rw [e]
    · exact .refl _
    · exact selectDir_brakesKept _ _
  have h3 : BrakesKept (entered m s) (retestReleases (retestHeld (entered m s))) :=
    (BrakesKept.of_frame (retestHeld_frame _)).trans (retestReleases_brakesKept _)
  have h4 : Braked (judgePermit (retestReleases (retestHeld (entered m s)))) :=
    have x := h3.braked (h2.braked h1)
    ⟨judgePermit_judged x.combined, x.closed⟩
  exact (BrakesKept.of_frame (setFlag_frame .modeChanged _)).braked h4

/-- The emergency demand of the entry a mode brings, over a demand that holds no latch or one of a trip (R80). -/
theorem supervisorDemand_emergency (p : Params) (sup : Supervisor) (old : Demand) :
    (supervisorDemand p sup old).emergency =
      match sup.mode with
      | .standby => .held
      | .tripped => .latched
      | .depot => withoutHeld old.emergency
      | .line => withoutHeld old.emergency := by
  unfold supervisorDemand
  cases sup.mode <;> rfl

theorem withoutHeld_eq_none {e : Emergency} (h : e ≠ .latched) : withoutHeld e = .none := by
  cases e with
  | none => rfl
  | held => rfl
  | latched => exact absurd rfl h

theorem changeMode_mode (m : Mode) (s : State) : (changeMode m s).sup.mode = m := by
  rw [changeMode_sup, entered_sup]

theorem changeMode_entry {m : Mode} {s : State}
    (h : m = .standby ∨ m = .tripped ∨ s.brakes.supervisor.emergency ≠ .latched) : SupervisorEntry (changeMode m s) := by
  unfold SupervisorEntry
  rw [changeMode_mode, (changeMode_supervisor m s).1, supervisorDemand_emergency]
  cases m with
  | standby => rfl
  | tripped => rfl
  | depot => exact withoutHeld_eq_none (by simpa using h)
  | line => exact withoutHeld_eq_none (by simpa using h)

/-- Outside TRIPPED the SUPERVISOR entry holds no latch (R80). -/
theorem SupervisorEntry.not_latched {s : State} (h : SupervisorEntry s) (hm : s.sup.mode ≠ .tripped) :
    s.brakes.supervisor.emergency ≠ .latched := by
  unfold SupervisorEntry at h
  rw [h]
  cases hs : s.sup.mode with
  | tripped => exact absurd hs hm
  | standby => decide
  | depot => decide
  | line => decide

theorem Loose.changeMode {s : State} (h : Loose s) {m : Mode} (hm : m = .standby ∨ m = .tripped ∨ s.sup.mode ≠ .tripped) :
    BrakesSound (changeMode m s) :=
  (brakesSound_iff _).2 ⟨changeMode_braked m h.rack h.closed,
    changeMode_entry (hm.imp_right (Or.imp_right h.entry.not_latched))⟩

theorem Loose.writeSupervisor {s : State} (h : Loose s) : BrakesSound (writeSupervisor s) := by
  let d := supervisorDemand s.params s.sup s.brakes.supervisor
  refine (brakesSound_iff _).2 ⟨writeDemand_braked .supervisor d h.rack h.closed, ?_⟩
  have hd : (writeDemand .supervisor d s).brakes.supervisor = d := (writeDemand_spec .supervisor d s).1
  have hentry := h.entry
  unfold SupervisorEntry at hentry ⊢
  show (writeDemand .supervisor d s).brakes.supervisor.emergency = _
  rw [hd, supervisorDemand_emergency, hentry, show (Machine.writeSupervisor s).sup = s.sup from rfl]
  cases s.sup.mode <;> rfl

/-! ### Trips and the seven stages (R81, R86) -/

/-- The trip record and the mode before trip, written before the change of mode (R81). -/
def tripRecorded (c : TripCause) (s : State) : State :=
  s.setSup { s.sup with trip := some ⟨c, s.sup.mode, pMm s.odo, s.restr.clock⟩, modeBefore := s.sup.mode }

theorem trip_eq (c : TripCause) (s : State) : trip c s = changeMode .tripped (tripRecorded c s) := rfl

/-- The supervisor's records after a trip (R81, R82). -/
theorem trip_sup (c : TripCause) (s : State) :
    (trip c s).sup = { s.sup with
      mode := .tripped, modeBefore := s.sup.mode, trip := some ⟨c, s.sup.mode, pMm s.odo, s.restr.clock⟩ } := by
  rw [trip_eq, changeMode_sup, entered_sup]
  rfl

theorem canTrip_iff (s : State) : canTrip s = true ↔ s.sup.mode = .depot ∨ s.sup.mode = .line := by
  simp [canTrip]

theorem canTrip_trip (c : TripCause) (s : State) : canTrip (trip c s) = false := by
  unfold canTrip
  rw [trip_sup]
  rfl

theorem tripIf_level (b : Bool) (c : TripCause) (s : State) : (tripIf b c s).sup.level = s.sup.level := by
  unfold tripIf
  split
  · rw [trip_sup]
  · rfl

/-- The level that stage 5 finds (R95). -/
def levelOf (s : State) : Level := levelFor s.params s.sup.level s.odo.sample.v.natAbs s.sup.vPerm

theorem stageLevel_same {s : State} (h : levelOf s = s.sup.level) : stageLevel s = s := if_pos h

theorem stageLevel_changed {s : State} (h : levelOf s ≠ s.sup.level) :
    stageLevel s = setFlag .interventionChanged (s.setSup { s.sup with level := levelOf s }) := if_neg h

theorem stageLevel_sup (s : State) : (stageLevel s).sup = { s.sup with level := levelOf s } := by
  by_cases h : levelOf s = s.sup.level
  · rw [stageLevel_same h, h]
  · rw [stageLevel_changed h]; rfl

theorem stageIntervene_level (s : State) : (stageIntervene s).sup.level = s.sup.level :=
  (tripIf_level _ _ _).trans (tripIf_level _ _ s)

/-- Stage 7 rewrites the SUPERVISOR entry where stage 5 found another level (R80). -/
theorem stageAct_same {s : State} (h : levelOf s = s.sup.level) : stageAct s = stageIntervene s := by
  unfold stageAct
  dsimp only
  rw [stageLevel_same h, if_pos (stageIntervene_level s)]

theorem stageAct_changed {s : State} (h : levelOf s ≠ s.sup.level) :
    stageAct s = writeSupervisor (stageIntervene (stageLevel s)) := by
  unfold stageAct
  dsimp only
  rw [if_neg]
  rw [stageIntervene_level, stageLevel_sup]
  exact h

theorem Loose.trip {s : State} (h : Loose s) (c : TripCause) : BrakesSound (trip c s) := by
  have hr : Loose (tripRecorded c s) := ⟨h.rack, h.closed, h.entry⟩
  rw [trip_eq]
  exact hr.changeMode (.inr (.inl rfl))

theorem Loose.tripIf {s : State} (h : Loose s) (b : Bool) (c : TripCause) : Loose (tripIf b c s) := by
  unfold Machine.tripIf
  split
  · exact BrakesSound.loose (h.trip c)
  · exact h

theorem brakesSound_tripIf {s : State} (h : BrakesSound s) (b : Bool) (c : TripCause) : BrakesSound (tripIf b c s) := by
  unfold tripIf
  split
  · exact (BrakesSound.loose h).trip c
  · exact h

/-- The supervisor's records written, with mode, direction and level as they were. -/
theorem setSup_brakesKept {x : Supervisor} {s : State} (hm : x.mode = s.sup.mode) (hd : x.dir = s.sup.dir)
    (hl : x.level = s.sup.level) : BrakesKept s (s.setSup x) := by
  refine ⟨fun h => ⟨⟨h.combined, h.permit.trans ?_⟩, h.closed⟩, hm, rfl⟩
  simp only [permitHolds, State.setSup_sup, State.setSup_doors, State.setSup_brakes, hm, hd, hl]

theorem stageRollback_brakesKept (s : State) : BrakesKept s (stageRollback s) :=
  .branch (.refl s) (setSup_brakesKept rfl rfl rfl)

theorem stageStandstill_brakesKept (s : State) : BrakesKept s (stageStandstill s) :=
  .branch (setSup_brakesKept rfl rfl rfl) (.refl s)

theorem evaluate_brakesKept (s : State) : BrakesKept s (evaluate s) :=
  .branch (setSup_brakesKept rfl rfl rfl) (setSup_brakesKept rfl rfl rfl)

theorem brakesSound_stageTrip {s : State} (h : BrakesSound s) : BrakesSound (stageTrip s) := by
  unfold stageTrip
  split
  · exact h
  · exact brakesSound_tripIf h true _

/-- A level that differs leaves the permit to be judged when the SUPERVISOR entry is rewritten (R80, R96). -/
theorem brakesSound_stageAct {s : State} (h : BrakesSound s) : BrakesSound (stageAct s) := by
  by_cases hl : levelOf s = s.sup.level
  · rw [stageAct_same hl]
    exact brakesSound_tripIf (brakesSound_tripIf h _ _) _ _
  · have hs : Loose (stageLevel s) := by
      obtain ⟨hrack, hclosed, hentry⟩ := BrakesSound.loose h
      rw [stageLevel_changed hl]
      exact ⟨hrack, hclosed, hentry⟩
    rw [stageAct_changed hl]
    exact ((hs.tripIf _ _).tripIf _ _).writeSupervisor

theorem brakesSound_superviseSample {s : State} (h : BrakesSound s) : BrakesSound (superviseSample s) := by
  have h1 : BrakesSound (stageRollback s) := (stageRollback_brakesKept s).sound h
  have h2 : BrakesSound (stageTrip (stageRollback s)) := brakesSound_stageTrip h1
  let u := stageStandstill (stageTrip (stageRollback s))
  have h3 : BrakesSound u := (stageStandstill_brakesKept (stageTrip (stageRollback s))).sound h2
  unfold superviseSample
  exact brakesSound_stageAct ((evaluate_brakesKept u).sound h3)

theorem brakesSound_takeSample {s : State} (h : BrakesSound s) : BrakesSound (takeSample s) := by
  have hu : BrakesSound (superviseSample (issueSample s)) :=
    brakesSound_superviseSample ((BrakesKept.of_frame (issueSample_frame s)).sound h)
  unfold takeSample
  generalize superviseSample (issueSample s) = u at hu
  have hk : BrakesKept u (retestReleases (retirePassed u)) :=
    (BrakesKept.of_frame (retirePassed_frame u)).trans (retestReleases_brakesKept _)
  exact (hk.trans (judgeInterlock_brakesKept _)).sound hu

theorem brakesSound_deficitExpired {s : State} (h : BrakesSound s) : BrakesSound (deficitExpired s) := by
  unfold deficitExpired
  split
  · have h1 := (tracking_brakesKept s.brakes.ain1 none true s).trans (addBrakeCause_brakesKept .sbDeficit _)
    exact brakesSound_tripIf ((h1.trans (sbView_brakesKept true _)).sound h) _ _
  · exact h

/-! ### SET_MODE and RELEASE_TRIP (R77, R107) -/

theorem brakesSound_setMode (code : Nat) {s : State} (h : BrakesSound s) : BrakesSound (setMode code s).2 := by
  unfold setMode
  split
  · exact h
  · next m _ =>
    split
    · exact h
    · split
      · exact h
      · next ha =>
        split
        · exact h
        · refine (BrakesSound.loose h).changeMode (.inr (.inr fun hm => ha ?_))
          cases m <;> simp [modeAllowed, hm]

/-- The SUPERVISOR entry as a RELEASE_TRIP judges it: the mode's, or the latch of the trip in the mode before it (R83). -/
theorem releaseSupervisor_entry {s : State} (h : SupervisorEntry s) :
    SupervisorEntry (releaseSupervisor s)
      ∨ (((releaseSupervisor s).sup.mode = .depot ∨ (releaseSupervisor s).sup.mode = .line)
          ∧ (releaseSupervisor s).brakes.supervisor.emergency = .latched) := by
  rcases releaseSupervisor_cases s with ⟨-, e⟩ | ⟨⟨hm, -⟩, e⟩ <;> rw [e]
  · exact .inl h
  · have hl : s.brakes.supervisor.emergency = .latched := by unfold SupervisorEntry at h; rw [h, hm]
    let u := s.setSup { s.sup with rollback := 0 }
    show SupervisorEntry (changeMode s.sup.modeBefore u)
      ∨ (((changeMode s.sup.modeBefore u).sup.mode = .depot ∨ (changeMode s.sup.modeBefore u).sup.mode = .line)
          ∧ (changeMode s.sup.modeBefore u).brakes.supervisor.emergency = .latched)
    have hem : (changeMode s.sup.modeBefore u).brakes.supervisor.emergency = _ :=
      (congrArg Demand.emergency (changeMode_supervisor s.sup.modeBefore u).1).trans (supervisorDemand_emergency _ _ _)
    rw [changeMode_mode, hem]
    cases hb : s.sup.modeBefore with
    | standby => exact .inl (changeMode_entry (.inl rfl))
    | tripped => exact .inl (changeMode_entry (.inr (.inl rfl)))
    | depot => exact .inr ⟨.inl rfl, congrArg withoutHeld hl⟩
    | line => exact .inr ⟨.inr rfl, congrArg withoutHeld hl⟩

theorem clearLatch_other {d : Demand} (h : d.emergency ≠ .latched) (c : Bool) : clearLatch c d = d := by
  unfold clearLatch
  rw [if_neg fun hc => h hc.2]

theorem brakesSound_releaseTrip {s : State} (h : BrakesSound s) : BrakesSound (releaseTrip s) := by
  have hr : BrakesSound (releaseOdometry s) := (BrakesKept.of_frame (releaseOdometry_frame s)).sound h
  have hv : Braked (releaseSupervisor (releaseOdometry s)) := by
    rcases releaseSupervisor_cases (releaseOdometry s) with ⟨-, e⟩ | ⟨-, e⟩ <;> rw [e]
    · exact ((brakesSound_iff _).1 hr).1
    · obtain ⟨hrack, hclosed, -⟩ := BrakesSound.loose hr
      exact changeMode_braked _ (s := (releaseOdometry s).setSup _) hrack hclosed
  have hentry := releaseSupervisor_entry (BrakesSound.loose hr).entry
  have ht := releaseTrip_entries s .supervisor
  have hsup : (releaseTrip s).sup = (releaseSupervisor (releaseOdometry s)).sup :=
    Eq.trans (combine_frame _ .sup (by decide)) (setBrakes_frame _ _ .sup (by decide))
  unfold releaseTrip at ht hsup ⊢
  generalize releaseSupervisor (releaseOdometry s) = v at hv hentry ht hsup ⊢
  refine (brakesSound_iff _).2 ⟨⟨combine_judged (s := v.setBrakes (clearLatches v)) ⟨hv.combined.coil, hv.combined.timed⟩,
    hv.closed⟩, ?_⟩
  have hd : (combine (v.setBrakes (clearLatches v))).brakes.supervisor =
      clearLatch (v.sup.mode != .tripped) v.brakes.supervisor := ht
  unfold SupervisorEntry at hentry ⊢
  rw [hd, hsup]
  rcases hentry with he | ⟨hm, he⟩
  · cases hm : v.sup.mode <;> rw [hm] at he
    · rw [clearLatch_other (by rw [he]; decide), he]
    · rw [clearLatch_other (by rw [he]; decide), he]
    · rw [clearLatch_other (by rw [he]; decide), he]
    · rw [clearLatch_latched he]; rfl
  · rw [clearLatch_latched he]
    rcases hm with hm | hm <;> rw [hm] <;> rfl

/-! ### Resets (R76, R198, R199) -/

theorem brakesSound_powerOn (s : State) : BrakesSound (powerOn s) :=
  ⟨⟨rfl, rfl, rfl, rfl⟩, fun h => (by cases h), rfl, rfl⟩

/-- The STANDBY demand is an emergency, so the effort is 100 and the permit false at once (R102, R116). -/
theorem brakesSound_softReset (s : State) : BrakesSound (softReset s) :=
  ⟨⟨rfl, rfl, rfl, rfl⟩, fun h => (by cases h), rfl, rfl⟩

/-! ### Every command and every step -/

theorem exec_brakesSound (c : Instr) {s : State} (h : BrakesSound s) : ∃ t, exec c s = .next t ∧ BrakesSound t := by
  have answered {r : Req} {res : Result} {data : List Byte} {u : State} (hu : BrakesSound u) :
      BrakesSound (answer r res data u) := (BrakesKept.refl u).answered r res data |>.sound hu
  by_cases hc : movesMode c = false
  · exact (exec_brakesKept c s hc).imp fun _ k => ⟨k.1, k.2.sound h⟩
  cases c with
  | powerOnReset => exact ⟨_, rfl, brakesSound_powerOn s⟩
  | reset =>
    refine ⟨_, rfl, ?_⟩
    split
    · exact brakesSound_softReset s
    · exact answered h
  | setMode code => exact ⟨_, rfl, answered (brakesSound_setMode code h)⟩
  | releaseTrip =>
    refine ⟨_, rfl, ?_⟩
    split
    · exact answered (brakesSound_releaseTrip h)
    · exact answered h
  | positionSample => exact ⟨_, rfl, brakesSound_takeSample h⟩
  | deficitTimerExpiry => exact ⟨_, rfl, brakesSound_deficitExpired h⟩
  | _ => exact absurd rfl hc

/-- A millisecond runs the timers down and stops none (R109). -/
theorem passMillisecond_brakesKept (s : State) : BrakesKept s (passMillisecond s) := by
  refine ⟨fun h => ⟨⟨⟨⟨h.combined.coil, ?_⟩, h.combined.emergency, h.combined.effort⟩, h.permit⟩, h.closed⟩, rfl, rfl⟩
  show (lapse s.brakes.rackTimer).isSome = _
  rw [lapse, Option.isSome_map]
  exact h.combined.timed

theorem idle_brakesKept (s : State) : BrakesKept s (idle s) := by
  unfold idle
  split
  · exact passMillisecond_brakesKept s
  · exact .of_frame (setPending_frame _ s)

end Sys2Proof.Machine

namespace Sys2Proof.Proofs

set_option Elab.async false

open Machine

/-- Settles O44: every command but six keeps the brakes sound and the mode (`exec_brakesKept`); a change of mode
combines the table anew and brings the mode's own SUPERVISOR entry (`Loose.changeMode`). -/
theorem brakesStaySound : Obligations.BrakesStaySound := by
  unfold Obligations.BrakesStaySound
  intro s t ht h
  unfold step at ht
  split at ht
  · cases ht
    exact (idle_brakesKept s).sound h
  · next c rest _ =>
    obtain ⟨u, hu, hs⟩ := exec_brakesSound c ((BrakesKept.of_frame (setPending_frame rest s)).sound h)
    cases hu.symm.trans ht
    exact hs

end Sys2Proof.Proofs
end

section
/-! PROOFS. What a trip leaves (R80 to R82), TRIPPED entered and left (O40), and the timers of the brakes (O43). -/

namespace Sys2Proof.Machine

set_option Elab.async false

/-! ### What a write of an entry keeps (R104, R115, R117) -/

/-- SB_DEFICIT and the brake causes stand, and a stopped deficit timer stays stopped. -/
structure TrackingStands (b c : Brakes) : Prop where
  deficit : c.sbDeficit = b.sbDeficit
  causes : c.causes = b.causes
  timer : b.deficitTimer = none → c.deficitTimer = none

namespace TrackingStands

variable {b c d : Brakes}

theorem of_eq (h : c = b) : TrackingStands b c := h ▸ ⟨rfl, rfl, id⟩

theorem trans (h : TrackingStands b c) (k : TrackingStands c d) : TrackingStands b d :=
  ⟨k.deficit.trans h.deficit, k.causes.trans h.causes, fun x => k.timer (h.timer x)⟩

theorem combined (p : Params) (b : Brakes) : TrackingStands b (combined p b) := by
  have hrack (b : Brakes) : TrackingStands b (rackTold p b) := by
    unfold rackTold; split <;> exact ⟨rfl, rfl, id⟩
  have htrack (b : Brakes) : TrackingStands b (trackTold p b) := ⟨rfl, rfl, fun h => by simp [trackTold, h]⟩
  have hset : TrackingStands b { b with emergency := emergencyOf b, effort := effortOf b } := ⟨rfl, rfl, id⟩
  unfold Machine.combined
  dsimp only
  repeat' split
  · exact hset
  · exact hset.trans (hrack _)
  · exact hset.trans (htrack _)
  · exact (hset.trans (hrack _)).trans (htrack _)

theorem writeDemand (src : BrakeSource) (d : Demand) (s : State) :
    TrackingStands s.brakes (writeDemand src d s).brakes := by
  have hput : TrackingStands s.brakes (putDemand src d s.brakes) := by cases src <;> exact ⟨rfl, rfl, id⟩
  have h := hput.trans (combined s.params (putDemand src d s.brakes))
  exact ⟨h.deficit, h.causes, h.timer⟩

end TrackingStands

/-! ### A trip (R80 to R82) -/

/-- What a trip brings, until a RELEASE_TRIP or a reset (R80, R103, R116). -/
structure Tripped (s : State) : Prop where
  mode : s.sup.mode = .tripped
  entry : s.brakes.supervisor = ⟨100, .latched⟩
  emergency : s.brakes.emergency = true
  permit : s.brakes.tperm = false

theorem permitHolds_tripped {sup : Supervisor} (h : sup.mode = .tripped) (closed : Bool) (b : Brakes) :
    permitHolds sup closed b = false := by
  unfold permitHolds
  rw [h]
  rfl

/-- A latched entry written for SUPERVISOR in TRIPPED. -/
theorem tripped_of_entry {s : State} (h : s.sup.mode = .tripped) :
    Tripped (writeDemand .supervisor ⟨100, .latched⟩ s) := by
  obtain ⟨hd, hem, -, hperm⟩ := writeDemand_emergency .supervisor (d := ⟨100, .latched⟩) (by decide) s
  exact ⟨h, hd, hem, hperm⟩

/-- What follows a trip, or a sample without one: entries other than SUPERVISOR's are written at most. -/
structure TripStands (s t : State) : Prop where
  mode : t.sup.mode = s.sup.mode
  supervisor : t.brakes.supervisor = s.brakes.supervisor
  tripped : Tripped s → Tripped t
  tracking : TrackingStands s.brakes t.brakes

namespace TripStands

variable {bs : List Block} {s t u : State}

theorem of_eq (hm : t.sup.mode = s.sup.mode) (hb : t.brakes = s.brakes) : TripStands s t :=
  ⟨hm, by rw [hb], fun h => ⟨hm.trans h.mode, by rw [hb]; exact h.entry, by rw [hb]; exact h.emergency,
    by rw [hb]; exact h.permit⟩, .of_eq hb⟩

theorem of_frame (h : OnlyChanges bs s t) (hs : Block.sup ∉ bs := by decide) (hb : Block.brakes ∉ bs := by decide) :
    TripStands s t := of_eq (congrArg _ (h .sup hs)) (h .brakes hb)

theorem refl (s : State) : TripStands s s := of_eq rfl rfl

theorem trans (h : TripStands s t) (k : TripStands t u) : TripStands s u :=
  ⟨k.mode.trans h.mode, k.supervisor.trans h.supervisor, fun x => k.tripped (h.tripped x), h.tracking.trans k.tracking⟩

theorem writeDemand {src : BrakeSource} (h : src ≠ .supervisor) (d : Demand) (s : State) :
    TripStands s (writeDemand src d s) := by
  obtain ⟨-, hothers, hem, -, hperm⟩ := writeDemand_spec src d s
  refine ⟨rfl, hothers .supervisor h.symm, fun x => ⟨x.mode, (hothers .supervisor h.symm).trans x.entry, hem.trans ?_,
    hperm.trans (permitHolds_tripped x.mode _ _)⟩, .writeDemand src d s⟩
  refine (emergencyOf_iff _).2 ⟨.supervisor, ?_⟩
  rw [getDemand_putDemand_ne _ _ _ _ h.symm]
  show s.brakes.supervisor.emergency ≠ .none
  rw [x.entry]
  decide

theorem judgePermit (s : State) : TripStands s (judgePermit s) :=
  ⟨rfl, rfl, fun x => ⟨x.mode, x.entry, x.emergency, permitHolds_tripped x.mode _ _⟩, ⟨rfl, rfl, id⟩⟩

theorem closedAnew (s : State) : TripStands s (closedAnew s) := by
  unfold Machine.closedAnew
  split
  · exact .refl s
  · let u := addDoorCause .closedChanged (s.setDoors { s.doors with closed := carClosed s.doors.leaves })
    exact TripStands.trans (t := u) (.of_eq rfl rfl) (writeDemand (by decide) _ u)

theorem retestRelease (side : Side) (s : State) : TripStands s (retestRelease side s) := by
  rcases retestRelease_cases side s with e | ⟨w, e⟩ <;> rw [e]
  · exact .refl s
  · let u := addDoorCause .releaseWithdrawn (s.setDoors (putRelease side (withdrawnRelease w) s.doors))
    let v := u.setDoors { u.doors with leaves := mapSide side (leafClose (leafEnv u side)) u.doors.leaves }
    exact TripStands.trans (t := v) (.of_eq rfl rfl) (closedAnew v)

theorem retestReleases (s : State) : TripStands s (retestReleases s) :=
  (retestRelease .left s).trans (retestRelease .right _)

theorem judgeInterlock (s : State) : TripStands s (judgeInterlock s) := by
  have h : TripStands s (writeDoorsLevel s) := writeDemand (by decide) _ s
  unfold Machine.judgeInterlock
  dsimp only
  repeat' split
  · exact h
  · exact (h.trans (writeDemand (by decide) _ _)).trans (.of_frame (addDoorCause_frame .doorMotion _))
  · exact h

/-- What a change of mode into TRIPPED does past the SUPERVISOR entry (R78). -/
theorem changeMode (s : State) : TripStands (enterMode .tripped s) (changeMode .tripped s) :=
  (((of_frame (retestHeld_frame _)).trans (retestReleases _)).trans (judgePermit _)).trans
    (of_frame (setFlag_frame .modeChanged _))

end TripStands

theorem trip_tripped (c : TripCause) (s : State) : Tripped (trip c s) := by
  rw [trip_eq]
  refine (TripStands.changeMode _).tripped ?_
  rw [enterMode_eq]
  exact tripped_of_entry rfl

theorem trip_flag (c : TripCause) (s : State) : (trip c s).link.flags.getLsbD (flagIndex .modeChanged) = true :=
  setFlag_getLsbD .modeChanged _

theorem trip_grows (c : TripCause) (s : State) : FlagsGrow s (trip c s) := by
  rw [trip_eq]
  exact changeMode_grows .tripped (tripRecorded c s)

theorem trip_tracking (c : TripCause) (s : State) : TrackingStands s.brakes (trip c s).brakes := by
  rw [trip_eq]
  refine TrackingStands.trans ?_ (TripStands.changeMode _).tracking
  rw [enterMode_eq]
  let u := (tripRecorded c s).setSup (modeEntered .tripped (tripRecorded c s).sup)
  exact TrackingStands.writeDemand .supervisor (supervisorDemand u.params u.sup u.brakes.supervisor) u

/-! ### The expiry of the deficit timer (R97, R115) -/

/-- SB_DEFICIT set and noticed by the supervisor, before a trip (R97, R115). -/
def deficitNoticed (s : State) : State :=
  let u := addBrakeCause .sbDeficit (s.setBrakes { s.brakes with sbDeficit := true, deficitTimer := none })
  u.setSup { u.sup with sbView := true }

theorem deficitExpired_stopped {s : State} (h : s.brakes.deficitTimer = none) : deficitExpired s = s := by
  unfold deficitExpired
  rw [h]
  rfl

theorem deficitExpired_running {s : State} (h : s.brakes.deficitTimer ≠ none) :
    deficitExpired s =
      if s.sup.level = .service ∧ (s.sup.mode = .depot ∨ s.sup.mode = .line) then
        trip .serviceDeficit (deficitNoticed s)
      else deficitNoticed s := by
  have hsome : s.brakes.deficitTimer.isSome = true := Option.isSome_iff_ne_none.2 h
  unfold deficitExpired
  rw [if_pos hsome]
  show (if (true && s.sup.level == .service && canTrip s) = true then _ else _) = _
  simp only [Bool.true_and, Bool.and_eq_true, beq_iff_eq, canTrip_iff]
  rfl

theorem deficitNoticed_frame (s : State) : OnlyChanges [.brakes, .link, .sup] s (deficitNoticed s) :=
  ((setBrakes_frame _ s).mono.trans (addBrakeCause_frame .sbDeficit _).mono).trans (setSup_frame _ _).mono

theorem deficitNoticed_causes (s : State) : (deficitNoticed s).brakes.causes = s.brakes.causes ||| 16#16 := rfl

theorem deficitNoticed_flag (s : State) :
    (deficitNoticed s).link.flags.getLsbD (flagIndex .brakeFault) = true := setFlag_getLsbD .brakeFault _

/-- The two outcomes of the expiry: a trip under the SERVICE level, or the notice alone (R97). -/
theorem deficitTimerExpiry_runs (s : State) : ∃ t, exec .deficitTimerExpiry s = .next t
    ∧ (s.brakes.deficitTimer = none → t = s)
    ∧ (s.brakes.deficitTimer ≠ none →
        t.brakes.sbDeficit = true ∧ t.brakes.deficitTimer = none ∧ t.sup.sbView = true
        ∧ t.brakes.causes = s.brakes.causes ||| 16#16 ∧ t.link.flags.getLsbD (flagIndex .brakeFault) = true
        ∧ (if s.sup.level = .service ∧ (s.sup.mode = .depot ∨ s.sup.mode = .line) then
            OnlyChanges [.brakes, .link, .sup, .line, .window, .staging, .tele, .radio, .doors] s t
            ∧ t.sup = { s.sup with
                sbView := true, mode := .tripped, modeBefore := s.sup.mode,
                trip := some ⟨.serviceDeficit, s.sup.mode, s.odo.pUm / 1000, s.restr.clock⟩ }
            ∧ t.brakes.supervisor = ⟨100, .latched⟩ ∧ t.brakes.emergency = true ∧ t.brakes.tperm = false
          else
            OnlyChanges [.brakes, .link, .sup] s t ∧ t.sup = { s.sup with sbView := true }
            ∧ t.brakes.rack = s.brakes.rack ∧ t.brakes.effort = s.brakes.effort
            ∧ t.brakes.tperm = s.brakes.tperm)) := by
  refine ⟨_, rfl, deficitExpired_stopped, fun h => ?_⟩
  rw [deficitExpired_running h]
  by_cases hc : s.sup.level = .service ∧ (s.sup.mode = .depot ∨ s.sup.mode = .line)
  · rw [if_pos hc, if_pos hc]
    have hsup := trip_sup .serviceDeficit (deficitNoticed s)
    have htrack := trip_tracking .serviceDeficit (deficitNoticed s)
    have ht := trip_tripped .serviceDeficit (deficitNoticed s)
    have fr := (deficitNoticed_frame s).mono.trans (trip_frame .serviceDeficit (deficitNoticed s))
    have hflag := (trip_grows .serviceDeficit (deficitNoticed s)).getLsbD (deficitNoticed_flag s)
    generalize trip .serviceDeficit (deficitNoticed s) = t at hsup htrack ht fr hflag ⊢
    exact ⟨htrack.deficit, htrack.timer rfl, by rw [hsup]; rfl, htrack.causes.trans (deficitNoticed_causes s), hflag,
      fr.mono, hsup, ht.entry, ht.emergency, ht.permit⟩
  · rw [if_neg hc, if_neg hc]
    exact ⟨rfl, rfl, rfl, deficitNoticed_causes s, deficitNoticed_flag s, deficitNoticed_frame s, rfl, rfl, rfl, rfl⟩

/-! ### The expiries of `t_rel` and `t_app` (R110, R112, R113) -/

/-- The combination tells a rack brake in a fault state nothing (R110). -/
theorem combined_faulted (p : Params) {b : Brakes} (h : b.rack = .faultNotReleased ∨ b.rack = .faultNotApplied) :
    (combined p b).rack = b.rack ∧ (combined p b).rackTimer = b.rackTimer := by
  obtain ⟨hsame, htold⟩ := combined_rack p b
  have hstays : rackTold p { b with emergency := emergencyOf b, effort := effortOf b }
      = { b with emergency := emergencyOf b, effort := effortOf b } := by
    unfold rackTold
    rcases h with h | h <;> simp [h]
  by_cases he : emergencyOf b = b.emergency
  · exact hsame he
  · obtain ⟨h1, h2⟩ := htold he
    rw [hstays] at h1 h2
    exact ⟨h1, h2⟩

theorem combined_rackFault (p : Params) (b : Brakes) : (combined p b).rackFault = b.rackFault := by
  have hrack (b : Brakes) : (rackTold p b).rackFault = b.rackFault := by unfold rackTold; split <;> rfl
  unfold combined
  dsimp only
  repeat' split
  · rfl
  · exact hrack _
  · rfl
  · exact hrack _

/-- An entry written under a rack brake in a fault state moves none of its records (R110). -/
theorem writeDemand_faulted (src : BrakeSource) (d : Demand) {s : State}
    (h : s.brakes.rack = .faultNotReleased ∨ s.brakes.rack = .faultNotApplied) :
    (writeDemand src d s).brakes.rack = s.brakes.rack
      ∧ (writeDemand src d s).brakes.rackTimer = s.brakes.rackTimer
      ∧ (writeDemand src d s).brakes.rackFault = s.brakes.rackFault := by
  have hput : (putDemand src d s.brakes).rack = s.brakes.rack ∧ (putDemand src d s.brakes).rackTimer = s.brakes.rackTimer
      ∧ (putDemand src d s.brakes).rackFault = s.brakes.rackFault := by cases src <;> exact ⟨rfl, rfl, rfl⟩
  obtain ⟨hr, ht, hf⟩ := hput
  obtain ⟨kr, kt⟩ := combined_faulted s.params (b := putDemand src d s.brakes) (by rw [hr]; exact h)
  exact ⟨Eq.trans kr hr, Eq.trans kt ht, Eq.trans (combined_rackFault s.params _) hf⟩

/-- A fault state of the rack brake entered, with its entry latched (R112, R113). -/
theorem rackFault_entered {x : RackState} (hx : x = .faultNotReleased ∨ x = .faultNotApplied) (timer : Option Nat)
    (f : RackFault) (level : Nat) (c : BrakeCause) (s : State) :
    let u := s.setBrakes { s.brakes with rack := x, rackTimer := timer, rackFault := some f }
    let t := addBrakeCause c (writeDemand .brake ⟨level, .latched⟩ u)
    OnlyChanges [.brakes, .link] s t ∧ t.brakes.rack = x ∧ t.brakes.rackTimer = timer
      ∧ t.brakes.rackFault = some f ∧ t.brakes.brake = ⟨level, .latched⟩
      ∧ t.brakes.supervisor = s.brakes.supervisor ∧ t.brakes.odometry = s.brakes.odometry
      ∧ t.brakes.doors = s.brakes.doors ∧ t.brakes.radio = s.brakes.radio ∧ t.brakes.host = s.brakes.host
      ∧ t.brakes.emergency = true ∧ t.brakes.effort = 100 ∧ t.brakes.tperm = false
      ∧ t.brakes.causes = s.brakes.causes ||| brakeCauseBit c ∧ t.link = flagged .brakeFault s.link := by
  intro u t
  obtain ⟨hd, hem, heff, hperm⟩ :=
    writeDemand_emergency .brake (d := ⟨level, .latched⟩) (by decide : Emergency.latched ≠ .none) u
  have hothers := (writeDemand_spec .brake ⟨level, .latched⟩ u).2.1
  obtain ⟨hrack, htimer, hfault⟩ := writeDemand_faulted .brake ⟨level, .latched⟩ (s := u) hx
  have hcauses := (TrackingStands.writeDemand .brake ⟨level, .latched⟩ u).causes
  have fr := (setBrakes_frame _ s).trans (writeDemand_frame .brake ⟨level, .latched⟩ u)
  have hlink : t.link = flagged .brakeFault u.link := rfl
  have ht : t.brakes = { (writeDemand .brake ⟨level, .latched⟩ u).brakes with
      causes := (writeDemand .brake ⟨level, .latched⟩ u).brakes.causes ||| brakeCauseBit c } := rfl
  have hframe : OnlyChanges [.brakes, .link] s t := fr.andThen (addBrakeCause_frame c _)
  rw [ht, hlink]
  generalize writeDemand .brake ⟨level, .latched⟩ u = w at *
  exact ⟨hframe, hrack, htimer, hfault, hd, hothers .supervisor (by decide), hothers .odometry (by decide),
    hothers .doors (by decide), hothers .radio (by decide), hothers .host (by decide), hem, heff, hperm,
    congrArg (· ||| brakeCauseBit c) hcauses, rfl⟩

end Sys2Proof.Machine

namespace Sys2Proof.Proofs

set_option Elab.async false

open Machine

/-- Settles O43: a fault state of the rack brake for the two expiries that have a row (`rackFault_entered`), and the
deficit timer's two outcomes. -/
theorem brakeTimers : Obligations.BrakeTimers := by
  unfold Obligations.BrakeTimers
  refine ⟨fun s => ⟨_, rfl, fun h => if_neg h, fun h => ?_⟩, fun s => ⟨_, rfl, fun h1 h2 => ?_, fun h => ?_⟩,
    deficitTimerExpiry_runs⟩
  · rw [relExpired, if_pos h]
    exact rackFault_entered (.inl rfl) (some s.params.tApp) .releaseTimeout s.brakes.brake.level .releaseTimeout s
  · exact if_neg (not_or.2 ⟨h1, h2⟩)
  · rw [appExpired, if_pos h]
    exact rackFault_entered (.inr rfl) none .applyTimeout 100 .applyTimeout s

end Sys2Proof.Proofs
end

section
/-! PROOFS. A position sample through the seven stages of R86, case by case: an early trip, a trip by the level, or none
(O37); and TRIPPED entered and left (O40). -/

namespace Sys2Proof.Machine

set_option Elab.async false

/-! ### Stages 1 to 3 -/

/-- The rollback accumulator after a sample (R84). -/
def rollbackTaken (s : State) : Nat :=
  if s.sup.mode = .standby then s.sup.rollback else rollbackAfter s.sup.dir s.sup.rollback s.odo.sample.travel

theorem stageRollback_eq (s : State) :
    stageRollback s = s.setSup { s.sup with rollback := rollbackTaken s } := by
  unfold stageRollback rollbackTaken
  split
  · rfl
  · rfl

/-- The retained authority end after stage 3. -/
def retainedAfter (s : State) : Option Nat := if s.odo.sample.standstill = true then none else s.sup.retained

theorem stageStandstill_eq (s : State) :
    stageStandstill s = s.setSup { s.sup with retained := retainedAfter s } := by
  unfold stageStandstill retainedAfter
  split
  · rfl
  · rfl

/-- A trip by the first of the causes found, while the mode allows one (R81). -/
def tripFor (o : Option TripCause) (s : State) : State :=
  match o with
  | none => s
  | some c => tripIf true c s

theorem stageTrip_eq (s : State) : stageTrip s = tripFor (stageCause s) s := rfl

/-- The cause by which stage 6 trips, EMERGENCY before SERVICE with SB_DEFICIT (R96). -/
def levelCause (s : State) : Option TripCause :=
  if s.sup.level = .emergency then some .emergencySpeed
  else if s.sup.level = .service ∧ s.sup.sbView = true then some .serviceDeficit
  else none

theorem tripFor_cases (o : Option TripCause) (s : State) :
    (tripFor o s = s ∧ (canTrip s = false ∨ o = none))
      ∨ ∃ c, o = some c ∧ canTrip s = true ∧ tripFor o s = trip c s := by
  cases o with
  | none => exact .inl ⟨rfl, .inr rfl⟩
  | some c =>
    cases h : canTrip s with
    | false => exact .inl ⟨by simp [tripFor, tripIf, h], .inl rfl⟩
    | true => exact .inr ⟨c, rfl, rfl, by simp [tripFor, tripIf, h]⟩

theorem tripIf_stays {b : Bool} {c : TripCause} {s : State} (h : canTrip s = false) : tripIf b c s = s := by
  unfold tripIf
  rw [if_neg (by simp [h])]

/-- Stage 6 trips once: after a trip the mode allows none (R82). -/
theorem stageIntervene_eq (s : State) : stageIntervene s = tripFor (levelCause s) s := by
  unfold stageIntervene levelCause
  cases ht : canTrip s with
  | false =>
    rw [tripIf_stays (s := s) ht, tripIf_stays ht]
    rcases tripFor_cases (levelCause s) s with ⟨e, -⟩ | ⟨c, -, h, -⟩
    · exact e.symm
    · rw [ht] at h; cases h
  | true =>
    by_cases he : s.sup.level = .emergency
    · have e : tripIf (s.sup.level == .emergency) .emergencySpeed s = trip .emergencySpeed s := by
        simp [tripIf, he, ht]
      rw [e, tripIf_stays (canTrip_trip _ s), if_pos he]
      simp [tripFor, tripIf, ht]
    · have e : tripIf (s.sup.level == .emergency) .emergencySpeed s = s := by simp [tripIf, he]
      rw [e, if_neg he]
      by_cases hs : s.sup.level = .service ∧ s.sup.sbView = true
      · rw [if_pos hs]; simp [tripFor, tripIf, hs]
      · rw [if_neg hs]
        simp only [tripFor, tripIf, Bool.and_eq_true, beq_iff_eq, hs, false_and, if_false]

/-! ### Stages 5 to 7 (R95, R96) -/

theorem canTrip_congr {s t : State} (h : t.sup.mode = s.sup.mode) : canTrip t = canTrip s := by
  unfold canTrip; rw [h]

theorem writeSupervisor_supervisor (s : State) :
    (writeSupervisor s).brakes.supervisor = supervisorDemand s.params s.sup s.brakes.supervisor :=
  (writeDemand_spec .supervisor _ s).1

theorem writeSupervisor_sup (s : State) : (writeSupervisor s).sup = s.sup := rfl

theorem Tripped.writeSupervisor {s : State} (h : Tripped s) : Tripped (writeSupervisor s) := by
  have hd : supervisorDemand s.params s.sup s.brakes.supervisor = ⟨100, .latched⟩ := by
    unfold supervisorDemand; rw [h.mode]
  unfold Machine.writeSupervisor
  rw [hd]
  exact tripped_of_entry h.mode

theorem Tripped.setSup {s : State} (h : Tripped s) {x : Supervisor} (hm : x.mode = s.sup.mode) : Tripped (s.setSup x) :=
  ⟨hm.trans h.mode, h.entry, h.emergency, h.permit⟩

/-- What stages 5 to 7 do without a trip: the level, and the SUPERVISOR entry where the level differs. -/
structure Graded (s t : State) : Prop where
  sup : t.sup = { s.sup with level := levelOf s }
  same : levelOf s = s.sup.level → t = s
  entry : levelOf s ≠ s.sup.level →
    t.brakes.supervisor = supervisorDemand s.params { s.sup with level := levelOf s } s.brakes.supervisor

/-- Stages 5 to 7: the level alone, or the level and a trip by it (R96). -/
theorem stageAct_cases (s : State) :
    ((canTrip s = false ∨ levelCause (stageLevel s) = none) ∧ Graded s (stageAct s))
      ∨ ∃ c, levelCause (stageLevel s) = some c ∧ canTrip s = true
          ∧ (stageAct s).sup = { s.sup with
              level := levelOf s, mode := .tripped, modeBefore := s.sup.mode,
              trip := some ⟨c, s.sup.mode, pMm s.odo, s.restr.clock⟩ }
          ∧ Tripped (stageAct s) := by
  have hsup := stageLevel_sup s
  have hodo : (stageLevel s).odo = s.odo := stageLevel_frame s .odo (by decide)
  have hrestr : (stageLevel s).restr = s.restr := stageLevel_frame s .restr (by decide)
  have hparams : (stageLevel s).params = s.params := stageLevel_frame s .params (by decide)
  have hcan : canTrip (stageLevel s) = canTrip s := canTrip_congr (by rw [hsup])
  have hact : stageAct s = if levelOf s = s.sup.level then stageIntervene (stageLevel s)
      else writeSupervisor (stageIntervene (stageLevel s)) := by
    split
    case isTrue h => rw [stageAct_same h, stageLevel_same h]
    case isFalse h => exact stageAct_changed h
  rw [hact, stageIntervene_eq]
  rcases tripFor_cases (levelCause (stageLevel s)) (stageLevel s) with ⟨e, hno⟩ | ⟨c, hc, hyes, e⟩ <;> rw [e]
  · refine .inl ⟨hcan ▸ hno, ?_⟩
    by_cases hl : levelOf s = s.sup.level
    · rw [if_pos hl, stageLevel_same hl]
      exact ⟨by rw [hl], fun _ => rfl, fun h => absurd hl h⟩
    · have hb : (stageLevel s).brakes = s.brakes := by rw [stageLevel_changed hl]; rfl
      rw [if_neg hl]
      refine ⟨hsup, fun h => absurd h hl, fun _ => ?_⟩
      have hw := writeSupervisor_supervisor (stageLevel s)
      rw [hparams, hsup, hb] at hw
      exact hw
  · refine .inr ⟨c, hc, hcan ▸ hyes, ?_, ?_⟩
    · have htrip := trip_sup c (stageLevel s)
      rw [hsup, hodo, hrestr] at htrip
      split
      · exact htrip
      · rw [writeSupervisor_sup]; exact htrip
    · split
      · exact trip_tripped c _
      · exact (trip_tripped c _).writeSupervisor

theorem levelCause_stageLevel (s : State) :
    levelCause (stageLevel s) =
      if levelOf s = .emergency then some .emergencySpeed
      else if levelOf s = .service ∧ s.sup.sbView = true then some .serviceDeficit
      else none := by
  unfold levelCause
  rw [stageLevel_sup]

/-- Another level sets INTERVENTION_CHANGED (R96). -/
theorem stageAct_flag {s : State} (h : levelOf s ≠ s.sup.level) :
    (stageAct s).link.flags.getLsbD (flagIndex .interventionChanged) = true := by
  have hset : (stageLevel s).link.flags.getLsbD (flagIndex .interventionChanged) = true := by
    rw [stageLevel_changed h]; exact setFlag_getLsbD .interventionChanged _
  rw [stageAct_changed h]
  have hgrow : FlagsGrow (stageLevel s) (stageIntervene (stageLevel s)) :=
    ((tripIf_supervised _ _ _).trans (tripIf_supervised _ _ _)).grows
  exact (hgrow.trans (writeSupervisor_supervised _).grows).getLsbD hset

/-! ### The whole sample (R86) -/

/-- The sample through stages 1 to 4 without an early trip. -/
def stageFour (s : State) : State := evaluate (stageStandstill (stageRollback s))

/-- Neither stage 1 nor stage 2 trips. -/
def NoEarlyTrip (s : State) : Prop := canTrip s = false ∨ stageCause (stageRollback s) = none

/-- Stage 4 writes the permitted speed with what goes with it, and nothing else of the supervisor. -/
theorem evaluate_sup (s : State) :
    (evaluate s).sup = { s.sup with
      vPerm := (evaluate s).sup.vPerm, limiting := (evaluate s).sup.limiting, binding := (evaluate s).sup.binding,
      retained := (evaluate s).sup.retained, curve := (evaluate s).sup.curve } := by
  unfold evaluate
  split
  · rfl
  · rfl

theorem stageFour_frame (s : State) : OnlyChanges [.sup] s (stageFour s) :=
  ((stageRollback_frame s).trans (stageStandstill_frame _)).trans (evaluate_frame _)

theorem stageFour_sup (s : State) :
    (stageFour s).sup = { s.sup with
      rollback := rollbackTaken s, vPerm := (stageFour s).sup.vPerm, limiting := (stageFour s).sup.limiting,
      binding := (stageFour s).sup.binding, retained := (stageFour s).sup.retained,
      curve := (stageFour s).sup.curve } := by
  unfold stageFour
  rw [stageRollback_eq, stageStandstill_eq]
  exact evaluate_sup _

/-- Stage 4 outside LINE with UP or DOWN selected (R87, R98). -/
theorem evaluate_else {s : State} (h : ¬ (s.sup.mode = .line ∧ s.sup.dir ≠ .neutral)) :
    (evaluate s).sup = { s.sup with
      vPerm := if s.sup.mode = .depot then conv s.params.vDepot else 0, limiting := .mode, binding := none } := by
  unfold evaluate
  rw [if_neg h]
  rfl

theorem stageFour_else {s : State} (h : ¬ (s.sup.mode = .line ∧ s.sup.dir ≠ .neutral)) :
    (stageFour s).sup = { s.sup with
      rollback := rollbackTaken s, retained := retainedAfter s,
      vPerm := if s.sup.mode = .depot then conv s.params.vDepot else 0, limiting := .mode, binding := none } := by
  unfold stageFour
  rw [stageRollback_eq, stageStandstill_eq]
  refine (evaluate_else ?_).trans ?_
  · exact h
  · rfl

/-- A trip in stage 1 or 2, and the stages after it: the permitted speed is 0 in TRIPPED (R81, R87). -/
theorem early_trip {s : State} {c : TripCause} (hc : stageCause (stageRollback s) = some c) (hcan : canTrip s = true) :
    (superviseSample s).sup = { s.sup with
      rollback := rollbackTaken s, mode := .tripped, modeBefore := s.sup.mode,
      trip := some ⟨c, s.sup.mode, pMm s.odo, s.restr.clock⟩, retained := retainedAfter s, vPerm := 0,
      limiting := .mode, binding := none, level := levelFor s.params s.sup.level s.odo.sample.v.natAbs 0 }
    ∧ Tripped (superviseSample s) := by
  have htrip : stageTrip (stageRollback s) = trip c (stageRollback s) := by
    rw [stageTrip_eq, hc]
    show (if (true && canTrip (stageRollback s)) = true then _ else _) = _
    rw [canTrip_congr (s := s) (by rw [stageRollback_eq]; rfl), hcan]
    rfl
  have hsup : (trip c (stageRollback s)).sup = { s.sup with
      rollback := rollbackTaken s, mode := .tripped, modeBefore := s.sup.mode,
      trip := some ⟨c, s.sup.mode, pMm s.odo, s.restr.clock⟩ } := by
    rw [trip_sup, stageRollback_eq]
    rfl
  have ht := trip_tripped c (stageRollback s)
  have hodo : (trip c (stageRollback s)).odo = s.odo :=
    Eq.trans (trip_frame c _ .odo (by decide)) (stageRollback_frame s .odo (by decide))
  have hparams : (trip c (stageRollback s)).params = s.params :=
    Eq.trans (trip_frame c _ .params (by decide)) (stageRollback_frame s .params (by decide))
  unfold superviseSample
  rw [htrip]
  generalize trip c (stageRollback s) = u at hsup ht hodo hparams
  have hb : (evaluate (stageStandstill u)).sup = { u.sup with
      retained := retainedAfter u, vPerm := 0, limiting := .mode, binding := none } := by
    rw [stageStandstill_eq, evaluate_else (by rintro ⟨h, -⟩; exact absurd (ht.mode.symm.trans h) (by decide))]
    simp [ht.mode]
  have htb : Tripped (evaluate (stageStandstill u)) := by
    rw [stageStandstill_eq]
    unfold evaluate
    split
    · exact (ht.setSup rfl).setSup rfl
    · exact (ht.setSup rfl).setSup rfl
  have hparb : (evaluate (stageStandstill u)).params = s.params :=
    Eq.trans (evaluate_frame _ .params (by decide)) (Eq.trans (stageStandstill_frame u .params (by decide)) hparams)
  have hodob : (evaluate (stageStandstill u)).odo = s.odo :=
    Eq.trans (evaluate_frame _ .odo (by decide)) (Eq.trans (stageStandstill_frame u .odo (by decide)) hodo)
  generalize evaluate (stageStandstill u) = b at hb htb hparb hodob
  have hret : retainedAfter u = retainedAfter s := by unfold retainedAfter; rw [hodo, hsup]
  rcases stageAct_cases b with ⟨-, hg⟩ | ⟨-, -, hyes, -⟩
  · have hlevel : levelOf b = levelFor s.params s.sup.level s.odo.sample.v.natAbs 0 := by
      unfold levelOf; rw [hparb, hodob, hb, hsup]
    refine ⟨by rw [hg.sup, hlevel, hb, hret, hsup], ?_⟩
    by_cases hl : levelOf b = b.sup.level
    · rw [hg.same hl]; exact htb
    · have hstep : Tripped (stageLevel b) := by
        rw [stageLevel_changed hl]
        exact (TripStands.of_frame (setFlag_frame .interventionChanged _)).tripped
          (htb.setSup (x := { b.sup with level := levelOf b }) rfl)
      rw [stageAct_changed hl, stageIntervene_eq]
      rcases tripFor_cases (levelCause (stageLevel b)) (stageLevel b) with ⟨e, -⟩ | ⟨c, -, -, e⟩ <;> rw [e]
      · exact hstep.writeSupervisor
      · exact (trip_tripped c _).writeSupervisor
  · rw [canTrip, htb.mode] at hyes
    cases hyes

theorem superviseSample_late {s : State} (h : NoEarlyTrip s) : superviseSample s = stageAct (stageFour s) := by
  unfold superviseSample stageFour
  have e : stageTrip (stageRollback s) = stageRollback s := by
    rw [stageTrip_eq]
    rcases tripFor_cases (stageCause (stageRollback s)) (stageRollback s) with ⟨e, -⟩ | ⟨c, hc, hyes, -⟩
    · exact e
    · rw [canTrip_congr (s := s) (by rw [stageRollback_eq]; rfl)] at hyes
      rcases h with h | h
      · rw [h] at hyes; cases hyes
      · rw [h] at hc; cases hc
  rw [e]

/-- A sample's three outcomes: a trip by stage 1 or 2, a trip by the level, or none (R86, R96). -/
theorem superviseSample_cases (s : State) :
    (∃ c, stageCause (stageRollback s) = some c ∧ canTrip s = true
      ∧ (superviseSample s).sup = { s.sup with
          rollback := rollbackTaken s, mode := .tripped, modeBefore := s.sup.mode,
          trip := some ⟨c, s.sup.mode, pMm s.odo, s.restr.clock⟩, retained := retainedAfter s, vPerm := 0,
          limiting := .mode, binding := none, level := levelFor s.params s.sup.level s.odo.sample.v.natAbs 0 }
      ∧ Tripped (superviseSample s))
    ∨ (NoEarlyTrip s ∧ ∃ c, levelCause (stageLevel (stageFour s)) = some c ∧ canTrip s = true
      ∧ (superviseSample s).sup = { (stageFour s).sup with
          level := levelOf (stageFour s), mode := .tripped, modeBefore := s.sup.mode,
          trip := some ⟨c, s.sup.mode, pMm s.odo, s.restr.clock⟩ }
      ∧ Tripped (superviseSample s))
    ∨ (NoEarlyTrip s ∧ (canTrip s = false ∨ levelCause (stageLevel (stageFour s)) = none)
      ∧ Graded (stageFour s) (superviseSample s)) := by
  have hmode : (stageFour s).sup.mode = s.sup.mode := by rw [stageFour_sup]
  have hodo : (stageFour s).odo = s.odo := stageFour_frame s .odo (by decide)
  have hrestr : (stageFour s).restr = s.restr := stageFour_frame s .restr (by decide)
  have late (hn : NoEarlyTrip s) := superviseSample_late hn ▸ stageAct_cases (stageFour s)
  rw [canTrip_congr hmode, hmode, hodo, hrestr] at late
  cases hcan : canTrip s with
  | false => exact .inr (.inr ⟨.inl hcan, by simpa [hcan] using late (.inl hcan)⟩)
  | true =>
    cases hc : stageCause (stageRollback s) with
    | some c => exact .inl ⟨c, rfl, rfl, early_trip hc hcan⟩
    | none =>
      rcases late (.inr hc) with ⟨h1, h2⟩ | ⟨c, h1, -, h2, h3⟩
      · exact .inr (.inr ⟨.inr hc, hcan ▸ h1, h2⟩)
      · exact .inr (.inl ⟨.inr hc, c, h1, rfl, h2, h3⟩)

end Sys2Proof.Machine
end

section
/-! PROOFS. TRIPPED entered and left, command by command (O40). -/

namespace Sys2Proof.Machine

set_option Elab.async false

/-! ### MODE_CHANGED at a change of mode (R78) -/

/-- No flag is taken back, and another mode sets MODE_CHANGED. -/
structure ModeTold (s t : State) : Prop where
  grows : FlagsGrow s t
  told : t.sup.mode = s.sup.mode ∨ t.link.flags.getLsbD (flagIndex .modeChanged) = true

namespace ModeTold

variable {s t u : State}

theorem of_supervised (h : Supervised s t) (hm : t.sup.mode = s.sup.mode) : ModeTold s t := ⟨h.grows, .inl hm⟩

theorem trans (h : ModeTold s t) (k : ModeTold t u) : ModeTold s u := by
  refine ⟨h.grows.trans k.grows, ?_⟩
  rcases k.told with km | kf
  · rcases h.told with hm | hf
    · exact .inl (km.trans hm)
    · exact .inr (k.grows.getLsbD hf)
  · exact .inr kf

theorem tripIf (b : Bool) (c : TripCause) (s : State) : ModeTold s (tripIf b c s) := by
  unfold Machine.tripIf
  split
  · exact ⟨trip_grows c s, .inr (trip_flag c s)⟩
  · exact ⟨.refl s, .inl rfl⟩

theorem stageTrip (s : State) : ModeTold s (stageTrip s) := by
  unfold Machine.stageTrip
  split
  · exact ⟨.refl s, .inl rfl⟩
  · exact tripIf _ _ s

theorem stageAct (s : State) : ModeTold s (stageAct s) := by
  have h : ModeTold s (stageIntervene (stageLevel s)) :=
    ((of_supervised (stageLevel_supervised s) (by rw [stageLevel_sup])).trans (tripIf _ _ _)).trans (tripIf _ _ _)
  unfold Machine.stageAct
  dsimp only
  split
  · exact h
  · exact h.trans (of_supervised (writeSupervisor_supervised _) rfl)

theorem superviseSample (s : State) : ModeTold s (superviseSample s) := by
  have h1 : ModeTold s (stageRollback s) := of_supervised (stageRollback_supervised s) (by rw [stageRollback_eq]; rfl)
  have h2 := h1.trans (stageTrip _)
  have h3 := h2.trans (of_supervised (stageStandstill_supervised _) (by rw [stageStandstill_eq]; rfl))
  have h4 := h3.trans (of_supervised (evaluate_supervised _) (by rw [evaluate_sup]))
  exact h4.trans (stageAct _)

end ModeTold

/-! ### A trip at a sample (R81, R82) -/

/-- A sample of the supervisor keeps the mode, or trips it from DEPOT or LINE. -/
theorem superviseSample_mode (s : State) :
    (superviseSample s).sup.mode = s.sup.mode
      ∨ (canTrip s = true ∧ (superviseSample s).sup.modeBefore = s.sup.mode
        ∧ (∃ c, (superviseSample s).sup.trip = some ⟨c, s.sup.mode, pMm s.odo, s.restr.clock⟩)
        ∧ Tripped (superviseSample s)) := by
  rcases superviseSample_cases s with ⟨c, -, hcan, hsup, ht⟩ | ⟨-, c, -, hcan, hsup, ht⟩ | ⟨-, -, hg⟩
  · exact .inr ⟨hcan, by rw [hsup], ⟨c, by rw [hsup]⟩, ht⟩
  · exact .inr ⟨hcan, by rw [hsup], ⟨c, by rw [hsup]⟩, ht⟩
  · exact .inl (by rw [hg.sup, stageFour_sup])

/-- The takers after the supervisor (R33). -/
theorem takeSample_stands (s : State) : TripStands (superviseSample (issueSample s)) (takeSample s) := by
  unfold takeSample
  generalize superviseSample (issueSample s) = u
  exact ((TripStands.of_frame (retirePassed_frame u)).trans (.retestReleases _)).trans (.judgeInterlock _)

theorem takeSample_sup (s : State) : (takeSample s).sup = (superviseSample (issueSample s)).sup := by
  unfold takeSample
  generalize superviseSample (issueSample s) = u
  exact Eq.trans (judgeInterlock_frame _ .sup (by decide))
    (Eq.trans (retestReleases_frame _ .sup (by decide)) (retirePassed_frame u .sup (by decide)))

theorem takeSample_grows (s : State) : FlagsGrow (superviseSample (issueSample s)) (takeSample s) := by
  unfold takeSample
  generalize superviseSample (issueSample s) = u
  exact ((retirePassed_grows u).trans (retestReleases_grows _)).trans (judgeInterlock_doors _).2.2.2

/-! ### The commands (R77) -/

/-- TRIPPED left only by an allowed command, and entered only by a trip. -/
def TripRule (c : Instr) (s t : State) : Prop :=
  (s.sup.mode = .tripped → t.sup.mode ≠ .tripped →
    c = .powerOnReset ∨ (s.odo.standstill = true ∧ (c = .reset ∨ (c = .releaseTrip ∧ t.odo.state ≠ .fault))))
  ∧ (s.sup.mode ≠ .tripped → t.sup.mode = .tripped →
      (c = .positionSample ∨ c = .deficitTimerExpiry) ∧ (s.sup.mode = .depot ∨ s.sup.mode = .line)
      ∧ t.sup.modeBefore = s.sup.mode
      ∧ (∃ cause, t.sup.trip = some ⟨cause, s.sup.mode, s.odo.pUm / 1000, s.restr.clock⟩
          ∧ (c = .deficitTimerExpiry → cause = .serviceDeficit))
      ∧ t.brakes.supervisor = ⟨100, .latched⟩ ∧ t.brakes.tperm = false
      ∧ t.link.flags.getLsbD (flagIndex .modeChanged) = true)

theorem TripRule.of_mode {c : Instr} {s t : State} (h : t.sup.mode = s.sup.mode) : TripRule c s t :=
  ⟨fun hs ht => absurd (h.trans hs) ht, fun hs ht => absurd (h.symm.trans ht) hs⟩

/-- A command that brings another mode than TRIPPED. -/
theorem TripRule.of_ne {c : Instr} {s t : State} (h : t.sup.mode ≠ .tripped)
    (hc : s.sup.mode = .tripped →
      c = .powerOnReset ∨ (s.odo.standstill = true ∧ (c = .reset ∨ (c = .releaseTrip ∧ t.odo.state ≠ .fault)))) :
    TripRule c s t :=
  ⟨fun hs _ => hc hs, fun _ ht => absurd ht h⟩

theorem positionSample_tripRule (s : State) : TripRule .positionSample s (takeSample s) := by
  have hstands := takeSample_stands s
  have hsup := takeSample_sup s
  have hgrows := takeSample_grows s
  have htold := ModeTold.superviseSample (issueSample s)
  have hmode := superviseSample_mode (issueSample s)
  generalize superviseSample (issueSample s) = u at hstands hsup hgrows htold hmode
  rcases hmode with hm | ⟨hcan, hbefore, ⟨c, htrip⟩, ht⟩
  · exact .of_mode ((congrArg _ hsup).trans hm)
  · have hfrom := (canTrip_iff _).1 hcan
    refine ⟨fun hs => ?_, fun hs _ => ⟨.inl rfl, hfrom, ?_, ⟨c, ?_, Instr.noConfusion⟩, ?_⟩⟩
    · rcases hfrom with h | h <;> exact absurd (hs.symm.trans h) (by decide)
    · rw [hsup]; exact hbefore
    · rw [hsup]; exact htrip
    · have htt := hstands.tripped ht
      refine ⟨htt.entry, htt.permit, hgrows.getLsbD ?_⟩
      exact htold.told.resolve_left fun h => hs (h.symm.trans ht.mode)

theorem deficitTimerExpiry_tripRule (s : State) : TripRule .deficitTimerExpiry s (deficitExpired s) := by
  by_cases hrun : s.brakes.deficitTimer = none
  · rw [deficitExpired_stopped hrun]; exact .of_mode rfl
  rw [deficitExpired_running hrun]
  split
  next hc =>
    have ht := trip_tripped .serviceDeficit (deficitNoticed s)
    refine ⟨fun hs => ?_, fun _ _ => ⟨.inr rfl, hc.2, ?_, ⟨.serviceDeficit, ?_, fun _ => rfl⟩, ht.entry, ht.permit,
      trip_flag .serviceDeficit (deficitNoticed s)⟩⟩
    · rcases hc.2 with h | h <;> exact absurd (hs.symm.trans h) (by decide)
    · rw [trip_sup]; rfl
    · rw [trip_sup]; rfl
  next => exact .of_mode rfl

theorem modeOfCode_ne_tripped {code : Nat} {m : Mode} (h : modeOfCode code = some m) : m ≠ .tripped := by
  rintro rfl
  unfold modeOfCode at h
  split at h <;> simp at h

/-- SET_MODE neither leaves TRIPPED nor enters it (R77). -/
theorem setMode_tripRule (code : Nat) (s : State) : TripRule (.setMode code) s (setMode code s).2 := by
  unfold setMode
  repeat' split
  · exact .of_mode rfl
  · exact .of_mode rfl
  · exact .of_mode rfl
  · exact .of_mode rfl
  next m hm _ hallowed _ =>
    refine .of_ne (by rw [changeMode_mode]; exact modeOfCode_ne_tripped hm) fun hs => absurd ?_ hallowed
    unfold modeAllowed
    rw [hs]
    rfl

/-- RELEASE_TRIP leaves TRIPPED with the odometry not FAULT (R83). -/
theorem releaseTrip_tripRule {s : State} (hstill : s.odo.standstill = true) :
    TripRule .releaseTrip s (releaseTrip s) := by
  have hsup : (releaseTrip s).sup = (releaseSupervisor (releaseOdometry s)).sup :=
    Eq.trans (combine_frame _ .sup (by decide)) (setBrakes_frame _ _ .sup (by decide))
  have hr : (releaseOdometry s).sup = s.sup := releaseOdometry_frame s .sup (by decide)
  have hodo := releaseTrip_odo s
  have hcases := releaseSupervisor_cases (releaseOdometry s)
  rw [hr] at hcases
  rcases hcases with ⟨-, e⟩ | ⟨⟨hm, hstate⟩, -⟩
  · exact .of_mode (by rw [hsup, e, hr])
  · exact ⟨fun _ _ => .inr ⟨hstill, .inr ⟨rfl, hodo ▸ hstate⟩⟩, fun hs => absurd hm hs⟩

theorem TripRule.answered {c : Instr} {s t : State} (h : TripRule c s t) (r : Req) (res : Result) (data : List Byte) :
    TripRule c s (answer r res data t) := by
  obtain ⟨hleft, hentered⟩ := h
  refine ⟨hleft, fun hs ht => ?_⟩
  obtain ⟨h1, h2, h3, h4, h5, h6, h7⟩ := hentered hs ht
  exact ⟨h1, h2, h3, h4, h5, h6, h7⟩

theorem exec_tripRule (c : Instr) (s : State) : ∃ t, exec c s = .next t ∧ TripRule c s t := by
  by_cases hc : movesMode c = false
  · exact (exec_brakesKept c s hc).imp fun _ k => ⟨k.1, .of_mode k.2.mode⟩
  cases c with
  | powerOnReset => exact ⟨_, rfl, .of_ne Mode.noConfusion fun _ => .inl rfl⟩
  | reset =>
    refine ⟨_, rfl, ?_⟩
    split
    next h => exact .of_ne Mode.noConfusion fun _ => .inr ⟨h, .inl rfl⟩
    next => exact .of_mode rfl
  | setMode code => exact ⟨_, rfl, (setMode_tripRule code s).answered _ _ _⟩
  | releaseTrip =>
    refine ⟨_, rfl, ?_⟩
    split
    next h => exact (releaseTrip_tripRule h).answered _ _ _
    next => exact .of_mode rfl
  | positionSample => exact ⟨_, rfl, positionSample_tripRule s⟩
  | deficitTimerExpiry => exact ⟨_, rfl, deficitTimerExpiry_tripRule s⟩
  | _ => exact absurd rfl hc

end Sys2Proof.Machine

namespace Sys2Proof.Proofs

set_option Elab.async false

open Machine

/-- Settles O40: six commands may change the mode; of these a sample and an SB_DEFICIT notice may trip. -/
theorem trippedHeld : Obligations.TrippedHeld := by
  unfold Obligations.TrippedHeld
  intro c s t ht
  obtain ⟨u, hu, h⟩ := exec_tripRule c s
  cases hu.symm.trans ht
  exact h

end Sys2Proof.Proofs
end

section
/-! PROOFS. What a position sample does to the supervisor, record by record (O37). -/

namespace Sys2Proof.Machine

set_option Elab.async false

/-! ### The causes of stages 1 and 2 (R84, R85) -/

theorem isDir_iff (d : Dir) (r : RDir) : isDir d r = true ↔ (d = .up ∧ r = .up) ∨ (d = .down ∧ r = .down) := by
  simp [isDir]

/-- The least front as a position of the line (R85). -/
def leastPosition (s : State) : Int :=
  if s.sup.dir = .down then (s.odo.sample.p : Int) - (s.params.L : Int) else s.odo.sample.p

theorem leastFront_eq (s : State) : leastFront s.sup.dir s.params.L s.odo.sample.p = along s.sup.dir (leastPosition s) := by
  unfold leastFront leastPosition
  split <;> rfl

theorem passedStop_iff (d : Dir) (y : Int) (x : Restriction) :
    passedStop d (along d y) x = true ↔ x.active = true ∧ x.kind = .stop
      ∧ ((d = .up ∧ x.dir = .up ∧ (x.lo : Int) < y) ∨ (d = .down ∧ x.dir = .down ∧ y < (x.lo : Int))) := by
  unfold passedStop
  simp only [Bool.and_eq_true, beq_iff_eq, decide_eq_true_eq, isDir_iff, and_assoc]
  cases d <;> simp [along]

/-- The overrun test of R85. -/
theorem overrun_iff (s : State) :
    overrun s = true ↔ s.sup.mode = .line ∧ s.odo.sample.standstill = false
      ∧ (s.odo.sample.state = .valid ∨ s.odo.sample.state = .degraded)
      ∧ ∃ x, some x ∈ s.restr.table ∧ x.active = true ∧ x.kind = .stop
          ∧ ((s.sup.dir = .up ∧ x.dir = .up ∧ (x.lo : Int) < leastPosition s)
              ∨ (s.sup.dir = .down ∧ x.dir = .down ∧ leastPosition s < (x.lo : Int))) := by
  have hany : s.restr.table.any (·.any (passedStop s.sup.dir (along s.sup.dir (leastPosition s)))) = true
      ↔ ∃ x, some x ∈ s.restr.table ∧ passedStop s.sup.dir (along s.sup.dir (leastPosition s)) x = true := by
    simp only [List.any_eq_true, Option.any_eq_true]
    exact ⟨fun ⟨_, hx, x, e, hp⟩ => ⟨x, e ▸ hx, hp⟩, fun ⟨x, hx, hp⟩ => ⟨_, hx, x, rfl, hp⟩⟩
  have hne {x : Restriction} (h : (s.sup.dir = .up ∧ x.dir = .up ∧ (x.lo : Int) < leastPosition s)
      ∨ (s.sup.dir = .down ∧ x.dir = .down ∧ leastPosition s < (x.lo : Int))) : s.sup.dir ≠ .neutral := by
    rcases h with h | h <;> rw [h.1] <;> decide
  unfold overrun
  dsimp only
  rw [leastFront_eq]
  simp only [Bool.and_eq_true, beq_iff_eq, bne_iff_ne, Bool.or_eq_true, Bool.not_eq_true', hany, passedStop_iff, and_assoc]
  constructor
  · rintro ⟨hm, -, hs, ho, hx⟩; exact ⟨hm, hs, ho, hx⟩
  · rintro ⟨hm, hs, ho, x, hx, ha, hk, hd⟩; exact ⟨hm, hne hd, hs, ho, x, hx, ha, hk, hd⟩

/-- The first cause of stages 1 and 2 (R86). -/
theorem stageCause_stageRollback (s : State) :
    stageCause (stageRollback s) =
      if s.odo.sample.state = .fault then some .odometryFault
      else if s.params.rollbackLimit * 1000 < rollbackTaken s then some .rollback
      else if overrun s = true then some .stopOverrun
      else none := by
  have hover : overrun (s.setSup { s.sup with rollback := rollbackTaken s }) = overrun s := rfl
  rw [stageRollback_eq]
  unfold stageCause
  rw [hover]
  simp only [rolledBack, decide_eq_true_eq]
  rfl

/-! ### The permitted speed outside LINE with UP or DOWN selected (R87) -/

/-- Without an early trip, and outside LINE with UP or DOWN selected, the records of stage 4 stay to the end. -/
theorem superviseSample_else {s : State} (h : ¬ (s.sup.mode = .line ∧ s.sup.dir ≠ .neutral)) :
    (superviseSample s).sup.retained = retainedAfter s ∧ (superviseSample s).sup.limiting = .mode
      ∧ (superviseSample s).sup.binding = none
      ∧ (NoEarlyTrip s → (superviseSample s).sup.vPerm = if s.sup.mode = .depot then conv s.params.vDepot else 0) := by
  have hfour := stageFour_else h
  have hearly {c : TripCause} (hc : stageCause (stageRollback s) = some c) (hcan : canTrip s = true) : ¬ NoEarlyTrip s := by
    rintro (hn | hn)
    · rw [hcan] at hn; cases hn
    · rw [hc] at hn; cases hn
  rcases superviseSample_cases s with ⟨c, hc, hcan, hsup, -⟩ | ⟨-, c, -, -, hsup, -⟩ | ⟨-, -, hg⟩
  · rw [hsup]; exact ⟨rfl, rfl, rfl, fun hn => absurd hn (hearly hc hcan)⟩
  · rw [hsup, hfour]; exact ⟨rfl, rfl, rfl, fun _ => rfl⟩
  · rw [hg.sup, hfour]; exact ⟨rfl, rfl, rfl, fun _ => rfl⟩

/-! ### Rollback, level and SUPERVISOR entry (R80, R84, R95, R96) -/

theorem superviseSample_rollback (s : State) :
    (superviseSample s).sup.rollback = rollbackTaken s ∧ (superviseSample s).sup.dir = s.sup.dir := by
  rcases superviseSample_cases s with ⟨c, -, -, hsup, -⟩ | ⟨-, c, -, -, hsup, -⟩ | ⟨-, -, hg⟩
  · rw [hsup]; exact ⟨rfl, rfl⟩
  · rw [hsup, stageFour_sup]; exact ⟨rfl, rfl⟩
  · rw [hg.sup, stageFour_sup]; exact ⟨rfl, rfl⟩

theorem levelOf_stageFour (s : State) :
    levelOf (stageFour s) = levelFor s.params s.sup.level s.odo.sample.v.natAbs (stageFour s).sup.vPerm := by
  have hodo : (stageFour s).odo = s.odo := stageFour_frame s .odo (by decide)
  have hparams : (stageFour s).params = s.params := stageFour_frame s .params (by decide)
  have hlevel : (stageFour s).sup.level = s.sup.level := by rw [stageFour_sup]
  unfold levelOf
  rw [hodo, hparams, hlevel]

theorem superviseSample_level (s : State) :
    (superviseSample s).sup.level =
      levelFor s.params s.sup.level s.odo.sample.v.natAbs (superviseSample s).sup.vPerm := by
  rcases superviseSample_cases s with ⟨c, -, -, hsup, -⟩ | ⟨-, c, -, -, hsup, -⟩ | ⟨-, -, hg⟩
  · rw [hsup]
  · rw [hsup]; exact levelOf_stageFour s
  · rw [hg.sup]; exact levelOf_stageFour s

/-- Another level sets INTERVENTION_CHANGED (R96). -/
theorem superviseSample_flag {s : State} (h : (superviseSample s).sup.level ≠ s.sup.level) :
    (superviseSample s).link.flags.getLsbD (flagIndex .interventionChanged) = true := by
  unfold superviseSample at h ⊢
  have hlevel : (evaluate (stageStandstill (stageTrip (stageRollback s)))).sup.level = s.sup.level := by
    rw [evaluate_sup, stageStandstill_eq, stageTrip_eq]
    rcases tripFor_cases (stageCause (stageRollback s)) (stageRollback s) with ⟨e, -⟩ | ⟨c, -, -, e⟩ <;> rw [e]
    · rw [stageRollback_eq]; rfl
    · show (trip c (stageRollback s)).sup.level = _
      rw [trip_sup, stageRollback_eq]; rfl
  generalize evaluate (stageStandstill (stageTrip (stageRollback s))) = u at h hlevel ⊢
  refine stageAct_flag fun e => h ?_
  rw [← hlevel, ← e]
  rcases stageAct_cases u with ⟨-, hg⟩ | ⟨c, -, -, hsup, -⟩
  · rw [hg.sup]
  · rw [hsup]

/-- The SUPERVISOR entry of a sample that trips nothing (R80). -/
theorem superviseSample_entry {s : State} (h : (superviseSample s).sup.mode = s.sup.mode) :
    (canTrip s = true → (superviseSample s).sup.level ≠ s.sup.level →
      (superviseSample s).brakes.supervisor.level =
        if (superviseSample s).sup.level = .service then s.params.sFull else 0)
    ∧ ((superviseSample s).sup.level = s.sup.level → (superviseSample s).brakes.supervisor = s.brakes.supervisor) := by
  have stays {m : Mode} (hm : m = .tripped) (e : m = s.sup.mode) (hcan : canTrip s = true) : False := by
    rw [canTrip, ← e, hm] at hcan
    cases hcan
  have hparams : (stageFour s).params = s.params := stageFour_frame s .params (by decide)
  have hbrakes : (stageFour s).brakes = s.brakes := stageFour_frame s .brakes (by decide)
  have hmode : (stageFour s).sup.mode = s.sup.mode := by rw [stageFour_sup]
  have hlevel : (stageFour s).sup.level = s.sup.level := by rw [stageFour_sup]
  rcases superviseSample_cases s with ⟨c, -, hcan, -, ht⟩ | ⟨-, c, -, hcan, -, ht⟩ | ⟨-, -, hg⟩
  · exact (stays ht.mode h hcan).elim
  · exact (stays ht.mode h hcan).elim
  · obtain ⟨hsup, hsame, hentry⟩ := hg
    rw [hlevel] at hsame hentry
    rw [hsup]
    constructor
    · intro hcan hne
      rw [hentry hne, hparams]
      unfold supervisorDemand
      dsimp only
      rw [hmode]
      rcases (canTrip_iff s).1 hcan with hm | hm <;> rw [hm]
    · intro he
      rw [hsame he, hbrakes]

/-! ### Trips (R81, R82, R96) -/

/-- A sample that finds no cause in stages 1 and 2, in a mode that allows a trip (R96). -/
theorem superviseSample_late_trip {s t : State} (ht : superviseSample s = t) (hcan : canTrip s = true)
    (hno : stageCause (stageRollback s) = none) :
    if t.sup.level = .emergency then t.sup.mode = .tripped ∧ t.sup.modeBefore = s.sup.mode
        ∧ t.sup.trip = some ⟨.emergencySpeed, s.sup.mode, pMm s.odo, s.restr.clock⟩
    else if t.sup.level = .service ∧ s.sup.sbView = true then t.sup.mode = .tripped ∧ t.sup.modeBefore = s.sup.mode
        ∧ t.sup.trip = some ⟨.serviceDeficit, s.sup.mode, pMm s.odo, s.restr.clock⟩
    else t.sup.mode = s.sup.mode ∧ t.sup.trip = s.sup.trip ∧ t.sup.modeBefore = s.sup.modeBefore := by
  have hview : (stageFour s).sup.sbView = s.sup.sbView := by rw [stageFour_sup]
  have hlevel : levelCause (stageLevel (stageFour s)) =
      if levelOf (stageFour s) = .emergency then some .emergencySpeed
      else if levelOf (stageFour s) = .service ∧ s.sup.sbView = true then some .serviceDeficit
      else none := by rw [levelCause_stageLevel, hview]
  have hfour := stageFour_sup s
  have hcases := superviseSample_cases s
  rw [ht] at hcases
  clear ht
  rcases hcases with ⟨c, hc, -⟩ | ⟨-, c, hc, -, hsup, -⟩ | ⟨-, hn, hg⟩
  · rw [hno] at hc; cases hc
  · rw [hsup]
    rw [hc] at hlevel
    split at hlevel
    next h => cases hlevel; rw [if_pos h]; exact ⟨rfl, rfl, rfl⟩
    next h =>
      rw [if_neg h]
      split at hlevel
      next h => cases hlevel; rw [if_pos h]; exact ⟨rfl, rfl, rfl⟩
      next => cases hlevel
  · rw [hn.resolve_left (by rw [hcan]; decide)] at hlevel
    rw [hg.sup]
    split at hlevel
    next => cases hlevel
    next h =>
      rw [if_neg h]
      split at hlevel
      next => cases hlevel
      next h => rw [if_neg h, hfour]; exact ⟨rfl, rfl, rfl⟩

/-- No trip from STANDBY or TRIPPED (R82); the permitted speed is 0 there (R87). -/
theorem superviseSample_idle {s : State} (h : canTrip s = false) :
    (superviseSample s).sup.mode = s.sup.mode ∧ (superviseSample s).sup.trip = s.sup.trip
      ∧ (superviseSample s).sup.vPerm = 0 := by
  have hnot : ¬ (s.sup.mode = .depot ∨ s.sup.mode = .line) := by
    rw [← canTrip_iff, h]; decide
  obtain ⟨hdepot, hline⟩ := not_or.1 hnot
  have hv := (superviseSample_else (s := s) fun hl => hline hl.1).2.2.2 (.inl h)
  rw [if_neg hdepot] at hv
  rcases superviseSample_cases s with ⟨c, -, hcan, -⟩ | ⟨-, c, -, hcan, -⟩ | ⟨-, -, hg⟩
  · rw [h] at hcan; cases hcan
  · rw [h] at hcan; cases hcan
  · exact ⟨by rw [hg.sup, stageFour_sup], by rw [hg.sup, stageFour_sup], hv⟩

/-- One of the three causes is found, and the first of them counts (R86). -/
theorem stageCause_cases (s : State) :
    let found := s.odo.sample.state = .fault ∨ s.params.rollbackLimit * 1000 < rollbackTaken s ∨ overrun s = true
    (found → stageCause (stageRollback s) = some (if s.odo.sample.state = .fault then .odometryFault
      else if s.params.rollbackLimit * 1000 < rollbackTaken s then .rollback else .stopOverrun))
    ∧ (¬ found → stageCause (stageRollback s) = none) := by
  intro found
  rw [stageCause_stageRollback]
  constructor
  · intro h
    split_ifs with h1 h2 h3
    · rfl
    · rfl
    · rfl
    · exact (h.elim h1 (Or.rec h2 h3)).elim
  · intro h
    obtain ⟨h1, h2, h3⟩ := not_or.1 h |>.imp_right not_or.1
    rw [if_neg h1, if_neg h2, if_neg h3]

theorem issueSample_rollback (s : State) :
    rollbackTaken (issueSample s) = if s.sup.mode = .standby then s.sup.rollback else match s.sup.dir with
      | .up => ((s.sup.rollback : Int) - s.odo.travel).toNat
      | .down => ((s.sup.rollback : Int) + s.odo.travel).toNat
      | .neutral => s.sup.rollback + s.odo.travel.natAbs := by
  show (if s.sup.mode = .standby then _ else rollbackAfter s.sup.dir s.sup.rollback s.odo.travel) = _
  unfold rollbackAfter
  cases s.sup.dir <;> rfl

theorem takeSample_standstill (s : State) :
    (takeSample s).odo.standstill = (issueSample s).odo.sample.standstill :=
  congrArg Odometry.standstill (sampleTakers_frame s .odo (by decide))

end Sys2Proof.Machine

namespace Sys2Proof.Proofs

set_option Elab.async false

open Machine

/-- Settles O37: each record of the supervisor after the seven stages, carried through the other takers of the sample
(`takeSample_sup`, `takeSample_stands`). -/
theorem sampleSupervision : Obligations.SampleSupervision := by
  unfold Obligations.SampleSupervision
  intro s t ht v rollback least overrun rolled runs early
  obtain rfl : takeSample s = t := Host.Outcome.next.inj ht
  let i := issueSample s
  have hroll : rollbackTaken i = rollback := issueSample_rollback s
  have hover : Machine.overrun i = true ↔ overrun := by
    have h := overrun_iff i
    rw [← takeSample_standstill s] at h
    exact h
  have hcan : canTrip i = true ↔ runs := canTrip_iff i
  obtain ⟨hfound, hnone⟩ := stageCause_cases i
  rw [hroll, hover] at hfound hnone
  have hquiet : ¬ early → NoEarlyTrip i := fun h => by
    by_cases hr : runs
    · exact .inr (hnone fun hf => h ⟨hr, hf⟩)
    · exact .inl (by rw [← Bool.not_eq_true, hcan]; exact hr)
  have hfirst (hr : runs) (hf : s.odo.state = .fault ∨ rolled ∨ overrun) := early_trip (s := i) (hfound hf) (hcan.2 hr)
  have hidle (hr : ¬ runs) := superviseSample_idle (s := i) (by rw [← Bool.not_eq_true, hcan]; exact hr)
  have helse (h : ¬ (s.sup.mode = .line ∧ s.sup.dir ≠ .neutral)) := superviseSample_else (s := i) h
  obtain ⟨htaken, hdir⟩ := superviseSample_rollback i
  have hlevel := superviseSample_level i
  have hflag := @superviseSample_flag i
  have hentry := @superviseSample_entry i
  have hmode := superviseSample_mode i
  have hstands := takeSample_stands s
  have hgrows := takeSample_grows s
  have hstill := takeSample_standstill s
  rw [takeSample_sup]
  generalize hu : superviseSample (issueSample s) = u at *
  generalize takeSample s = t at *
  refine ⟨htaken.trans hroll, hdir, hlevel, ?early, ?late, ?idle, ?depot, ?neutral, ?retained, ?tripped, ?flag, ?entry,
    ?same, ?mode⟩
  case early =>
    rintro ⟨hr, hf⟩
    obtain ⟨hsup, -⟩ := hfirst hr hf
    rw [hsup]
    exact ⟨rfl, rfl, rfl, rfl⟩
  case late =>
    intro hr he
    have h := superviseSample_late_trip hu (hcan.2 hr) (hnone fun hf => he ⟨hr, hf⟩)
    exact h
  case idle => exact hidle
  case depot =>
    intro hm he
    exact ((helse fun h => by rw [hm] at h; cases h.1).2.2.2 (hquiet he)).trans (if_pos hm)
  case neutral =>
    intro hm hd
    by_cases he : early
    · rw [(hfirst he.1 he.2).1]
    · have hnot : s.sup.mode ≠ .depot := by rw [hm]; decide
      exact ((helse fun h => h.2 hd).2.2.2 (hquiet he)).trans (if_neg hnot)
  case retained =>
    intro hs h
    rw [(helse h).1]
    exact if_pos (hstill.symm.trans hs)
  case tripped =>
    intro hm hs
    rcases hmode with h | ⟨-, -, -, ht⟩
    · exact absurd (h.symm.trans hm) hs
    · have htt := hstands.tripped ht
      exact ⟨htt.entry, htt.emergency, htt.permit⟩
  case flag => exact fun h => hgrows.getLsbD (hflag h)
  case entry =>
    intro hm hr hl
    rw [hstands.supervisor]
    exact (hentry hm).1 (hcan.2 hr) hl
  case same =>
    intro hm hl
    rw [hstands.supervisor]
    exact (hentry hm).2 hl
  case mode => exact fun _ h => ⟨(helse h).2.1, (helse h).2.2.1⟩

end Sys2Proof.Proofs
end

section
/-! PROOFS. The braking curve, the binding target, and what an evaluation collects (O39). -/

namespace Sys2Proof.Machine

set_option Elab.async false

/-! ### The braking curve (R93) -/

theorem curveSpeed_reached {e : Eval} {x : Target} (h : x.at_ ≤ e.curvePoint) : curveSpeed e x = x.speed := if_pos h

/-- The curve speed of a target ahead is the whole square root of the held sum. -/
theorem curveSpeed_ahead {e : Eval} {x : Target} (h : e.curvePoint < x.at_) :
    let total := x.speed ^ 2 + 2 * brakingSum e x
    curveSpeed e x ^ 2 ≤ min total (2 ^ 40 - 1) ∧ min total (2 ^ 40 - 1) < (curveSpeed e x + 1) ^ 2 := by
  intro total
  have hcurve : curveSpeed e x = floorSqrt (min total (2 ^ 40 - 1)) := by
    unfold curveSpeed
    rw [if_neg (by omega), ← pow_two]
    rfl
  rw [hcurve]
  exact floorSqrt_spec _ (by omega)

/-! ### The folds choose the least of a list (R88, R91, R98) -/

/-- What R98 compares of two targets: the curve speed, then the distance from the safe front. -/
def bindingKey (e : Eval) (x : Target) : ℕ ×ₗ ℕ := toLex (curveSpeed e x, (x.at_ - e.front).natAbs)

theorem bindsBefore_iff (e : Eval) (a b : Target) : bindsBefore e a b = true ↔ bindingKey e a < bindingKey e b := by
  unfold bindingKey
  rw [Prod.Lex.toLex_lt_toLex]
  simp [bindsBefore]

theorem bindingOf_eq (e : Eval) (xs : List Target) : bindingOf e xs = xs.argmin (bindingKey e) := by
  unfold bindingOf List.argmin
  congr 1
  funext best x
  cases best with
  | none => rfl
  | some b => simp only [List.argAux, bindsBefore_iff]

/-- The binding target is the one of lowest curve speed, of several the nearest to the safe front (R98). -/
theorem bindingOf_some {e : Eval} {xs : List Target} {b : Target} (h : bindingOf e xs = some b) :
    b ∈ xs ∧ ∀ x ∈ xs, curveSpeed e b < curveSpeed e x
      ∨ (curveSpeed e b = curveSpeed e x ∧ (b.at_ - e.front).natAbs ≤ (x.at_ - e.front).natAbs) := by
  rw [bindingOf_eq] at h
  refine ⟨List.argmin_mem h, fun x hx => ?_⟩
  have hle : bindingKey e b ≤ bindingKey e x := List.le_of_mem_argmin hx h
  unfold bindingKey at hle
  rwa [Prod.Lex.toLex_le_toLex] at hle

theorem nearest_eq (d : Dir) (xs : List Restriction) :
    xs.foldl (nearer d) none = xs.argmin (fun x => along d x.lo) := by
  unfold List.argmin
  congr 1
  funext best x
  cases best <;> rfl

/-! ### What an evaluation reads (R87, R89) -/

/-- The section and window entry at a place of the window. -/
def InWindow (s : State) (j : Nat) (w : WinEntry) (r : SectionRec) : Prop :=
  s.window[j]? = some (some w) ∧ s.line.records[w.index]? = some r

theorem mem_windowSections {s : State} {j : Nat} {w : WinEntry} {r : SectionRec} :
    (j, w, r) ∈ windowSections s ↔ InWindow s j w r := by
  unfold windowSections InWindow recordAt
  simp only [List.mem_filterMap, Prod.exists, List.mem_zipIdx_iff_getElem?, Option.bind_eq_some_iff,
    Option.map_eq_some_iff, Prod.mk.injEq]
  constructor
  · rintro ⟨o, k, hk, w', rfl, r', hr, rfl, rfl, rfl⟩; exact ⟨hk, hr⟩
  · rintro ⟨hw, hr⟩; exact ⟨some w, j, hw, w, rfl, r, hr, rfl, rfl, rfl⟩

/-- A restriction is in force. -/
def Active (s : State) (z : Restriction) : Prop := some z ∈ s.restr.table ∧ z.active = true

theorem mem_active {s : State} {z : Restriction} : z ∈ (evalOf s).active ↔ Active s z := by
  show z ∈ s.restr.table.filterMap (fun o => o.filter (·.active)) ↔ _
  simp only [List.mem_filterMap, Option.filter_eq_some_iff, Active]
  exact ⟨fun ⟨_, ho, e, ha⟩ => ⟨e ▸ ho, ha⟩, fun ⟨ho, ha⟩ => ⟨_, ho, rfl, ha⟩⟩

/-- The section at the end of the line in the travel direction is in the window. -/
def InView (s : State) : Prop :=
  ∃ w r, some w ∈ s.window ∧ s.line.records[w.index]? = some r
    ∧ w.index = (if s.sup.dir = .down then 0 else s.line.records.length - 1)

theorem exists_inWindow {s : State} {w : WinEntry} {r : SectionRec} :
    (∃ j, InWindow s j w r) ↔ some w ∈ s.window ∧ s.line.records[w.index]? = some r := by
  unfold InWindow
  rw [List.mem_iff_getElem?, exists_and_right]

theorem lineEndIn_iff (s : State) : (evalOf s).lineEndIn = true ↔ InView s := by
  show (windowSections s).any (fun y => y.2.1.index == if s.sup.dir = .down then 0 else s.line.records.length - 1)
    = true ↔ _
  rw [List.any_eq_true]
  unfold InView
  constructor
  · rintro ⟨⟨j, w, r⟩, hmem, hi⟩
    obtain ⟨hw, hr⟩ := exists_inWindow.1 ⟨j, mem_windowSections.1 hmem⟩
    exact ⟨w, r, hw, hr, by simpa using hi⟩
  · rintro ⟨w, r, hw, hr, hi⟩
    obtain ⟨j, hj⟩ := exists_inWindow.2 ⟨hw, hr⟩
    exact ⟨(j, w, r), mem_windowSections.2 hj, by simpa using hi⟩

theorem farEntry_eq_some {s : State} {w : WinEntry} {r : SectionRec} :
    farEntry (evalOf s) = some (w, r) ↔ InWindow s 31 w r := by
  show ((windowSections s).find? (·.1 == 31)).map (·.2) = some (w, r) ↔ _
  constructor
  · intro h
    obtain ⟨⟨j, y⟩, hy, e⟩ := Option.map_eq_some_iff.1 h
    obtain rfl : y = (w, r) := e
    obtain rfl : j = 31 := by simpa using List.find?_some hy
    exact mem_windowSections.1 (List.mem_of_find?_eq_some hy)
  · intro h
    have hsome : ((windowSections s).find? (·.1 == 31)).isSome = true :=
      List.find?_isSome.2 ⟨_, mem_windowSections.2 h, rfl⟩
    obtain ⟨⟨j, w', r'⟩, hy⟩ := Option.isSome_iff_exists.1 hsome
    obtain rfl : j = 31 := by simpa using List.find?_some hy
    obtain ⟨hw, hr⟩ := mem_windowSections.1 (List.mem_of_find?_eq_some hy)
    obtain ⟨kw, kr⟩ := h
    cases hw.symm.trans kw
    cases hr.symm.trans kr
    rw [hy]
    rfl

/-- A position is within the window's reach. -/
def InReach (s : State) (y : Int) : Prop :=
  (InView s ∧ y ≤ (evalOf s).lineEndAt) ∨ (¬ InView s ∧ ∃ w r, InWindow s 31 w r ∧ y ≤ sectionExit s.sup.dir r)

theorem withinReach_iff (s : State) (y : Int) : withinReach (evalOf s) y = true ↔ InReach s y := by
  unfold withinReach windowReach InReach
  rw [← lineEndIn_iff]
  cases (evalOf s).lineEndIn with
  | true => simp
  | false =>
    simp only [Bool.false_eq_true, if_false, false_and, false_or, not_false_eq_true, true_and, Option.any_eq_true,
      Option.map_eq_some_iff, Prod.exists, decide_eq_true_eq, farEntry_eq_some]
    constructor
    · rintro ⟨x, ⟨w, r, h, rfl⟩, hy⟩; exact ⟨w, r, h, hy⟩
    · rintro ⟨w, r, h, hy⟩; exact ⟨_, ⟨w, r, h, rfl⟩, hy⟩

/-! ### The nearest VALLEY STOP ahead (R91) -/

/-- A direction is the selected one. -/
def OwnDir (s : State) (z : Restriction) : Prop :=
  (s.sup.dir = .up ∧ z.dir = .up) ∨ (s.sup.dir = .down ∧ z.dir = .down)

/-- A STOP in force in the selected direction that the least front has not passed. -/
def StopAhead (s : State) (z : Restriction) : Prop :=
  Active s z ∧ z.kind = .stop ∧ OwnDir s z ∧ (evalOf s).least ≤ along s.sup.dir z.lo

theorem stopAhead_iff {s : State} {z : Restriction} :
    z ∈ (evalOf s).active ∧ stopAhead (evalOf s) z = true ↔ StopAhead s z := by
  unfold StopAhead OwnDir stopAhead
  rw [mem_active]
  simp only [Bool.and_eq_true, beq_iff_eq, decide_eq_true_eq, isDir_iff, and_assoc]
  rfl

theorem mem_valleyStops {s : State} {z : Restriction} :
    z ∈ (evalOf s).active.filter (fun x => stopAhead (evalOf s) x && x.issuer == .valley)
      ↔ StopAhead s z ∧ z.issuer = .valley := by
  rw [List.mem_filter, ← stopAhead_iff]
  simp only [Bool.and_eq_true, beq_iff_eq, and_assoc]

theorem authorityStop_some {s : State} {z : Restriction} (h : authorityStop (evalOf s) = some z) :
    StopAhead s z ∧ z.issuer = .valley
      ∧ ∀ y, StopAhead s y → y.issuer = .valley → along s.sup.dir z.lo ≤ along s.sup.dir y.lo := by
  unfold authorityStop at h
  rw [nearest_eq] at h
  obtain ⟨hz, hv⟩ := mem_valleyStops.1 (List.argmin_mem h)
  exact ⟨hz, hv, fun y hy hyv =>
    List.le_of_mem_argmin (f := fun x : Restriction => along s.sup.dir x.lo) (mem_valleyStops.2 ⟨hy, hyv⟩) h⟩

theorem authorityStop_none (s : State) :
    authorityStop (evalOf s) = none ↔ ∀ z, StopAhead s z → z.issuer ≠ .valley := by
  unfold authorityStop
  rw [nearest_eq, List.argmin_eq_none, List.eq_nil_iff_forall_not_mem]
  simp only [mem_valleyStops, not_and]

/-! ### The targets collected (R89 to R91) -/

theorem mem_sectionTargets {s : State} {y : Target} :
    y ∈ sectionTargets (evalOf s) ↔ ∃ j w r, 9 ≤ j ∧ s.window[j]? = some (some w)
      ∧ s.line.records[w.index]? = some r ∧ sectionOverlaps r (evalOf s).lo (evalOf s).hi = false
      ∧ y = ⟨.sectionEntry, sectionEntry s.sup.dir r, w.limit, .section_ r.number⟩ := by
  unfold sectionTargets
  rw [List.mem_filterMap]
  constructor
  · rintro ⟨⟨j, w, r⟩, hmem, h⟩
    dsimp only at h
    split at h
    next hc =>
      simp only [Bool.and_eq_true, decide_eq_true_eq, Bool.not_eq_true'] at hc
      obtain ⟨hw, hr⟩ := mem_windowSections.1 hmem
      exact ⟨j, w, r, hc.1, hw, hr, hc.2, (Option.some.inj h).symm⟩
    next => cases h
  · rintro ⟨j, w, r, hj, hw, hr, hover, rfl⟩
    refine ⟨(j, w, r), mem_windowSections.2 ⟨hw, hr⟩, if_pos ?_⟩
    simp [hj, hover]

/-- A filtered collection over the entries in force. -/
theorem mem_active_targets {s : State} {c : Restriction → Bool} {f : Restriction → Target} {y : Target} :
    (y ∈ (evalOf s).active.filterMap fun x => if c x = true then some (f x) else none)
      ↔ ∃ z, Active s z ∧ c z = true ∧ y = f z := by
  rw [List.mem_filterMap]
  simp only [mem_active, Option.ite_none_right_eq_some, Option.some.injEq, eq_comm (a := y)]

theorem appliesTo_iff {s : State} {z : Restriction} (hd : s.sup.dir ≠ .neutral) :
    appliesTo s.sup.dir z.dir = true ↔ OwnDir s z ∨ z.dir = .both := by
  unfold appliesTo OwnDir
  rw [Bool.or_eq_true, isDir_iff]
  cases h : s.sup.dir with
  | neutral => exact absurd h hd
  | up => simp
  | down => simp

theorem mem_speedTargets {s : State} {y : Target} (hd : s.sup.dir ≠ .neutral) :
    y ∈ speedTargets (evalOf s) ↔ ∃ z, Active s z ∧ z.kind = .speed ∧ (OwnDir s z ∨ z.dir = .both)
      ∧ (evalOf s).front < nearBoundary s.sup.dir z ∧ InReach s (nearBoundary s.sup.dir z)
      ∧ y = ⟨.speedBegin, nearBoundary s.sup.dir z, conv z.limit, .restriction z.issuer z.id⟩ := by
  refine mem_active_targets.trans (exists_congr fun z => ?_)
  simp only [Bool.and_eq_true, beq_iff_eq, decide_eq_true_eq, withinReach_iff, and_assoc,
    show (evalOf s).dir = s.sup.dir from rfl, appliesTo_iff hd]

theorem mem_stopTargets {s : State} {y : Target} :
    y ∈ stopTargets (evalOf s) ↔ ∃ z, StopAhead s z ∧ (z.issuer = .valley ∨ z.issuer = .car)
      ∧ InReach s (along s.sup.dir z.lo)
      ∧ y = ⟨.stop, along s.sup.dir z.lo, 0, .restriction z.issuer z.id⟩ := by
  refine mem_active_targets.trans (exists_congr fun z => ?_)
  rw [← stopAhead_iff, mem_active]
  simp only [Bool.and_eq_true, Bool.or_eq_true, beq_iff_eq, withinReach_iff, and_assoc,
    show (evalOf s).dir = s.sup.dir from rfl]

theorem mem_edgeTargets {s : State} {y : Target} :
    y ∈ edgeTargets (evalOf s) ↔ (InView s ∧ y = ⟨.lineEnd, (evalOf s).lineEndAt, 0, .none⟩)
      ∨ (¬ InView s ∧ ∃ w r, InWindow s 31 w r
          ∧ y = ⟨.windowEdge, sectionExit s.sup.dir r, min (conv s.params.vEdge) w.limit, .none⟩) := by
  unfold edgeTargets
  by_cases hv : (evalOf s).lineEndIn = true
  · have hin := (lineEndIn_iff s).1 hv
    rw [if_pos hv, List.mem_singleton]
    simp only [hin, true_and, not_true_eq_false, false_and, or_false]
  · have hout := mt (lineEndIn_iff s).2 hv
    rw [if_neg hv]
    simp only [hout, not_false_eq_true, true_and, false_and, false_or, ← farEntry_eq_some]
    cases farEntry (evalOf s) with
    | none => simp
    | some x =>
      simp only [List.mem_singleton, Option.some.injEq]
      exact ⟨fun h => ⟨x.1, x.2, rfl, h⟩, fun ⟨_, _, e, h⟩ => e ▸ h⟩

theorem mem_authority {s : State} {retained : Option Nat} {y : Target} :
    y ∈ (authority (evalOf s) retained).1 ↔
      (∃ z, authorityStop (evalOf s) = some z ∧ InReach s (along s.sup.dir z.lo)
          ∧ y = ⟨.authorityEnd, along s.sup.dir z.lo, 0, .restriction z.issuer z.id⟩)
      ∨ (∃ k : Nat, authorityStop (evalOf s) = none ∧ retained = some k ∧ InReach s (along s.sup.dir k)
          ∧ y = ⟨.authorityRetained, along s.sup.dir k, 0, .none⟩)
      ∨ (authorityStop (evalOf s) = none ∧ retained = none ∧ y = ⟨.noAuthority, (evalOf s).front, 0, .none⟩) := by
  unfold authority
  cases authorityStop (evalOf s) with
  | some z =>
    simp only [← withinReach_iff, Option.some.injEq, reduceCtorEq, false_and, exists_false, or_false]
    split
    next h => simp only [List.mem_singleton, exists_eq_left', show (evalOf s).dir = s.sup.dir from rfl] at h ⊢; simp [h]
    next h => simp only [exists_eq_left', show (evalOf s).dir = s.sup.dir from rfl] at h ⊢; simp [h]
  | none =>
    cases retained with
    | none => simp
    | some k =>
      simp only [← withinReach_iff, Option.some.injEq, reduceCtorEq, false_and, exists_false, false_or, true_and,
        or_false, exists_eq_left']
      split
      next h => simp only [List.mem_singleton, show (evalOf s).dir = s.sup.dir from rfl] at h ⊢; simp [h]
      next h => simp only [show (evalOf s).dir = s.sup.dir from rfl] at h ⊢; simp [h]

theorem mem_targets {s : State} {retained : Option Nat} {y : Target} :
    y ∈ targets (evalOf s) retained ↔ y ∈ sectionTargets (evalOf s) ∨ y ∈ speedTargets (evalOf s)
      ∨ y ∈ stopTargets (evalOf s) ∨ y ∈ (authority (evalOf s) retained).1 ∨ y ∈ edgeTargets (evalOf s) := by
  unfold targets
  simp only [List.mem_append]
  tauto

/-! ### Positions in the travel direction -/

theorem sectionExit_eq (d : Dir) (r : SectionRec) :
    sectionExit d r = along d (if d = .down then (r.start : Int) else (r.start + r.length : Nat)) := by
  unfold sectionExit; split <;> rfl

theorem sectionEntry_eq (d : Dir) (r : SectionRec) :
    sectionEntry d r = along d (if d = .down then ((r.start + r.length : Nat) : Int) else r.start) := by
  unfold sectionEntry; split <;> rfl

theorem nearBoundary_eq (d : Dir) (z : Restriction) :
    nearBoundary d z = along d (if d = .down then (z.hi : Int) else z.lo) := by
  unfold nearBoundary; split <;> rfl

theorem safeFront_eq (d : Dir) (len p u : Nat) :
    safeFront d len p u = if d = .down then -extentLo len p u else extentHi p u := by
  unfold safeFront along; split <;> rfl

theorem leastFront_down (d : Dir) (len p : Nat) :
    leastFront d len p = if d = .down then -((p : Int) - len) else (p : Int) := by
  unfold leastFront along; split <;> rfl

theorem sectionOverlaps_iff {r : SectionRec} {lo hi : Int} :
    sectionOverlaps r lo hi = true ↔ (r.start : Int) ≤ hi ∧ lo < ((r.start + r.length : Nat) : Int) := by
  simp [sectionOverlaps]

theorem sectionOverlaps_false {r : SectionRec} {lo hi : Int} :
    sectionOverlaps r lo hi = false ↔ ¬ ((r.start : Int) ≤ hi ∧ lo < ((r.start + r.length : Nat) : Int)) := by
  rw [← sectionOverlaps_iff, Bool.not_eq_true]

end Sys2Proof.Machine

namespace Sys2Proof.Proofs

set_option Elab.async false

open Machine

/-- Settles O39: the square root's own bounds, the binding target as the least of a list, and each kind of target from
the list that collects it. -/
theorem curveSpeeds : Obligations.CurveSpeeds := by
  unfold Obligations.CurveSpeeds
  refine ⟨fun e x => ⟨curveSpeed_reached, curveSpeed_ahead⟩, fun e xs b => bindingOf_some, ?_⟩
  intro s hd e down g lo hi front least far near lineEndAt inView edge within own active ahead
  have hfront : e.front = front := safeFront_eq _ _ _ _
  have hleast : e.least = least := leastFront_down _ _ _
  have hexit (r : SectionRec) : sectionExit s.sup.dir r = far r := sectionExit_eq _ r
  have hnear (z : Restriction) : nearBoundary s.sup.dir z = near z := nearBoundary_eq _ z
  have hwithin (y : Int) : InReach s y ↔ within y := by
    unfold InReach
    simp only [hexit]
    exact Iff.rfl
  have hahead (z : Restriction) : StopAhead s z ↔ ahead z := by
    unfold StopAhead
    rw [show (evalOf s).least = least from hleast]
    exact Iff.rfl
  refine ⟨hfront, rfl, congrArg (· + _) hfront, fun z hz => ?_, ?_, fun retained y => ?_⟩
  · obtain ⟨hz, hv, hleast⟩ := authorityStop_some hz
    exact ⟨(hahead z).1 hz, hv, fun y hy => hleast y ((hahead y).2 hy)⟩
  · rw [authorityStop_none]
    exact forall_congr' fun z => by rw [hahead]
  · rw [mem_targets, mem_sectionTargets, mem_speedTargets hd, mem_stopTargets, mem_authority, mem_edgeTargets]
    simp only [hahead, hwithin, hnear, hexit, sectionEntry_eq, sectionOverlaps_false, or_assoc, ← hfront]
    exact Iff.rfl

end Sys2Proof.Proofs
end

section
/-! PROOFS. The permitted speed in LINE: the limits over the safe extent, and what sets the lowest (O38). -/

namespace Sys2Proof.Machine

set_option Elab.async false

/-! ### The limits over the safe extent (R88) -/

/-- What R88 and R98 compare of two limits. -/
def limitKey (x : Nat × Nat × Limiting) : ℕ ×ₗ ℕ := toLex (x.1, x.2.1)

theorem lowest_eq (xs : List (Nat × Nat × Limiting)) : xs.foldl lowerLimit none = xs.argmin limitKey := by
  unfold List.argmin
  congr 1
  funext best x
  cases best with
  | none => rfl
  | some b => simp only [lowerLimit, List.argAux, limitKey, Prod.Lex.toLex_lt_toLex]

theorem lowest_some {xs : List (Nat × Nat × Limiting)} {x : Nat × Nat × Limiting}
    (h : xs.foldl lowerLimit none = some x) :
    x ∈ xs ∧ ∀ y ∈ xs, x.1 < y.1 ∨ (x.1 = y.1 ∧ x.2.1 ≤ y.2.1) := by
  rw [lowest_eq] at h
  refine ⟨List.argmin_mem h, fun y hy => ?_⟩
  have hle : limitKey x ≤ limitKey y := List.le_of_mem_argmin hy h
  unfold limitKey at hle
  rwa [Prod.Lex.toLex_le_toLex] at hle

theorem lowest_none {xs : List (Nat × Nat × Limiting)} : xs.foldl lowerLimit none = none ↔ xs = [] := by
  rw [lowest_eq, List.argmin_eq_none]

/-- A window entry whose section overlaps the safe extent. -/
def Covering (s : State) (w : WinEntry) (r : SectionRec) : Prop :=
  some w ∈ s.window ∧ s.line.records[w.index]? = some r
    ∧ (r.start : Int) ≤ (evalOf s).hi ∧ (evalOf s).lo < ((r.start + r.length : Nat) : Int)

/-- A SPEED restriction in force over the safe extent, for the selected direction. -/
def SpeedOver (s : State) (x : Restriction) : Prop :=
  Active s x ∧ x.kind = .speed ∧ (OwnDir s x ∨ x.dir = .both)
    ∧ (x.lo : Int) ≤ (evalOf s).hi ∧ (evalOf s).lo ≤ (x.hi : Int)

/-- The window entries over the safe extent, as `staticBound` collects them. -/
def staticLimits (e : Eval) : List (Nat × Nat × Limiting) :=
  (e.entries.filter (fun y => sectionOverlaps y.2.2 e.lo e.hi)).map
    (fun y => (y.2.1.limit, y.2.1.index, Limiting.static y.2.2.number))

/-- The SPEED entries over the safe extent, as `restrictionBound` collects them. -/
def speedLimits (e : Eval) : List (Nat × Nat × Limiting) :=
  (e.active.filter (fun x => x.kind == .speed && appliesTo e.dir x.dir && rangeOverlaps x.lo x.hi e.lo e.hi)).map
    (fun x => (conv x.limit, 0, Limiting.restriction x.issuer x.id))

theorem mem_staticLimits {s : State} {x : Nat × Nat × Limiting} :
    x ∈ staticLimits (evalOf s) ↔ ∃ w r, Covering s w r ∧ x = (w.limit, w.index, .static r.number) := by
  unfold staticLimits Covering
  simp only [List.mem_map, List.mem_filter, Prod.exists, sectionOverlaps_iff]
  constructor
  · rintro ⟨j, w, r, ⟨hmem, ho⟩, rfl⟩
    obtain ⟨hw, hr⟩ := exists_inWindow.1 ⟨j, mem_windowSections.1 hmem⟩
    exact ⟨w, r, ⟨hw, hr, ho⟩, rfl⟩
  · rintro ⟨w, r, ⟨hw, hr, ho⟩, rfl⟩
    obtain ⟨j, hj⟩ := exists_inWindow.2 ⟨hw, hr⟩
    exact ⟨j, w, r, ⟨mem_windowSections.2 hj, ho⟩, rfl⟩

theorem mem_speedLimits {s : State} (hd : s.sup.dir ≠ .neutral) {x : Nat × Nat × Limiting} :
    x ∈ speedLimits (evalOf s) ↔ ∃ z, SpeedOver s z ∧ x = (conv z.limit, 0, .restriction z.issuer z.id) := by
  unfold speedLimits SpeedOver
  simp only [List.mem_map, List.mem_filter, mem_active, Bool.and_eq_true, beq_iff_eq, rangeOverlaps, decide_eq_true_eq,
    show (evalOf s).dir = s.sup.dir from rfl, appliesTo_iff hd, and_assoc, eq_comm (b := x)]

/-! ### The lowest of the three kinds of bound (R87, R98) -/

/-- What set a permitted speed: STATIC before RESTRICTION before TARGET, or no bound at all. -/
inductive SetBy (s : State) (b : Option Target) : Nat → Limiting → Prop
  | static (w : WinEntry) (r : SectionRec) (hw : Covering s w r) : SetBy s b w.limit (.static r.number)
  | restriction (x : Restriction) (hx : SpeedOver s x) (hs : ∀ w r, Covering s w r → conv x.limit < w.limit) :
      SetBy s b (conv x.limit) (.restriction x.issuer x.id)
  | target (t : Target) (ht : b = some t) (hs : ∀ w r, Covering s w r → curveSpeed (evalOf s) t < w.limit)
      (hr : ∀ x, SpeedOver s x → curveSpeed (evalOf s) t < conv x.limit) :
      SetBy s b (curveSpeed (evalOf s) t) .target
  | unbounded (hb : b = none) (hs : ∀ w r, ¬ Covering s w r) (hr : ∀ x, ¬ SpeedOver s x) : SetBy s b 0 .target

namespace SetBy

variable {s : State} {b : Option Target} {v : Nat} {l : Limiting}

theorem ne_mode (h : SetBy s b v l) : l ≠ .mode := by
  cases h <;> exact Limiting.noConfusion

theorem of_static {n : Nat} (h : SetBy s b v (.static n)) : ∃ w r, Covering s w r ∧ r.number = n ∧ v = w.limit := by
  cases h with
  | static w r hw => exact ⟨w, r, hw, rfl, rfl⟩

theorem of_restriction {i : Issuer} {id : Nat} (h : SetBy s b v (.restriction i id)) :
    (∃ x, SpeedOver s x ∧ x.issuer = i ∧ x.id = id ∧ v = conv x.limit) ∧ ∀ w r, Covering s w r → v < w.limit := by
  cases h with
  | restriction x hx hs => exact ⟨⟨x, hx, rfl, rfl, rfl⟩, hs⟩

theorem of_target (h : SetBy s b v .target) :
    (∀ w r, Covering s w r → v < w.limit) ∧ ∀ x, SpeedOver s x → v < conv x.limit := by
  cases h with
  | target t _ hs hr => exact ⟨hs, hr⟩
  | unbounded _ hs hr => exact ⟨fun w r hw => absurd hw (hs w r), fun x hx => absurd hx (hr x)⟩

/-- With a binding target the permitted speed is its curve speed or a limit over the safe extent. -/
theorem attained {t : Target} (h : SetBy s (some t) v l) :
    v = curveSpeed (evalOf s) t ∨ (∃ w r, Covering s w r ∧ v = w.limit) ∨ ∃ x, SpeedOver s x ∧ v = conv x.limit := by
  cases h with
  | static w r hw => exact .inr (.inl ⟨w, r, hw, rfl⟩)
  | restriction x hx _ => exact .inr (.inr ⟨x, hx, rfl⟩)
  | target t' ht _ _ => cases ht; exact .inl rfl
  | unbounded ht _ _ => cases ht

end SetBy

/-- The three bounds, each with the rank of its kind. -/
def ranked (e : Eval) (b : Option Target) : List (Nat × Nat × Limiting) :=
  [(staticBound e).map (fun x => (x.1, 0, x.2.2)), (restrictionBound e).map (fun x => (x.1, 1, x.2.2)),
    b.map (fun t => (curveSpeed e t, 2, Limiting.target))].filterMap id

theorem mem_ranked {e : Eval} {b : Option Target} {x : Nat × Nat × Limiting} :
    x ∈ ranked e b ↔ (∃ y, staticBound e = some y ∧ x = (y.1, 0, y.2.2))
      ∨ (∃ y, restrictionBound e = some y ∧ x = (y.1, 1, y.2.2))
      ∨ ∃ t, b = some t ∧ x = (curveSpeed e t, 2, .target) := by
  unfold ranked
  simp only [List.mem_filterMap, List.mem_cons, List.not_mem_nil, or_false, id_eq, exists_eq_right, eq_comm (a := some x),
    Option.map_eq_some_iff, eq_comm (b := x)]

/-- Neither bound nor target is below the permitted speed, and one of them is it. -/
theorem permitted_cases (e : Eval) (b : Option Target) :
    (ranked e b = [] ∧ permitted e b = (0, .target))
      ∨ ∃ x ∈ ranked e b, permitted e b = (x.1, x.2.2) ∧ ∀ y ∈ ranked e b, x.1 < y.1 ∨ (x.1 = y.1 ∧ x.2.1 ≤ y.2.1) := by
  have hp : permitted e b = ((ranked e b).foldl lowerLimit none).elim (0, .target) (fun x => (x.1, x.2.2)) := rfl
  rw [hp]
  cases h : (ranked e b).foldl lowerLimit none with
  | none => exact .inl ⟨lowest_none.1 h, rfl⟩
  | some x =>
    obtain ⟨hx, hle⟩ := lowest_some h
    exact .inr ⟨x, hx, rfl, hle⟩

/-- The lowest static limit is a limit over the safe extent, and none there is lower. -/
theorem staticBound_some {s : State} {x : Nat × Nat × Limiting} (h : staticBound (evalOf s) = some x) :
    (∃ w r, Covering s w r ∧ x = (w.limit, w.index, .static r.number)) ∧ ∀ w r, Covering s w r → x.1 ≤ w.limit := by
  have h' : (staticLimits (evalOf s)).foldl lowerLimit none = some x := h
  obtain ⟨hx, hle⟩ := lowest_some h'
  refine ⟨mem_staticLimits.1 hx, fun w r hw => ?_⟩
  have := hle _ (mem_staticLimits.2 ⟨w, r, hw, rfl⟩)
  dsimp only at this
  omega

theorem staticBound_none {s : State} (h : staticBound (evalOf s) = none) (w : WinEntry) (r : SectionRec) :
    ¬ Covering s w r := fun hw => by
  have h' : (staticLimits (evalOf s)).foldl lowerLimit none = none := h
  exact List.eq_nil_iff_forall_not_mem.1 (lowest_none.1 h') _ (mem_staticLimits.2 ⟨w, r, hw, rfl⟩)

theorem restrictionBound_some {s : State} (hd : s.sup.dir ≠ .neutral) {x : Nat × Nat × Limiting}
    (h : restrictionBound (evalOf s) = some x) :
    (∃ z, SpeedOver s z ∧ x = (conv z.limit, 0, .restriction z.issuer z.id)) ∧ ∀ z, SpeedOver s z → x.1 ≤ conv z.limit := by
  have h' : (speedLimits (evalOf s)).foldl lowerLimit none = some x := h
  obtain ⟨hx, hle⟩ := lowest_some h'
  refine ⟨(mem_speedLimits hd).1 hx, fun z hz => ?_⟩
  have := hle _ ((mem_speedLimits hd).2 ⟨z, hz, rfl⟩)
  dsimp only at this
  omega

theorem restrictionBound_none {s : State} (hd : s.sup.dir ≠ .neutral) (h : restrictionBound (evalOf s) = none)
    (z : Restriction) : ¬ SpeedOver s z := fun hz => by
  have h' : (speedLimits (evalOf s)).foldl lowerLimit none = none := h
  exact List.eq_nil_iff_forall_not_mem.1 (lowest_none.1 h') _ ((mem_speedLimits hd).2 ⟨z, hz, rfl⟩)

/-- A rank of the least bound is below one of another bound in every bound of a lower kind. -/
theorem permitted_setBy {s : State} (hd : s.sup.dir ≠ .neutral) (b : Option Target) :
    SetBy s b (permitted (evalOf s) b).1 (permitted (evalOf s) b).2 := by
  have hstatic {v : Nat} (h : ∀ y, staticBound (evalOf s) = some y → v < y.1) (w : WinEntry) (r : SectionRec)
      (hw : Covering s w r) : v < w.limit := by
    cases hs : staticBound (evalOf s) with
    | none => exact absurd hw (staticBound_none hs w r)
    | some y => exact lt_of_lt_of_le (h y hs) ((staticBound_some hs).2 w r hw)
  have hspeed {v : Nat} (h : ∀ y, restrictionBound (evalOf s) = some y → v < y.1) (z : Restriction)
      (hz : SpeedOver s z) : v < conv z.limit := by
    cases hs : restrictionBound (evalOf s) with
    | none => exact absurd hz (restrictionBound_none hd hs z)
    | some y => exact lt_of_lt_of_le (h y hs) ((restrictionBound_some hd hs).2 z hz)
  rcases permitted_cases (evalOf s) b with ⟨hnil, hv⟩ | ⟨x, hx, hv, hle⟩
  · have hnone := List.eq_nil_iff_forall_not_mem.1 hnil
    rw [hv]
    refine .unbounded ?_ ?_ ?_
    · exact Option.eq_none_iff_forall_ne_some.2 fun t ht => hnone _ (mem_ranked.2 (.inr (.inr ⟨t, ht, rfl⟩)))
    · exact staticBound_none (Option.eq_none_iff_forall_ne_some.2 fun y hy =>
        hnone _ (mem_ranked.2 (.inl ⟨y, hy, rfl⟩)))
    · exact restrictionBound_none hd (Option.eq_none_iff_forall_ne_some.2 fun y hy =>
        hnone _ (mem_ranked.2 (.inr (.inl ⟨y, hy, rfl⟩))))
  · have below_static (hrank : 0 < x.2.1) (y) (hy : staticBound (evalOf s) = some y) : x.1 < y.1 := by
      have := hle _ (mem_ranked.2 (.inl ⟨y, hy, rfl⟩))
      dsimp only at this
      omega
    have below_speed (hrank : 1 < x.2.1) (y) (hy : restrictionBound (evalOf s) = some y) : x.1 < y.1 := by
      have := hle _ (mem_ranked.2 (.inr (.inl ⟨y, hy, rfl⟩)))
      dsimp only at this
      omega
    rw [hv]
    rcases mem_ranked.1 hx with ⟨y, hy, rfl⟩ | ⟨y, hy, rfl⟩ | ⟨t, ht, rfl⟩
    · obtain ⟨⟨w, r, hw, rfl⟩, -⟩ := staticBound_some hy
      exact .static w r hw
    · obtain ⟨⟨z, hz, rfl⟩, -⟩ := restrictionBound_some hd hy
      exact .restriction z hz (hstatic (below_static Nat.one_pos))
    · exact .target t ht (hstatic (below_static Nat.two_pos)) (hspeed (below_speed Nat.one_lt_two))

/-- The permitted speed is above no limit over the safe extent and not above the binding curve speed. -/
theorem permitted_le {s : State} (hd : s.sup.dir ≠ .neutral) (b : Option Target) :
    (∀ w r, Covering s w r → (permitted (evalOf s) b).1 ≤ w.limit)
    ∧ (∀ x, SpeedOver s x → (permitted (evalOf s) b).1 ≤ conv x.limit)
    ∧ ∀ t, b = some t → (permitted (evalOf s) b).1 ≤ curveSpeed (evalOf s) t := by
  have hall (y) (hy : y ∈ ranked (evalOf s) b) : (permitted (evalOf s) b).1 ≤ y.1 := by
    rcases permitted_cases (evalOf s) b with ⟨hnil, -⟩ | ⟨x, -, hv, hle⟩
    · rw [hnil] at hy; cases hy
    · have := hle y hy
      rw [hv]
      dsimp only
      omega
  refine ⟨fun w r hw => ?_, fun x hx => ?_, fun t ht => hall _ (mem_ranked.2 (.inr (.inr ⟨t, ht, rfl⟩)))⟩
  · cases h : staticBound (evalOf s) with
    | none => exact absurd hw (staticBound_none h w r)
    | some y => exact le_trans (hall _ (mem_ranked.2 (.inl ⟨y, h, rfl⟩))) ((staticBound_some h).2 w r hw)
  · cases h : restrictionBound (evalOf s) with
    | none => exact absurd hx (restrictionBound_none hd h x)
    | some y => exact le_trans (hall _ (mem_ranked.2 (.inr (.inl ⟨y, h, rfl⟩)))) ((restrictionBound_some hd h).2 x hx)

/-! ### Without authority (R91) -/

/-- No authority stops the car at its front: the binding target has curve speed 0. -/
theorem permitted_no_authority {s : State} (hd : s.sup.dir ≠ .neutral) (h : authorityStop (evalOf s) = none) :
    (permitted (evalOf s) (bindingOf (evalOf s) (targets (evalOf s) none))).1 = 0 := by
  let x : Target := ⟨.noAuthority, (evalOf s).front, 0, .none⟩
  have hauth : x ∈ (authority (evalOf s) none).1 := mem_authority.2 (.inr (.inr ⟨h, rfl, rfl⟩))
  have hx : x ∈ targets (evalOf s) none := mem_targets.2 (.inr (.inr (.inr (.inl hauth))))
  have hzero : curveSpeed (evalOf s) x = 0 := by
    refine curveSpeed_reached (x := x) ?_
    show (evalOf s).front ≤ (evalOf s).front + ((evalOf s).dR : Int)
    omega
  cases hb : bindingOf (evalOf s) (targets (evalOf s) none) with
  | none =>
    rw [bindingOf_eq, List.argmin_eq_none] at hb
    rw [hb] at hx
    cases hx
  | some b =>
    have hle := (bindingOf_some hb).2 x hx
    have hv := (permitted_le hd (some b)).2.2 b rfl
    omega

/-! ### Stage 4 in LINE (R87, R98) -/

/-- The records of an evaluation in LINE, with the retained authority end it starts from. -/
structure Evaluated (s : State) (retained : Option Nat) (x : Supervisor) : Prop where
  vPerm : x.vPerm = (permitted (evalOf s) (bindingOf (evalOf s) (targets (evalOf s) retained))).1
  limiting : x.limiting = (permitted (evalOf s) (bindingOf (evalOf s) (targets (evalOf s) retained))).2
  binding : x.binding = (bindingOf (evalOf s) (targets (evalOf s) retained)).map (bindingRecord (evalOf s))
  retained : x.retained = (authority (evalOf s) retained).2
  curve : x.curve = some (along s.sup.dir (evalOf s).curvePoint, (evalOf s).dR)

theorem evaluate_line {s : State} (h : s.sup.mode = .line ∧ s.sup.dir ≠ .neutral) :
    Evaluated s s.sup.retained (evaluate s).sup := by
  unfold evaluate
  rw [if_pos h]
  exact ⟨rfl, rfl, rfl, rfl, rfl⟩

theorem stageFour_line {s : State} (h : s.sup.mode = .line ∧ s.sup.dir ≠ .neutral) :
    Evaluated s (retainedAfter s) (stageFour s).sup := by
  unfold stageFour
  rw [stageRollback_eq, stageStandstill_eq]
  have hline := evaluate_line (s := (s.setSup { s.sup with rollback := rollbackTaken s }).setSup
    { s.sup with rollback := rollbackTaken s, retained := retainedAfter s }) h
  exact ⟨hline.vPerm, hline.limiting, hline.binding, hline.retained, hline.curve⟩

/-- A sample in LINE: an early trip with the permitted speed 0, or the evaluation's records. -/
theorem superviseSample_line {s : State} (h : s.sup.mode = .line ∧ s.sup.dir ≠ .neutral) :
    ((superviseSample s).sup.vPerm = 0 ∧ (superviseSample s).sup.mode = .tripped)
      ∨ Evaluated s (retainedAfter s) (superviseSample s).sup := by
  have hline := stageFour_line h
  rcases superviseSample_cases s with ⟨c, -, -, hsup, -⟩ | ⟨-, c, -, -, hsup, -⟩ | ⟨-, -, hg⟩
  · rw [hsup]; exact .inl ⟨rfl, rfl⟩
  · rw [hsup]; exact .inr ⟨hline.vPerm, hline.limiting, hline.binding, hline.retained, hline.curve⟩
  · rw [hg.sup]; exact .inr ⟨hline.vPerm, hline.limiting, hline.binding, hline.retained, hline.curve⟩

/-! ### The authority end retained (R91) -/

/-- The nearest VALLEY STOP ahead is retained; without one, what was retained stays. -/
theorem authority_retained (s : State) (retained : Option Nat) :
    (∀ x, StopAhead s x → x.issuer = .valley →
      (∀ y, StopAhead s y → y.issuer = .valley → along s.sup.dir x.lo ≤ along s.sup.dir y.lo) →
      (authority (evalOf s) retained).2 = some x.lo)
    ∧ ((∀ x, StopAhead s x → x.issuer ≠ .valley) → (authority (evalOf s) retained).2 = retained) := by
  constructor
  · intro x hx hv hnearest
    unfold authority
    cases h : authorityStop (evalOf s) with
    | none => exact absurd hv ((authorityStop_none s).1 h x hx)
    | some z =>
      obtain ⟨hz, hzv, hle⟩ := authorityStop_some h
      have h1 := hle x hx hv
      have h2 := hnearest z hz hzv
      have heq : z.lo = x.lo := by
        unfold along at h1 h2
        split_ifs at h1 h2 <;> omega
      exact congrArg some heq
  · intro h
    unfold authority
    rw [(authorityStop_none s).2 h]
    cases retained <;> rfl

/-- A STOP is ahead of the least front when it lies at or beyond `p` going up, or at or below `p − L` going down. -/
theorem stopAhead_position (s : State) (z : Restriction) :
    StopAhead s z ↔ Active s z ∧ z.kind = .stop
      ∧ ((s.sup.dir = .up ∧ z.dir = .up ∧ (s.odo.sample.p : Int) ≤ (z.lo : Int))
        ∨ (s.sup.dir = .down ∧ z.dir = .down ∧ (z.lo : Int) ≤ (s.odo.sample.p : Int) - s.params.L)) := by
  have hleast : (evalOf s).least = _ := leastFront_down s.sup.dir s.params.L s.odo.sample.p
  unfold StopAhead OwnDir
  rw [hleast]
  refine and_congr_right' (and_congr_right' ?_)
  cases hd : s.sup.dir with
  | up => simp [along]
  | down => simp [along]; omega
  | neutral => simp

end Sys2Proof.Machine

namespace Sys2Proof.Proofs

set_option Elab.async false

open Machine

/-- Settles O38: the lowest of the three kinds of bound and what set it (`permitted_le`, `permitted_setBy`), and the
retained authority end. An early trip leaves 0. -/
theorem permittedSpeed : Obligations.PermittedSpeed := by
  unfold Obligations.PermittedSpeed
  intro s t ht hm hd p u lo hi covers binds ahead
  obtain rfl : takeSample s = t := Host.Outcome.next.inj ht
  let i := issueSample s
  have hcovers (e : WinEntry) : covers e ↔ ∃ r, Covering i e r :=
    ⟨fun ⟨hw, r, hr, ho⟩ => ⟨r, hw, hr, ho⟩, fun ⟨r, hw, hr, ho⟩ => ⟨hw, r, hr, ho⟩⟩
  have hbinds (x : Restriction) : binds x ↔ SpeedOver i x :=
    ⟨fun ⟨hx, ha, hk, hx', ho⟩ => ⟨⟨hx, ha⟩, hk, hx'.symm, ho⟩, fun ⟨⟨hx, ha⟩, hk, hx', ho⟩ => ⟨hx, ha, hk, hx'.symm, ho⟩⟩
  have hahead (x : Restriction) : ahead x ↔ StopAhead i x ∧ x.issuer = .valley := by
    rw [stopAhead_position]
    exact ⟨fun ⟨hx, ha, hk, hv, hp⟩ => ⟨⟨⟨hx, ha⟩, hk, hp⟩, hv⟩, fun ⟨⟨⟨hx, ha⟩, hk, hp⟩, hv⟩ => ⟨hx, ha, hk, hv, hp⟩⟩
  have hnone : (∀ x, ¬ ahead x) ↔ ∀ x, StopAhead i x → x.issuer ≠ .valley :=
    forall_congr' fun x => by rw [hahead, not_and]
  have hline := superviseSample_line (s := i) ⟨hm, hd⟩
  have hretained : retainedAfter i = if (takeSample s).odo.standstill = true then none else s.sup.retained := by
    rw [takeSample_standstill]; rfl
  rw [takeSample_sup]
  generalize superviseSample (issueSample s) = w at *
  generalize (takeSample s).odo.standstill = still at *
  rcases hline with ⟨hv, htripped⟩ | hline
  · have hnot : w.sup.mode ≠ .line := by rw [htripped]; decide
    rw [hv]
    exact ⟨fun _ _ => Nat.zero_le _, fun _ _ => Nat.zero_le _, fun _ _ => rfl, fun h => absurd h hnot,
      fun h => absurd h hnot⟩
  rw [hretained] at hline
  generalize hretain : (if still = true then none else s.sup.retained) = retained at *
  obtain ⟨hv, hl, hbinding, hret, hcurve⟩ := hline
  obtain ⟨hstay, hsame⟩ := authority_retained i retained
  obtain ⟨hle, hle', hcurveSpeed⟩ := permitted_le (s := i) hd (bindingOf (evalOf i) (targets (evalOf i) retained))
  have hset := permitted_setBy (s := i) hd (bindingOf (evalOf i) (targets (evalOf i) retained))
  have hzero (h : authorityStop (evalOf i) = none) (h' : retained = none) : w.sup.vPerm = 0 := by
    rw [hv, h']; exact permitted_no_authority hd h
  rw [← hv] at hle hle' hcurveSpeed hset
  rw [← hl] at hset
  have below {v : Nat} (h : ∀ e r, Covering i e r → v < e.limit) (e : WinEntry) (he : covers e) : v < e.limit := by
    obtain ⟨r, hr⟩ := (hcovers e).1 he
    exact h e r hr
  refine ⟨fun e he => ?_, fun x hx => hle' x ((hbinds x).1 hx), fun hno hnot => ?_, fun _ y hy => ?_,
    fun _ => ⟨hset.ne_mode, fun n hn => ?_, fun k id hk => ?_, fun ht => ?_, fun x hx hnearest => ?_,
      fun h => hret.trans (hsame (hnone.1 h)), hcurve, hbinding⟩⟩
  · obtain ⟨r, hr⟩ := (hcovers e).1 he
    exact hle e r hr
  · refine hzero ((authorityStop_none i).2 (hnone.1 hno)) ?_
    rw [← hretain]
    rcases hnot with h | h
    · exact if_pos h
    · rw [h, ite_self]
  · rw [hbinding] at hy
    obtain ⟨b, hb, rfl⟩ := Option.map_eq_some_iff.1 hy
    rw [hb] at hset
    refine ⟨hcurveSpeed b hb, ?_⟩
    rcases hset.attained with h | ⟨e, r, he, h⟩ | ⟨x, hx, h⟩
    · exact .inl h
    · exact .inr (.inl ⟨e, (hcovers e).2 ⟨r, he⟩, h⟩)
    · exact .inr (.inr ⟨x, (hbinds x).2 hx, h⟩)
  · rw [hn] at hset
    obtain ⟨e, r, ⟨hw, hr, hlo, hhi⟩, hnum, hlimit⟩ := hset.of_static
    exact ⟨e, r, hw, hr, hlo, hhi, hnum, hlimit⟩
  · rw [hk] at hset
    obtain ⟨⟨x, hx, hissuer, hid, hlimit⟩, hbelow⟩ := hset.of_restriction
    exact ⟨⟨x, (hbinds x).2 hx, hissuer, hid, hlimit⟩, below hbelow⟩
  · rw [ht] at hset
    obtain ⟨hbelow, hbelow'⟩ := hset.of_target
    exact ⟨below hbelow, fun x hx => hbelow' x ((hbinds x).1 hx)⟩
  · obtain ⟨hstop, hvalley⟩ := (hahead x).1 hx
    refine hret.trans (hstay x hstop hvalley fun y hy hyv => ?_)
    have h := hnearest y ((hahead y).2 ⟨hy, hyv⟩)
    show along s.sup.dir x.lo ≤ along s.sup.dir y.lo
    unfold along
    cases hdir : s.sup.dir with
    | neutral => exact absurd hdir hd
    | up => rw [hdir] at h; simpa using h
    | down => rw [hdir] at h; simpa using h

end Sys2Proof.Proofs
end

section
/-! PROOFS. The reads of the supervisor, the brakes, the doors, the radio, the telegrams and the analog channels (O59). -/

namespace Sys2Proof.Machine

set_option Elab.async false

theorem answer_only_of_eq {r : Req} {res : Result} {data data' : List Byte} (h : data = data') (s : State) :
    AnsweredOnly r res data' s (answer r res data s) := h ▸ answer_only r res data s

theorem answer_answered_of_eq {r : Req} {res : Result} {data data' : List Byte} (h : data = data') (s : State) :
    Answered r res data' s.link (answer r res data s) := h ▸ answer_answered r res data s

/-- A leaf's answer by its state (R142). -/
theorem leafBytes_eq (l : Leaf) :
    leafBytes l = u8 (leafStateCode l.state) ++ flag8 l.cls ++ flag8 l.lks ++ flag8 l.ops ++ flag8 l.pb
      ++ flag8 (l.state == .opening || l.state == .reopening) ++ flag8 (l.state == .closing)
      ++ flag8 (l.state == .unlocking || l.state == .unlocked || l.state == .opening || l.state == .opened
        || l.state == .closing || l.state == .reopening)
      ++ timerBytes l.timer ++ u8 l.obstructions ++ u8 l.overCurrent ++ flag8 l.closePending ++ flag8 l.fault.isSome := by
  unfold leafBytes
  rw [leafOutputs_eq]

/-- The answer of READ_DOORS, leaf by leaf and side by side (R142). -/
theorem doorBytes_eq (s : State) :
    doorBytes s = [LeafId.l1, .l2, .l3, .r4, .r5, .r6].flatMap (fun id => leafBytes (getLeaf s.doors.leaves id))
      ++ [s.doors.left, s.doors.right].flatMap releaseBytes ++ flag8 s.doors.closed ++ u8 s.brakes.doors.level
      ++ u8 (emergencyCode s.brakes.doors.emergency) ++ u16 s.doors.causes.toNat := by
  simp only [doorBytes, allLeaves, getLeaf, List.flatMap_cons, List.flatMap_nil, List.append_nil, List.append_assoc]

/-- The mode to be resumed is sent during a single pass only (R187). -/
theorem sweepBytes_eq (a : Analog) :
    sweepBytes a = u8 (if a.single = true then 2 else sweepModeCode a.mode) ++ u8 a.emphasis
      ++ (if a.single = true then u8 (sweepModeCode a.mode) else [0xFF#8]) ++ flag8 a.single ++ u16 a.passes := by
  unfold sweepBytes
  cases a.single <;> rfl

end Sys2Proof.Machine

namespace Sys2Proof.Proofs

set_option Elab.async false

open Machine

/-- Settles O59: each answer's bytes are those of the model's own encoders; a read of a cause set empties it. -/
theorem blockReads : Obligations.BlockReads := by
  unfold Obligations.BlockReads
  refine ⟨fun s => ⟨⟨_, rfl, ?supervision⟩, ⟨_, rfl, ?brakes⟩, ⟨_, rfl, ?doors⟩⟩,
    fun s => ⟨⟨_, rfl, ?radio⟩, fun cell => ⟨_, rfl, ?channel⟩, fun i => ⟨_, rfl, ?filter⟩, ⟨_, rfl, ?telegrams⟩,
      fun k => ⟨_, rfl, ?uplink⟩, fun i => ⟨_, rfl, ?analog⟩⟩⟩
  case supervision =>
    refine answer_only_of_eq ?_ s
    rw [← compareBytes_eq]
    rfl
  case brakes =>
    refine ⟨(setBrakes_frame _ s).andThen (answer_frame _ _ _ _), rfl, answer_answered_of_eq ?_ (s.setBrakes _)⟩
    rw [← compareBytes_eq, ← compareBytes_eq]
    rfl
  case doors =>
    refine ⟨(setDoors_frame _ s).andThen (answer_frame _ _ _ _), rfl, answer_answered_of_eq ?_ (s.setDoors _)⟩
    simp only [doorBytes_eq, leafBytes_eq]
    rfl
  case radio =>
    refine ⟨(setRadio_frame _ s).andThen (answer_frame _ _ _ _), rfl, answer_answered_of_eq ?_ (s.setRadio _)⟩
    rw [← compareBytes_eq, ← compareBytes_eq]
    rfl
  case channel =>
    refine ⟨fun h => ?_, fun h => ?_⟩
    · rw [if_pos h]; exact answer_only _ _ _ s
    · rw [if_neg (by omega)]; exact answer_only _ _ _ s
  case filter =>
    refine ⟨fun h => ?_, fun f h hf => ?_⟩
    · rw [if_pos h]; exact answer_only _ _ _ s
    · rw [if_neg (by omega), List.getD_eq_getElem?_getD, hf]; exact answer_only _ _ _ s
  case telegrams =>
    refine answer_only_of_eq ?_ s
    simp only [List.flatMap_cons, List.flatMap_nil, List.append_nil, List.append_assoc]
    rfl
  case uplink =>
    refine ⟨fun h => ?_, fun h hlen => ?_, fun h hk => ?_, fun x n res st h hk => ?_⟩
    · rw [if_pos h]; exact answer_only _ _ _ s
    · rw [if_neg (by omega), List.getElem?_eq_none hlen]; exact answer_only _ _ _ s
    · rw [if_neg (by omega), hk]; exact answer_only _ _ _ s
    · rw [if_neg (by omega), hk]; exact answer_only _ _ _ s
  case analog =>
    refine ⟨fun h => ?_, fun c h hc => ?_⟩
    · rw [if_pos h]; exact answer_only _ _ _ s
    · rw [if_neg (show ¬ 7 < i by omega), channelAt, List.getD_eq_getElem?_getD, hc]
      refine answer_only_of_eq ?_ s
      simp only [sweepBytes_eq, channelBytes, List.append_assoc]
      rfl

end Sys2Proof.Proofs
end

section
/-! PROOFS. A combination of the demand table record by record, and BRAKE_DEMAND (O41). -/

namespace Sys2Proof.Machine

set_option Elab.async false

/-! ### What a combination writes (R103, R110, R115) -/

/-- Service tracking is told of another effort level alone (R115). -/
theorem combined_deficitTimer (p : Params) (b : Brakes) :
    (combined p b).deficitTimer =
      if effortOf b = b.effort then b.deficitTimer else b.deficitTimer.map (fun _ => p.tTrack) := by
  have hrack (c : Brakes) : (rackTold p c).deficitTimer = c.deficitTimer := by unfold rackTold; split <;> rfl
  unfold combined
  dsimp only
  repeat' split
  · rfl
  · exact hrack _
  · rfl
  · exact congrArg (Option.map fun _ => p.tTrack) (hrack _)

theorem permitHolds_iff (sup : Supervisor) (closed : Bool) (b : Brakes) :
    permitHolds sup closed b = true ↔ (sup.mode = .depot ∨ sup.mode = .line) ∧ (sup.dir = .up ∨ sup.dir = .down)
      ∧ (sup.level = .normal ∨ sup.level = .indication ∨ sup.level = .warning)
      ∧ emergencyOf b = false ∧ b.rack = .released ∧ closed = true := by
  simp [permitHolds, and_assoc, or_assoc]

/-- Both combined values are what the entries written make them (R103). -/
theorem writeDemand_combined (src : BrakeSource) (d : Demand) (s : State) :
    (writeDemand src d s).brakes.emergency = emergencyOf (writeDemand src d s).brakes
      ∧ (writeDemand src d s).brakes.effort = effortOf (writeDemand src d s).brakes := by
  have hd (k : BrakeSource) :
      getDemand (writeDemand src d s).brakes k = getDemand (putDemand src d s.brakes) k :=
    combine_entries (s.setBrakes (putDemand src d s.brakes)) k
  obtain ⟨-, -, hem, heff, -⟩ := writeDemand_spec src d s
  exact ⟨hem.trans (emergencyOf_congr fun k => by rw [hd]).symm, heff.trans (effortOf_congr hd).symm⟩

/-- The rack brake's fault and the last readings stand. -/
structure ReadingsStand (b c : Brakes) : Prop where
  rackFault : c.rackFault = b.rackFault
  ain0 : c.ain0 = b.ain0
  ain1 : c.ain1 = b.ain1

namespace ReadingsStand

theorem combined (p : Params) (b : Brakes) : ReadingsStand b (combined p b) := by
  have hrack (c : Brakes) : (rackTold p c).ain0 = c.ain0 ∧ (rackTold p c).ain1 = c.ain1 := by
    unfold rackTold; split <;> exact ⟨rfl, rfl⟩
  refine ⟨combined_rackFault p b, ?_, ?_⟩ <;> unfold Machine.combined <;> dsimp only <;> repeat' split
  · rfl
  · exact (hrack _).1
  · rfl
  · exact (hrack _).1
  · rfl
  · exact (hrack _).2
  · rfl
  · exact (hrack _).2

theorem writeDemand (src : BrakeSource) (d : Demand) (s : State) :
    ReadingsStand s.brakes (writeDemand src d s).brakes := by
  have hput : ReadingsStand s.brakes (putDemand src d s.brakes) := by cases src <;> exact ⟨rfl, rfl, rfl⟩
  obtain ⟨hfault, hain0, hain1⟩ := combined s.params (putDemand src d s.brakes)
  exact ⟨Eq.trans hfault hput.rackFault, Eq.trans hain0 hput.ain0, Eq.trans hain1 hput.ain1⟩

end ReadingsStand

/-- The rack brake and the deficit timer after the write of an entry: told of a change alone (R110, R115). -/
theorem writeDemand_told (src : BrakeSource) (d : Demand) (s : State) :
    let b := s.brakes
    let c := (writeDemand src d s).brakes
    (c.emergency = b.emergency → c.rack = b.rack ∧ c.rackTimer = b.rackTimer)
    ∧ (b.emergency = false → c.emergency = true → b.rack = .releasing ∨ b.rack = .released →
        c.rack = .applying ∧ c.rackTimer = some s.params.tApp)
    ∧ c.deficitTimer = if c.effort = b.effort then b.deficitTimer else b.deficitTimer.map (fun _ => s.params.tTrack) := by
  intro b c
  let a := putDemand src d b
  have hput : a.emergency = b.emergency ∧ a.effort = b.effort ∧ a.rack = b.rack ∧ a.rackTimer = b.rackTimer
      ∧ a.deficitTimer = b.deficitTimer := by cases src <;> exact ⟨rfl, rfl, rfl, rfl, rfl⟩
  obtain ⟨hem, heff, hrack, htimer, hdeficit⟩ := hput
  obtain ⟨-, -, kem, keff, -⟩ := writeDemand_spec src d s
  obtain ⟨hsame, htold⟩ := combined_rack s.params a
  have ktimer := combined_deficitTimer s.params a
  rw [heff, hdeficit, ← (keff : c.effort = effortOf a)] at ktimer
  rw [← (kem : c.emergency = emergencyOf a), hem] at hsame htold
  refine ⟨fun h => ?_, fun hb hc hr => ?_, ktimer⟩
  · obtain ⟨h1, h2⟩ := hsame h
    exact ⟨Eq.trans h1 hrack, Eq.trans h2 htimer⟩
  · obtain ⟨h1, h2⟩ := htold (by rw [hb, hc]; decide)
    have happly : (rackTold s.params { a with emergency := c.emergency, effort := effortOf a }).rack = .applying
        ∧ (rackTold s.params { a with emergency := c.emergency, effort := effortOf a }).rackTimer
          = some s.params.tApp := by
      unfold rackTold
      rw [← hrack] at hr
      rcases hr with hr | hr <;> simp [hc, hr]
    exact ⟨Eq.trans h1 happly.1, Eq.trans h2 happly.2⟩

end Sys2Proof.Machine

namespace Sys2Proof.Proofs

set_option Elab.async false

open Machine

/-- Settles O41: HOST's entry written (`writeDemand_spec`), and what the combination makes of the other records. -/
theorem brakeDemand : Obligations.BrakeDemand := by
  unfold Obligations.BrakeDemand
  intro level emergency s
  let d := hostDemand level emergency s.brakes.host
  let w := writeDemand .host d s
  obtain ⟨hhost, hothers, -, -, hperm⟩ := writeDemand_spec .host d s
  obtain ⟨hem, heff⟩ := writeDemand_combined .host d s
  obtain ⟨hsame, happly, htimer⟩ := writeDemand_told .host d s
  obtain ⟨hfault, hain0, hain1⟩ := ReadingsStand.writeDemand .host d s
  obtain ⟨hdeficit, hcauses, -⟩ := TrackingStands.writeDemand .host d s
  have hanswer : Answered .brakeDemand .done (u8 (min level 100) ++ u8 (emergencyCode w.brakes.host.emergency)) w.link
      (answer .brakeDemand .done (u8 d.level ++ u8 (emergencyCode d.emergency)) w) := by
    refine answer_answered_of_eq ?_ w
    rw [show w.brakes.host = d from hhost]
    rfl
  refine ⟨_, rfl, (writeDemand_frame .host d s).andThen (answer_frame _ _ _ w), hhost, hothers .supervisor (by decide),
    hothers .odometry (by decide), hothers .doors (by decide), hothers .radio (by decide), hothers .brake (by decide),
    ?_, fun h => ?_, fun h => ?_, hsame, happly, fun h => htimer.trans (if_pos h), fun h => htimer.trans (if_neg h), ?_,
    hfault, hain0, hain1, hdeficit, hcauses, hanswer⟩
  · exact (Bool.eq_iff_iff.1 hem).trans (emergencyOf_iff w.brakes)
  · exact heff.trans (if_pos (hem.symm.trans h))
  · have hnone : emergencyOf w.brakes = false := hem.symm.trans h
    have hmax : w.brakes.effort = highestLevel w.brakes := heff.trans (by rw [effortOf, hnone]; rfl)
    show (∀ src, (getDemand w.brakes src).level ≤ w.brakes.effort)
      ∧ (w.brakes.effort = 0 ∨ ∃ src, (getDemand w.brakes src).level = w.brakes.effort)
    rw [hmax]
    exact ⟨getDemand_le_highest w.brakes, highest_is_held w.brakes⟩
  · refine (Bool.eq_iff_iff.1 hperm).trans ((permitHolds_iff _ _ _).trans ?_)
    rw [← hem]
    exact .rfl

end Sys2Proof.Proofs
end

section
/-! PROOFS. What the owners of channels 0 and 1 do with a conversion: the rack brake, row by row (R110 to R113), and
service tracking (R114). -/

namespace Sys2Proof.Machine

set_option Elab.async false

/-! ### The rack brake's rows (R110) -/

variable {s : State} {w : WinState}

theorem rackConversion_released (h : s.brakes.rack = .releasing) :
    rackConversion .above s = setRack .released none s := by unfold rackConversion; rw [h]

theorem rackConversion_lost (h : s.brakes.rack = .released) :
    rackConversion .below s = enterNotReleased .releaseLost .releaseLost s := by unfold rackConversion; rw [h]

theorem rackConversion_applied (h : s.brakes.rack = .applying) : rackConversion .below s = enterApplied s := by
  unfold rackConversion; rw [h]

theorem rackConversion_notReleased (h : s.brakes.rack = .faultNotReleased) :
    rackConversion .below s = addBrakeCause .brakeRecovered (enterApplied s) := by unfold rackConversion; rw [h]

theorem rackConversion_notApplied (h : s.brakes.rack = .faultNotApplied) :
    rackConversion .below s = addBrakeCause .brakeRecovered
      (enterApplied (writeDemand .brake { s.brakes.brake with level := 0 } s)) := by unfold rackConversion; rw [h]

/-- A window state for which the rack brake's state has no row (R110). -/
theorem rackConversion_none
    (h : s.brakes.rack = .applied ∨ w = .inside ∨ (w = .above ∧ s.brakes.rack ≠ .releasing)
      ∨ (w = .below ∧ s.brakes.rack = .releasing)) : rackConversion w s = s := by
  unfold rackConversion
  split <;> simp_all

/-- APPLIED entered: it stays under an emergency, and otherwise the release begins at once (R110). -/
def EntersApplied (p : Params) (b : Brakes) : Prop :=
  if b.emergency = true then b.rack = .applied ∧ b.rackTimer = none
  else b.rack = .releasing ∧ b.rackTimer = some p.tRel

theorem enterApplied_enters (s : State) : EntersApplied s.params (enterApplied s).brakes := by
  have hem (x : RackState) (timer : Option Nat) : (setRack x timer s).brakes.emergency = s.brakes.emergency := rfl
  unfold enterApplied EntersApplied
  by_cases h : s.brakes.emergency = true
  · rw [if_pos h, if_pos ((hem _ _).trans h)]; exact ⟨rfl, rfl⟩
  · rw [if_neg h, if_neg (by rwa [hem])]; exact ⟨rfl, rfl⟩

/-- Past the rack brake's state, its timer and the permit APPLIED entered leaves the records as they were. -/
theorem enterApplied_rest (s : State) :
    (enterApplied s).brakes.ain0 = s.brakes.ain0 ∧ (enterApplied s).brakes.brake = s.brakes.brake := by
  unfold enterApplied; split <;> exact ⟨rfl, rfl⟩

theorem enterNotReleased_ain0 (f : RackFault) (c : BrakeCause) (s : State) :
    (enterNotReleased f c s).brakes.ain0 = s.brakes.ain0 := by
  let u := s.setBrakes { s.brakes with
    rack := .faultNotReleased, rackTimer := some s.params.tApp, rackFault := some f }
  exact (ReadingsStand.writeDemand .brake { u.brakes.brake with emergency := .latched } u).ain0

theorem rackConversion_ain0 (w : WinState) (s : State) : (rackConversion w s).brakes.ain0 = s.brakes.ain0 := by
  unfold rackConversion
  split
  · rfl
  · exact enterNotReleased_ain0 _ _ s
  · exact (enterApplied_rest s).1
  · exact (enterApplied_rest s).1
  · exact (enterApplied_rest _).1.trans
      (ReadingsStand.writeDemand .brake { s.brakes.brake with level := 0 } s).ain0
  · rfl

/-! ### A valid conversion of channel 0 (R110, R112, R113) -/

theorem takeAin0_ain0 (w : WinState) (s : State) : (takeAin0 w s).brakes.ain0 = w :=
  rackConversion_ain0 w (s.setBrakes { s.brakes with ain0 := w })

theorem takeAin0_released (h : s.brakes.rack = .releasing) :
    (takeAin0 .above s).brakes.rack = .released ∧ (takeAin0 .above s).brakes.rackTimer = none := by
  have e : takeAin0 .above s = setRack .released none (s.setBrakes { s.brakes with ain0 := .above }) :=
    rackConversion_released h
  rw [e]
  exact ⟨rfl, rfl⟩

/-- A release that is lost: FAULT_NOT_RELEASED with its latch (R112). -/
theorem takeAin0_lost (h : s.brakes.rack = .released) :
    let t := takeAin0 .below s
    t.brakes.rack = .faultNotReleased ∧ t.brakes.rackTimer = some s.params.tApp
      ∧ t.brakes.rackFault = some .releaseLost ∧ t.brakes.brake = ⟨s.brakes.brake.level, .latched⟩
      ∧ t.brakes.emergency = true ∧ t.brakes.tperm = false ∧ t.brakes.causes.getLsbD 1 = true := by
  let u := s.setBrakes { s.brakes with ain0 := .below }
  have e : takeAin0 .below s = enterNotReleased .releaseLost .releaseLost u := rackConversion_lost h
  obtain ⟨-, hrack, htimer, hfault, hbrake, -, -, -, -, -, hem, -, hperm, hcauses, -⟩ :=
    rackFault_entered (.inl rfl) (some s.params.tApp) .releaseLost s.brakes.brake.level .releaseLost u
  rw [e]
  refine ⟨hrack, htimer, hfault, hbrake, hem, hperm, ?_⟩
  refine (congrArg (BitVec.getLsbD · 1) hcauses).trans ?_
  simp [brakeCauseBit, brakeCauseIndex]

theorem takeAin0_applied (h : s.brakes.rack ∈ [RackState.applying, .faultNotReleased, .faultNotApplied]) :
    EntersApplied s.params (takeAin0 .below s).brakes := by
  let u := s.setBrakes { s.brakes with ain0 := .below }
  simp only [List.mem_cons, List.not_mem_nil, or_false] at h
  unfold takeAin0
  rcases h with h | h | h
  · rw [rackConversion_applied (s := u) h]; exact enterApplied_enters u
  · rw [rackConversion_notReleased (s := u) h]; exact enterApplied_enters u
  · rw [rackConversion_notApplied (s := u) h]
    exact enterApplied_enters (writeDemand .brake { s.brakes.brake with level := 0 } u)

/-- Applied after all: the rack brake's own demand goes, its latch stays (R113). -/
theorem takeAin0_notApplied (h : s.brakes.rack = .faultNotApplied) :
    (takeAin0 .below s).brakes.brake = { s.brakes.brake with level := 0 } := by
  let u := s.setBrakes { s.brakes with ain0 := .below }
  have e : takeAin0 .below s = _ := rackConversion_notApplied (s := u) h
  rw [e]
  exact (enterApplied_rest _).2.trans (writeDemand_spec .brake { s.brakes.brake with level := 0 } u).1

/-- A fault of the rack brake that ends adds BRAKE_RECOVERED (R112, R113, R117). -/
theorem takeAin0_recovered (h : s.brakes.rack ∈ [RackState.faultNotReleased, .faultNotApplied]) :
    (takeAin0 .below s).brakes.causes.getLsbD 3 = true
      ∧ (takeAin0 .below s).link.flags.getLsbD (flagIndex .brakeFault) = true := by
  let u := s.setBrakes { s.brakes with ain0 := .below }
  have hadded (v : State) : (addBrakeCause .brakeRecovered v).brakes.causes.getLsbD 3 = true
      ∧ (addBrakeCause .brakeRecovered v).link.flags.getLsbD (flagIndex .brakeFault) = true :=
    ⟨by simp [brakeCauseBit, brakeCauseIndex], setFlag_getLsbD .brakeFault _⟩
  simp only [List.mem_cons, List.not_mem_nil, or_false] at h
  unfold takeAin0
  rcases h with h | h
  · rw [rackConversion_notReleased (s := u) h]; exact hadded _
  · rw [rackConversion_notApplied (s := u) h]; exact hadded _

theorem takeAin0_none
    (h : s.brakes.rack = .applied ∨ w = .inside ∨ (w = .above ∧ s.brakes.rack ≠ .releasing)
      ∨ (w = .below ∧ s.brakes.rack = .releasing)) : takeAin0 w s = s.setBrakes { s.brakes with ain0 := w } :=
  rackConversion_none (s := s.setBrakes { s.brakes with ain0 := w }) h

/-! ### A valid conversion of channel 1: service pressure against the floor (R114) -/

variable {x : Nat}

/-- SB_DEFICIT cleared, with its cause (R114, R117). -/
theorem clearDeficit_brakes (s : State) :
    (setDeficit false s).brakes =
      { s.brakes with sbDeficit := false, deficitTimer := none, causes := s.brakes.causes ||| 32#16 } := by
  unfold setDeficit
  rw [sbNotice_false]
  rfl

theorem takeAin1_ain1 (x : Nat) (s : State) : (takeAin1 x s).brakes.ain1 = some x := by
  unfold takeAin1 trackPressure
  repeat' split
  · rfl
  · rfl
  · rfl
  · rw [clearDeficit_brakes]; rfl
  · rfl

theorem takeAin1_starts (hlow : (x : Int) < pressureFloor s) (ht : s.brakes.deficitTimer = none)
    (hd : s.brakes.sbDeficit = false) :
    takeAin1 x s = s.setBrakes { s.brakes with ain1 := some x, deficitTimer := some s.params.tTrack } :=
  (if_pos hlow).trans (if_pos (by simp [ht, hd]))

theorem takeAin1_low (hlow : (x : Int) < pressureFloor s)
    (h : s.brakes.deficitTimer ≠ none ∨ s.brakes.sbDeficit = true) :
    takeAin1 x s = s.setBrakes { s.brakes with ain1 := some x } :=
  (if_pos hlow).trans (if_neg (by simpa [← imp_iff_not_or] using h))

theorem takeAin1_stops (hfull : pressureFloor s ≤ (x : Int)) (ht : s.brakes.deficitTimer ≠ none) :
    takeAin1 x s = s.setBrakes { s.brakes with ain1 := some x, deficitTimer := none } :=
  (if_neg (not_lt.2 hfull)).trans (if_pos (Option.isSome_iff_ne_none.2 ht))

theorem takeAin1_clears (hfull : pressureFloor s ≤ (x : Int)) (ht : s.brakes.deficitTimer = none)
    (hd : s.brakes.sbDeficit = true) :
    (takeAin1 x s).brakes =
        { s.brakes with ain1 := some x, sbDeficit := false, causes := s.brakes.causes ||| 32#16 }
      ∧ (takeAin1 x s).sup = { s.sup with sbView := false } ∧ (takeAin1 x s).link = flagged .brakeFault s.link := by
  have e : takeAin1 x s = setDeficit false (s.setBrakes { s.brakes with ain1 := some x }) :=
    (if_neg (not_lt.2 hfull)).trans ((if_neg (by simp [ht])).trans (if_pos hd))
  rw [e]
  refine ⟨(clearDeficit_brakes _).trans (ht ▸ rfl), ?_⟩
  unfold setDeficit
  rw [sbNotice_false]
  exact ⟨rfl, rfl⟩

theorem takeAin1_full (hfull : pressureFloor s ≤ (x : Int)) (ht : s.brakes.deficitTimer = none)
    (hd : s.brakes.sbDeficit = false) : takeAin1 x s = s.setBrakes { s.brakes with ain1 := some x } :=
  (if_neg (not_lt.2 hfull)).trans ((if_neg (by simp [ht])).trans (if_neg (by simp [hd])))

end Sys2Proof.Machine
end

section
/-! PROOFS. What a leaf makes of a conversion of its motor current (R129, R130). -/

namespace Sys2Proof.Machine

set_option Elab.async false

variable {e : LeafEnv} {w : WinState} {l : Leaf}

/-! ### An obstruction (R130, R131, R133) -/

/-- The leaf that gives way to an obstruction: one more counted, and closed again unless its side is released. -/
def givingWay (released : Bool) (l : Leaf) : Leaf :=
  { l with obstructions := l.obstructions + 1, closePending := !released }

theorem obstructed_reopens (h : l.obstructions < e.obsLimit) (ho : l.ops = false) :
    obstructed e l =
      ({ givingWay e.released l with state := .reopening, timer := some (.tReopen, 1500) }, [.obstruction]) := by
  unfold obstructed enterReopening
  rw [if_pos h, if_neg (by simp [ho])]
  rfl

theorem obstructed_opened (h : l.obstructions < e.obsLimit) (ho : l.ops = true) :
    obstructed e l = (stoodOpen (givingWay e.released l), [.obstruction]) := by
  unfold obstructed enterReopening
  rw [if_pos h, if_pos ho]
  rfl

theorem enterFault_faulted (e : LeafEnv) (c : LeafCause) (l : Leaf) :
    enterFault e c l = (faulted c e.clock l, [.leafFault]) := by
  unfold enterFault faulted
  cases l.fault <;> rfl

theorem obstructed_faulted (h : e.obsLimit ≤ l.obstructions) :
    obstructed e l = (faulted .obstructionLimit e.clock l, [.leafFault]) := by
  unfold obstructed
  rw [if_neg (not_lt.2 h), enterFault_faulted]

theorem obstructed_not_locked (e : LeafEnv) (l : Leaf) : (obstructed e l).1.state ≠ .locked := by
  by_cases h : l.obstructions < e.obsLimit
  · cases ho : l.ops with
    | true => rw [obstructed_opened h ho]; exact LeafState.noConfusion
    | false => rw [obstructed_reopens h ho]; exact LeafState.noConfusion
  · rw [obstructed_faulted (not_lt.1 h)]; exact LeafState.noConfusion

/-! ### The over-current count (R129) -/

theorem leafConversion_other (h : l.state ≠ .closing) : leafConversion e w l = (l, []) := by
  unfold leafConversion
  split
  next hc => exact absurd hc h
  next => rfl

theorem leafConversion_clear (h : l.state = .closing) (hw : w ≠ .above) :
    leafConversion e w l = ({ l with overCurrent := 0 }, []) := by
  unfold leafConversion
  rw [h]
  exact if_neg hw

theorem leafConversion_first (h : l.state = .closing) (hw : w = .above) (hn : l.overCurrent = 0) :
    leafConversion e w l = ({ l with overCurrent := 1 }, []) := by
  unfold leafConversion
  rw [h, hn]
  exact if_pos hw

theorem leafConversion_again (h : l.state = .closing) (hw : w = .above) (hn : 1 ≤ l.overCurrent) :
    leafConversion e w l = obstructed e { l with overCurrent := 0 } := by
  unfold leafConversion
  rw [h]
  exact (if_pos hw).trans (if_neg (by omega))

/-- A conversion brings no leaf to LOCKED, so no release moves it on (R122). -/
theorem movesOn_leafConversion (e : LeafEnv) (w : WinState) (l : Leaf) :
    movesOn e l (leafConversion e w l).1 = false := by
  have stays {x : Leaf} (h : x.state ≠ .locked ∨ l.state = .locked) : movesOn e l x = false := by
    rcases h with h | h <;> simp [movesOn, h]
  by_cases hc : l.state = .closing
  · have hopen : l.state ≠ .locked := by rw [hc]; exact LeafState.noConfusion
    by_cases hw : w = .above
    · rcases Nat.eq_zero_or_pos l.overCurrent with hn | hn
      · rw [leafConversion_first hc hw hn]; exact stays (.inl hopen)
      · rw [leafConversion_again hc hw hn]; exact stays (.inl (obstructed_not_locked e _))
    · rw [leafConversion_clear hc hw]; exact stays (.inl hopen)
  · rw [leafConversion_other hc]; exact stays (em' _)

/-- A leaf takes a valid conversion in one move (R129). -/
theorem moveLeaf_conversion (id : LeafId) (w : WinState) (s : State) :
    let x := leafConversion (leafEnv s (leafSide id)) w (getLeaf s.doors.leaves id)
    LeafMoved id x.1 (causeBits x.2) s (moveLeaf id (fun e => leafConversion e w) s) :=
  (moveLeaf_moved id (fun e => leafConversion e w) s).1 (movesOn_leafConversion _ _ _)

end Sys2Proof.Machine
end

section
/-! PROOFS. The Analog Sweep Unit's own part of a conversion, and CONVERSION_COMPLETE (O58). -/

namespace Sys2Proof.Machine

set_option Elab.async false

/-! ### The results entry (R179, R183, R185) -/

/-- The clamp of the calibrated value, as a minimum and a maximum (R183). -/
theorem calibrate_eq (c : Channel) (raw : Nat) :
    calibrate c raw =
      (max 0 (min 65535
        ((((raw : Int) - c.rawLo) * ((c.engHi : Int) - c.engLo)).tdiv ((c.rawHi : Int) - c.rawLo) + c.engLo))).toNat := by
  unfold calibrate
  dsimp only
  generalize (((raw : Int) - c.rawLo) * ((c.engHi : Int) - c.engLo)).tdiv ((c.rawHi : Int) - c.rawLo) + c.engLo = q
  split
  · omega
  · split <;> omega

/-- The conversion count goes round past 65,535 (R179). -/
theorem count_wraps (n : Nat) : (n + 1) % 65536 = if n % 65536 = 65535 then 0 else n % 65536 + 1 := by
  split <;> omega

/-- The results entry of a conversion, its two counts written out (R179). -/
theorem convert_eq (raw : Nat) (c : Channel) :
    convert raw c = { c with
      raw := raw, calibrated := calibrate c raw, valid := conversionValid c raw, window := classify c (calibrate c raw),
      conversions := if c.conversions % 65536 = 65535 then 0 else c.conversions % 65536 + 1,
      invalid := if conversionValid c raw = true then c.invalid else min (c.invalid + 1) 65535 } := by
  unfold convert
  rw [count_wraps]
  rfl

/-! ### The place in the sweep (R181, R182) -/

theorem heldSeq_eq (a : Analog) :
    heldSeq a = if a.mode = .repeated then .repeated else if a.emphasis = 1 then .emphasis1 else .emphasis0 := by
  unfold heldSeq
  cases a.mode <;> rfl

variable {a : Analog}

theorem advanceSweep_kept (a : Analog) :
    (advanceSweep a).mode = a.mode ∧ (advanceSweep a).emphasis = a.emphasis := by
  unfold advanceSweep
  repeat' split
  all_goals exact ⟨rfl, rfl⟩

theorem advanceSweep_restart (h : a.restart = true) :
    advanceSweep a = { a with seq := if a.single then .single else heldSeq a, pos := 0, restart := false } := if_pos h

theorem advanceSweep_next (h : a.restart = false) (hn : a.pos + 1 < (seqChannels a.seq).length) :
    advanceSweep a = { a with pos := a.pos + 1 } := (if_neg (by simp [h])).trans (if_pos hn)

theorem advanceSweep_end (h : a.restart = false) (hn : a.pos + 1 = (seqChannels a.seq).length) :
    advanceSweep a =
      if a.seq = .single then { a with seq := heldSeq a, pos := 0, single := false, passes := (a.passes + 1) % 65536 }
      else { a with pos := 0 } := (if_neg (by simp [h])).trans (if_neg (by omega))

/-! ### The channel's owner (R186) -/

/-- An owner does not reach the Analog Sweep Unit. -/
theorem announce_frame (i : Nat) (c : Channel) (s : State) :
    OnlyChanges [.brakes, .sup, .doors, .link] s (announce i c s) := by
  unfold announce
  repeat' split
  · exact (takeAin0_frame _ s).mono
  · exact (takeAin1_frame _ s).mono
  · exact (moveLeaf_frame _ _ s).mono
  · exact .refl _ s
  · exact .refl _ s

theorem announce_invalid {i : Nat} {c : Channel} {s : State} (h : c.valid = false) : announce i c s = s :=
  if_neg (by simp [h])

theorem announce_valid_ain0 {c : Channel} {s : State} (h : c.valid = true) : announce 0 c s = takeAin0 c.window s :=
  if_pos h

theorem announce_valid_ain1 {c : Channel} {s : State} (h : c.valid = true) :
    announce 1 c s = takeAin1 c.calibrated s := if_pos h

theorem announce_valid_leaf {i : Nat} {id : LeafId} {c : Channel} {s : State} (h : c.valid = true)
    (hi : leafOfChannel i = some id) : announce i c s = moveLeaf id (fun e => leafConversion e c.window) s := by
  unfold announce
  rw [if_pos h]
  unfold leafOfChannel at hi
  split at hi <;> cases hi <;> rfl

/-- The Analog Sweep Unit after a conversion of a channel, before its owner is told. -/
def converted (raw i : Nat) (c : Channel) (a : Analog) : Analog :=
  { advanceSweep a with channels := a.channels.set i (convert raw c) }

/-- The channel in progress is the one at the sweep position (R181). -/
theorem completeConversion_eq {raw i : Nat} {c : Channel} {s : State}
    (hi : (seqChannels s.analog.seq)[s.analog.pos]? = some i) (hc : s.analog.channels[i]? = some c) :
    completeConversion raw s = announce i (convert raw c) (s.setAnalog (converted raw i c s.analog)) := by
  have hprogress : inProgress s.analog = i := by unfold inProgress; rw [List.getD_eq_getElem?_getD, hi]; rfl
  have hchannel : channelAt s.analog i = c := by unfold channelAt; rw [List.getD_eq_getElem?_getD, hc]; rfl
  unfold completeConversion
  dsimp only
  rw [hprogress, hchannel]
  rfl

end Sys2Proof.Machine

namespace Sys2Proof.Proofs

set_option Elab.async false

open Machine

/-- Settles O58: the sweep's own part by `completeConversion_eq`, then the channel's owner, row by row. -/
theorem conversions : Obligations.Conversions := by
  unfold Obligations.Conversions
  intro raw s
  refine ⟨completeConversion raw s, rfl, ?_⟩
  intro sequence held i c hi hc quotient x valid place
  have hsequence (q : SweepSeq) : sequence q = seqChannels q := by cases q <;> rfl
  rw [hsequence] at hi ⊢
  let m := s.setAnalog (converted raw i c s.analog)
  have e : completeConversion raw s = announce i (convert raw c) m := completeConversion_eq hi hc
  have hentry : convert raw c = { c with
      raw := raw, calibrated := x, valid := valid, window := place,
      conversions := if c.conversions % 65536 = 65535 then 0 else c.conversions % 65536 + 1,
      invalid := if valid = true then c.invalid else min (c.invalid + 1) 65535 } := by
    rw [convert_eq, calibrate_eq]
    rfl
  have hanalog : (completeConversion raw s).analog = converted raw i c s.analog := by
    rw [e]; exact announce_frame i _ m .analog (by decide)
  have hheld : heldSeq s.analog = held := heldSeq_eq s.analog
  have fr : OnlyChanges [.analog] s m := setAnalog_frame _ s
  have hvalid : (convert raw c).valid = valid := rfl
  have hplace : (convert raw c).window = place := by rw [hentry]
  have hcalibrated : (convert raw c).calibrated = x := by rw [hentry]
  obtain ⟨hmode, hemphasis⟩ := advanceSweep_kept s.analog
  refine ⟨?_, ?_, ?_, fun h => ?_, fun h hn => ?_, fun h hn => ?_, fun h => ?_, fun h h0 => ?_, fun h h1 => ?_,
    fun id h hid => ?_⟩
  · rw [hanalog, ← hentry]; rfl
  · rw [hanalog]; exact hmode
  · rw [hanalog]; exact hemphasis
  · rw [hanalog, converted, advanceSweep_restart h, hheld]
    exact ⟨rfl, rfl, rfl⟩
  · rw [hanalog, converted, advanceSweep_next h hn]
    exact ⟨rfl, rfl, rfl, rfl⟩
  · rw [hanalog, converted, advanceSweep_end h hn, hheld]
    refine ⟨by split <;> rfl, fun hs => ?_, fun hs => ?_⟩
    · rw [if_neg hs]; exact ⟨rfl, rfl⟩
    · rw [if_pos hs]; exact ⟨rfl, rfl, rfl⟩
  · rw [e, announce_invalid h]; exact fr
  · subst h0
    have e0 : completeConversion raw s = takeAin0 place m := by rw [e, announce_valid_ain0 h, hplace]
    rw [e0]
    refine ⟨fr.andThen (takeAin0_frame place m), takeAin0_ain0 place m, fun hr hp => ?_, fun hr hp => ?_,
      fun hr hp => ?_, fun hr hp => ?_, fun hr hp => ?_, fun hr => ?_⟩
    · rw [hp]; exact takeAin0_released (s := m) hr
    · rw [hp]; exact takeAin0_lost (s := m) hr
    · rw [hp]; exact takeAin0_applied (s := m) hr
    · rw [hp]; exact takeAin0_notApplied (s := m) hr
    · rw [hp]; exact takeAin0_recovered (s := m) hr
    · rw [takeAin0_none (s := m) hr]; exact ⟨rfl, rfl⟩
  · subst h1
    have e1 : completeConversion raw s = takeAin1 x m := by rw [e, announce_valid_ain1 h, hcalibrated]
    rw [e1]
    refine ⟨fr.andThen (takeAin1_frame x m), takeAin1_ain1 x m, fun hx ht hd => ?_, fun hx ht => ?_, fun hx ht => ?_,
      fun hx ht hd => takeAin1_clears (s := m) hx ht hd, fun hx ht hd => ?_⟩
    · rw [takeAin1_starts (s := m) hx ht hd]; exact ⟨rfl, rfl⟩
    · rw [takeAin1_low (s := m) hx ht]; exact ⟨rfl, rfl⟩
    · rw [takeAin1_stops (s := m) hx ht]; exact ⟨rfl, rfl⟩
    · rw [takeAin1_full (s := m) hx ht hd]; exact ⟨rfl, rfl⟩
  · have hleaf : leafOfChannel i = some id := by rw [hid]; cases id <;> rfl
    have e2 : completeConversion raw s = moveLeaf id (fun e => leafConversion e place) m := by
      rw [e, announce_valid_leaf h hleaf, hplace]
    refine ⟨m, fr, hanalog.symm, ?_⟩
    rw [e2]
    intro l
    have row {y : Leaf × List DoorCause} (hy : leafConversion (leafEnv m (leafSide id)) place l = y) :
        LeafMoved id y.1 (causeBits y.2) m (moveLeaf id (fun e => leafConversion e place) m) :=
      hy ▸ moveLeaf_conversion id place m
    exact ⟨fun hs => row (leafConversion_other hs), fun hs hp => row (leafConversion_clear hs hp),
      fun hs hp hn => row (leafConversion_first hs hp hn),
      fun hs hp hn hlt ho => row ((leafConversion_again hs hp hn).trans (obstructed_reopens hlt ho)),
      fun hs hp hn hlt ho => row ((leafConversion_again hs hp hn).trans (obstructed_opened hlt ho)),
      fun hs hp hn hle => row ((leafConversion_again hs hp hn).trans (obstructed_faulted hle))⟩

end Sys2Proof.Proofs
end

section
/-! PROOFS. The commands that leave the Brake Output Unit and the mode alone, and what keeps a latched demand (R102). -/

namespace Sys2Proof.Machine

set_option Elab.async false

/-! ### The commands that do not reach the brakes -/

/-- The commands that may reach the records of the Brake Output Unit. -/
def reachesBrakes : Instr → Bool
  | .powerOnReset | .reset | .setMode _ | .setDirection _ | .releaseTrip | .brakeDemand _ _ | .readBrakes
  | .releaseSide _ _ | .closeSide _ | .closeAll | .isolateLeaf _ | .restoreLeaf _ | .quadratureCount _ _
  | .markDetection | .clsChange _ _ | .lksChange _ _ | .opsChange _ _ | .pbPressed _ _ | .tLockExpiry _
  | .tOpenExpiry _ | .tCloseExpiry _ | .tReopenExpiry _ | .tPauseExpiry _ | .conversionComplete _ | .positionSample
  | .tRelExpiry | .tAppExpiry | .deficitTimerExpiry | .emergencyStop _ | .stopRelease _ => true
  | _ => false

/-- The supervisor and the brakes are as they were. -/
structure BrakesStand (s t : State) : Prop where
  sup : t.sup = s.sup
  brakes : t.brakes = s.brakes

namespace BrakesStand

variable {s t u : State} {bs : List Block}

theorem refl (s : State) : BrakesStand s s := ⟨rfl, rfl⟩

theorem trans (h : BrakesStand s t) (k : BrakesStand t u) : BrakesStand s u :=
  ⟨k.sup.trans h.sup, k.brakes.trans h.brakes⟩

theorem of_frame (h : OnlyChanges bs s t) (hs : Block.sup ∉ bs := by decide) (hb : Block.brakes ∉ bs := by decide) :
    BrakesStand s t := ⟨h .sup hs, h .brakes hb⟩

theorem answered (h : BrakesStand s t) (r : Req) (res : Result) (data : List Byte) :
    BrakesStand s (answer r res data t) := h.trans (of_frame (answer_frame r res data t))

theorem branch {p : Prop} [Decidable p] (ht : BrakesStand s t) (hu : BrakesStand s u) :
    BrakesStand s (if p then t else u) := by
  split
  · exact ht
  · exact hu

theorem acked {x : Result × State} (h : BrakesStand s x.2) (k : AckKind) (n : Nat) (hd : TgHeader) :
    BrakesStand s (ackResult k n hd x) := h.trans (of_frame (ackResult_frame k n hd x))

theorem received (h : TgHeader) {body : State → State} (hb : ∀ u, BrakesStand u (body u)) (s : State) :
    BrakesStand s (receive h body s) := by
  have counted (f g : Counts → Counts) : BrakesStand s (setCounts g (setCounts f s)) := ⟨rfl, rfl⟩
  unfold receive acceptTelegram
  dsimp only
  repeat' split
  · exact counted _ _
  · exact (((counted _ _).trans (of_frame (linkHeard_frame _))).trans (of_frame (setTele_frame _ _))).trans (hb _)
  · exact counted _ _
  · exact refl s

theorem setParameter (n v : Nat) (s : State) : BrakesStand s (setParameter n v s).2 := by
  rcases setParameter_cases n v s with e | ⟨r, -, -, -, -, e⟩ <;> rw [e]
  · exact refl s
  · exact (of_frame (setParams_frame _ s)).trans (of_frame (paramTold_kept n _))

theorem appendSection (w : SectionWire) (s : State) : BrakesStand s (appendSection w s).2 := by
  rcases appendSection_cases w s with e | ⟨r, -, -, -, e⟩ <;> rw [e]
  · exact refl s
  · exact of_frame (setLine_frame _ s)

theorem sealLine (s : State) : BrakesStand s (sealLine s).2 := by
  rcases sealLine_cases s with e | ⟨-, fr⟩
  · rw [e]; exact refl s
  · exact (of_frame (setLine_frame _ s)).trans (of_frame fr)

theorem readDoorFault (leaf : Nat) (s : State) : ∃ t, execReadDoorFault leaf s = .next t ∧ BrakesStand s t := by
  refine ⟨_, rfl, ?_⟩
  unfold Machine.readDoorFault
  dsimp only
  repeat' split
  · exact (refl s).answered _ _ _
  · exact (refl s).answered _ _ _
  · exact (of_frame (setDoors_frame _ s)).answered _ _ _

theorem ackBlock (n : Nat) (h : TgHeader) (b : BlockWire) (s : State) :
    BrakesStand s (ackBlock n h (stageBlock .valley b s)) :=
  have hs : BrakesStand s (stageBlock .valley b s).2 := of_frame (stageBlock_frame _ b s)
  .branch hs (hs.acked _ _ _)

end BrakesStand

theorem exec_brakesStand (c : Instr) (s : State) (hc : reachesBrakes c ≠ true) :
    ∃ t, exec c s = .next t ∧ BrakesStand s t := by
  obtain ⟨rParam, rSection, rWindow, rLookup, rRestr, rChannel, rFilter, rUplink, rAnalog⟩ := execRead_frame s
  have link {o : Host.Outcome State Fault Refusal} (h : ∃ t, o = .next t ∧ OnlyChanges [.link] s t) :
      ∃ t, o = .next t ∧ BrakesStand s t := h.imp fun _ ht => ⟨ht.1, .of_frame ht.2⟩
  have table {o : Host.Outcome State Fault Refusal} (h : ∃ t, o = .next t ∧ OnlyChanges [.restr, .link] s t) :
      ∃ t, o = .next t ∧ BrakesStand s t := h.imp fun _ ht => ⟨ht.1, .of_frame ht.2⟩
  have read {r : Req} {res : Result} {data : List Byte} : BrakesStand s (answer r res data s) :=
    .of_frame (answer_frame r res data s)
  have request {bs : List Block} {r : Req} {res : Result} {data : List Byte} {t : State} (h : OnlyChanges bs s t)
      (hs : Block.sup ∉ bs := by decide) (hb : Block.brakes ∉ bs := by decide) :
      BrakesStand s (answer r res data t) := (BrakesStand.of_frame h hs hb).answered r res data
  cases c with
  | hostFrameRefused why => exact link (hostFrameRefused_frame why s)
  | nop => exact ⟨_, rfl, .of_frame (respond_frame _ _ _ s)⟩
  | readPage page => exact link (readPage_frame page s)
  | ident | readEvents | readLine | readStage | readRestrictionStatus | readSupervision | readTelegrams =>
    exact ⟨_, rfl, read⟩
  | clearEvents set | setEventMask set => exact ⟨_, rfl, request (setLink_frame _ s)⟩
  | readParameter n => exact link (rParam n)
  | setParameter n v => exact ⟨_, rfl, (BrakesStand.setParameter n v s).answered _ _ _⟩
  | lineLoadBegin => exact ⟨_, rfl, .branch (request (beginLineLoad_frame s)) read⟩
  | appendSection w => exact ⟨_, rfl, (BrakesStand.appendSection w s).answered _ _ _⟩
  | lineLoadEnd => exact ⟨_, rfl, (BrakesStand.sealLine s).answered _ _ _⟩
  | readSection i => exact link (rSection i)
  | readSectionNext => exact link (readSectionNext_frame s)
  | setSectionCursor i => exact link (setSectionCursor_frame i s)
  | readWindow k => exact link (rWindow k)
  | stageSection b => exact ⟨_, rfl, request (stageBlock_frame _ b s)⟩
  | commitStage id crc => exact ⟨_, rfl, request (commitUpdate_frame _ id crc s)⟩
  | abortStage id => exact ⟨_, rfl, request (abortUpdate_frame _ id s)⟩
  | setPosition p u => exact ⟨_, rfl, request (setPosition_frame p u s)⟩
  | readOdometry => exact ⟨_, rfl, request (setOdo_frame _ s)⟩
  | readMarkReport => exact (readMarkReport_frame s).imp fun _ h => ⟨h.1, .of_frame h.2⟩
  | putRestriction w => exact ⟨_, rfl, request (putRestriction_frame _ w s)⟩
  | retireRestriction id => exact ⟨_, rfl, request (withdrawEntry_frame _ _ id s)⟩
  | setTime v => exact table (setTime_frame v s)
  | lookupRestriction i id => exact link (rLookup i id)
  | readRestriction i => exact link (rRestr i)
  | nextRestriction => exact link (nextRestriction_frame s)
  | setRestrictionCursor i => exact link (setRestrictionCursor_frame i s)
  | readRestrictionLog => exact table (readRestrictionLog_frame s)
  | readDoors => exact ⟨_, rfl, request (setDoors_frame _ s)⟩
  | readDoorFault leaf => exact BrakesStand.readDoorFault leaf s
  | setSlot slot route => exact ⟨_, rfl, request (setSlot_frame slot route s)⟩
  | radioReset => exact ⟨_, rfl, request (radioReset_frame s)⟩
  | setChannel cell ch => exact ⟨_, rfl, request (setChannel_frame cell ch s)⟩
  | readRadio => exact ⟨_, rfl, request (setRadio_frame _ s)⟩
  | readChannel i => exact link (rChannel i)
  | setFilter i en k v m => exact ⟨_, rfl, request (setFilter_frame i en k v m s)⟩
  | readFilter i => exact link (rFilter i)
  | readUplink i => exact link (rUplink i)
  | setSweep m e => exact ⟨_, rfl, request (setSweep_frame m e s)⟩
  | setCalibration w => exact ⟨_, rfl, request (setCalibration_frame w s)⟩
  | setWindow ch l h => exact ⟨_, rfl, request (setWindowLimits_frame ch l h s)⟩
  | readAnalog i => exact link (rAnalog i)
  | phaseError sensor =>
    exact ⟨_, rfl, (BrakesStand.of_frame (setOdo_frame _ s)).trans (.of_frame (addOdoCause_frame _ _))⟩
  | lineClockAdvance => exact table (lineClockAdvance_frame s)
  | holdTimerExpiry => exact ⟨_, rfl, .of_frame (holdExpired_frame s)⟩
  | slotStart => exact ⟨_, rfl, .of_frame (startSlot_frame s)⟩
  | initSequenceEnd => exact ⟨_, rfl, .branch (.of_frame (finishInit_frame s)) (.refl s)⟩
  | holdoverTimerExpiry => exact ⟨_, rfl, .of_frame (holdoverExpired_frame s)⟩
  | radioLossTimerExpiry => exact ⟨_, rfl, .branch (.of_frame (linkExpired_frame s)) (.refl s)⟩
  | telegramDiscarded d => exact ⟨_, rfl, .of_frame (discardTelegram_frame d s)⟩
  | beacon f cell src => exact ⟨_, rfl, .of_frame (receiveBeacon_frame f cell src s)⟩
  | time h v => exact ⟨_, rfl, .received h (fun u => .of_frame (setClock_frame v u)) s⟩
  | restrict h w =>
    exact ⟨_, rfl, .received h (fun u => (BrakesStand.of_frame (putRestriction_frame _ w u)).acked _ _ _) s⟩
  | revoke h id =>
    exact ⟨_, rfl, .received h (fun u => (BrakesStand.of_frame (withdrawEntry_frame _ _ id u)).acked _ _ _) s⟩
  | sectionBlock h b => exact ⟨_, rfl, .received h (fun u => .ackBlock _ h b u) s⟩
  | sectionCommit h id crc => exact ⟨_, rfl, .of_frame (sectionCommit_frame h id crc s)⟩
  | sectionAbort h id =>
    exact ⟨_, rfl, .received h (fun u => (BrakesStand.of_frame (abortUpdate_frame _ id u)).acked _ _ _) s⟩
  | slotGrant h slot p ph =>
    exact ⟨_, rfl, .received h (fun u => (BrakesStand.of_frame (takeGrant_frame _ u)).acked _ _ _) s⟩
  | poll h => exact ⟨_, rfl, .received h (fun u => .of_frame (queueReport_frame u)) s⟩
  | _ => exact absurd rfl hc

end Sys2Proof.Machine
end

section
/-! PROOFS. A latched demand of the table stays through every operation but those that clear latches (R102, R106, R107). -/

namespace Sys2Proof.Machine

set_option Elab.async false

/-! ### One source's latch -/

/-- The source's latch is set; SUPERVISOR's goes with TRIPPED (R80). -/
structure Latched (src : BrakeSource) (s : State) : Prop where
  latch : (getDemand s.brakes src).emergency = .latched
  mode : src = .supervisor → s.sup.mode = .tripped

/-- In a state whose SUPERVISOR entry is the mode's own, a latch is enough. -/
theorem latched_of_entry {src : BrakeSource} {s : State} (h : SupervisorEntry s)
    (hl : (getDemand s.brakes src).emergency = .latched) : Latched src s := by
  refine ⟨hl, fun hs => ?_⟩
  subst hs
  by_contra hm
  exact h.not_latched hm hl

/-- A source's latch that is set is set afterwards. -/
def LatchStands (src : BrakeSource) (s t : State) : Prop := Latched src s → Latched src t

namespace LatchStands

variable {src : BrakeSource} {s t u : State} {bs : List Block}

theorem refl (s : State) : LatchStands src s s := id

theorem trans (h : LatchStands src s t) (k : LatchStands src t u) : LatchStands src s u := fun x => k (h x)

/-- The emergency demands and the mode stand. -/
theorem of_entries (hm : t.sup.mode = s.sup.mode)
    (he : ∀ k, (getDemand t.brakes k).emergency = (getDemand s.brakes k).emergency) : LatchStands src s t :=
  fun x => ⟨(he src).trans x.latch, fun h => hm.trans (x.mode h)⟩

theorem of_mode (hm : t.sup.mode = s.sup.mode) (hb : t.brakes = s.brakes) : LatchStands src s t :=
  of_entries hm fun _ => by rw [hb]

theorem of_frame (h : OnlyChanges bs s t) (hs : Block.sup ∉ bs := by decide) (hb : Block.brakes ∉ bs := by decide) :
    LatchStands src s t := of_mode (congrArg _ (h .sup hs)) (h .brakes hb)

theorem answered (h : LatchStands src s t) (r : Req) (res : Result) (data : List Byte) :
    LatchStands src s (answer r res data t) := h.trans (of_frame (answer_frame r res data t))

theorem branch {p : Prop} [Decidable p] (ht : LatchStands src s t) (hu : LatchStands src s u) :
    LatchStands src s (if p then t else u) := by
  split
  · exact ht
  · exact hu

/-! ### The demand table (R104) -/

/-- A source writes its own entry: another's latch stands, and its own when the new demand is latched. -/
theorem writeDemand {k : BrakeSource} {d : Demand} (h : src = k → Latched src s → d.emergency = .latched) :
    LatchStands src s (writeDemand k d s) := by
  intro x
  refine ⟨?_, x.mode⟩
  by_cases hk : src = k
  · rw [← hk, (writeDemand_spec src d s).1]; exact h hk x
  · rw [(writeDemand_spec k d s).2.1 src hk]; exact x.latch

theorem latchDemand (k : BrakeSource) (s : State) : LatchStands src s (latchDemand k s) := writeDemand fun _ _ => rfl

/-- An entry rewritten with the emergency demand it had. -/
theorem rewriteDemand {k : BrakeSource} {d : Demand} (h : d.emergency = (getDemand s.brakes k).emergency) :
    LatchStands src s (Machine.writeDemand k d s) := writeDemand fun hk x => by subst hk; exact h.trans x.latch

/-- In TRIPPED the supervisor rewrites its entry with the latch (R80). -/
theorem writeSupervisor (s : State) : LatchStands src s (writeSupervisor s) := by
  refine writeDemand fun hs x => ?_
  rw [supervisorDemand_emergency, x.mode hs]

theorem of_levelWritten (h : LevelWritten s t) (hm : t.sup.mode = s.sup.mode) : LatchStands src s t := by
  refine of_entries hm fun k => ?_
  by_cases hk : k = .doors
  · subst hk; exact h.emergency
  · rw [h.others k hk]

/-! ### The doors (R140, R141) -/

theorem closedAnew (s : State) : LatchStands src s (closedAnew s) :=
  of_levelWritten (closedAnew_levelWritten s) (congrArg _ (closedAnew_frame s .sup (by decide)))

theorem settleLeaf (id : LeafId) (l : Leaf) (cs : List DoorCause) (s : State) :
    LatchStands src s (settleLeaf id l cs s) :=
  ((of_frame (setDoors_frame _ s)).trans (of_frame (addDoorCauses_frame cs _))).trans (closedAnew _)

theorem moveLeaf (id : LeafId) (f : LeafEnv → Leaf → Leaf × List DoorCause) (s : State) :
    LatchStands src s (moveLeaf id f s) := by
  unfold Machine.moveLeaf
  dsimp only
  exact .branch ((settleLeaf _ _ _ s).trans (settleLeaf _ _ _ _)) (settleLeaf _ _ _ s)

theorem moveSide (side : Side) (f : LeafEnv → Leaf → Leaf) (s : State) : LatchStands src s (moveSide side f s) :=
  (of_frame (setDoors_frame _ s)).trans (closedAnew _)

theorem releaseSide (code : Nat) (auto : Bool) (s : State) : LatchStands src s (releaseSide code auto s).2 := by
  unfold Machine.releaseSide
  repeat' split
  · exact refl s
  · exact (of_frame (setDoors_frame _ s)).trans (moveSide _ _ _)
  · exact refl s

theorem closeSide (side : Side) (s : State) : LatchStands src s (closeSide side s) := by
  unfold Machine.closeSide
  dsimp only
  split
  · exact (of_frame (setDoors_frame _ s)).trans (moveSide _ _ _)
  · exact moveSide _ _ s

theorem isolateLeaf (id : LeafId) (s : State) : LatchStands src s (isolateLeaf id s).2 := by
  unfold Machine.isolateLeaf
  dsimp only
  repeat' split
  · exact refl s
  · exact refl s
  · exact moveLeaf id (fun _ l => (enterIsolated l, [])) s

theorem restoreLeaf (id : LeafId) (s : State) : LatchStands src s (restoreLeaf id s).2 := by
  unfold Machine.restoreLeaf
  dsimp only
  split
  · exact refl s
  · exact moveLeaf id (fun _ l => (enterLocked l, [])) s

theorem retestReleases (s : State) : LatchStands src s (retestReleases s) :=
  of_levelWritten (retestReleases_levelWritten s) (congrArg _ (retestReleases_frame s .sup (by decide)))

theorem judgeInterlock (s : State) : LatchStands src s (judgeInterlock s) := by
  have h : LatchStands src s (writeDoorsLevel s) := rewriteDemand rfl
  unfold Machine.judgeInterlock
  dsimp only
  repeat' split
  · exact h
  · exact (h.trans (latchDemand .doors _)).trans (of_entries rfl fun k => by cases k <;> rfl)
  · exact h

/-! ### The rack brake and service tracking (R110 to R115) -/

/-- Records of the brakes other than the entries. -/
theorem setBrakes {b : Brakes} (h : ∀ k, getDemand b k = getDemand s.brakes k) : LatchStands src s (s.setBrakes b) :=
  of_entries rfl fun k => congrArg Demand.emergency (h k)

theorem addBrakeCause (c : BrakeCause) (s : State) : LatchStands src s (addBrakeCause c s) :=
  of_entries rfl fun k => by cases k <;> rfl

theorem setRack (x : RackState) (timer : Option Nat) (s : State) : LatchStands src s (setRack x timer s) :=
  of_entries rfl fun k => by cases k <;> rfl

theorem enterApplied (s : State) : LatchStands src s (enterApplied s) := .branch (setRack _ _ s) (setRack _ _ s)

theorem enterNotReleased (f : RackFault) (c : BrakeCause) (s : State) :
    LatchStands src s (enterNotReleased f c s) :=
  ((setBrakes fun k => by cases k <;> rfl).trans (latchDemand .brake _)).trans (addBrakeCause c _)

theorem enterNotApplied (s : State) : LatchStands src s (enterNotApplied s) :=
  ((setBrakes fun k => by cases k <;> rfl).trans (writeDemand fun _ _ => rfl)).trans (addBrakeCause _ _)

theorem rackConversion (w : WinState) (s : State) : LatchStands src s (rackConversion w s) := by
  have lowered : LatchStands src s (Machine.writeDemand .brake { s.brakes.brake with level := 0 } s) := rewriteDemand rfl
  unfold Machine.rackConversion
  split
  · exact setRack _ _ s
  · exact enterNotReleased _ _ s
  · exact enterApplied s
  · exact (enterApplied s).trans (addBrakeCause _ _)
  · exact (lowered.trans (enterApplied _)).trans (addBrakeCause _ _)
  · exact refl s

theorem takeAin0 (w : WinState) (s : State) : LatchStands src s (takeAin0 w s) :=
  (setBrakes fun k => by cases k <;> rfl).trans (rackConversion w _)

/-- The fields of service tracking. -/
theorem tracking (ain1 timer : Option Nat) (deficit : Bool) (s : State) :
    LatchStands src s (s.setBrakes { s.brakes with ain1 := ain1, deficitTimer := timer, sbDeficit := deficit }) :=
  setBrakes fun k => by cases k <;> rfl

theorem clearDeficit (s : State) : LatchStands src s (setDeficit false s) := by
  unfold setDeficit
  rw [sbNotice_false]
  exact of_entries rfl fun k => by cases k <;> rfl

theorem takeAin1 (x : Nat) (s : State) : LatchStands src s (takeAin1 x s) := by
  refine trans (tracking (some x) s.brakes.deficitTimer s.brakes.sbDeficit s) ?_
  unfold Machine.takeAin1 trackPressure
  repeat' split
  · exact tracking _ (some _) _ _
  · exact refl _
  · exact tracking _ none _ _
  · exact clearDeficit _
  · exact refl _

theorem completeConversion (raw : Nat) (s : State) : LatchStands src s (completeConversion raw s) := by
  have h (a : Analog) : LatchStands src s (s.setAnalog a) := of_frame (setAnalog_frame a s)
  unfold Machine.completeConversion announce
  dsimp only
  repeat' split
  · exact (h _).trans (takeAin0 _ _)
  · exact (h _).trans (takeAin1 _ _)
  · exact (h _).trans (moveLeaf _ _ _)
  · exact h _
  · exact h _

/-! ### The odometry (R38, R47, R48) -/

theorem enterOdoFault (f : OdoFault) (s : State) : LatchStands src s (enterOdoFault f s) := by
  unfold Machine.enterOdoFault
  split
  · exact (((of_frame (setOdo_frame _ s)).trans (of_frame (addOdoCause_frame _ _))).trans
      (latchDemand .odometry _)).trans (of_frame (judgePart_frame _ _))
  · exact refl s

theorem takeCompares (held : Option Sense) (s : State) : LatchStands src s (takeCompares held s) := by
  unfold Machine.takeCompares crossUp crossDown
  split
  · exact refl s
  · exact (of_frame (setOdo_frame _ s)).trans (of_frame (issueCrossing_frame _))
  · exact (of_frame (setOdo_frame _ s)).trans (of_frame (issueCrossing_frame _))
  · exact enterOdoFault _ s

theorem activeCount (sensor : Sensor) (x : Sense) (s : State) : LatchStands src s (activeCount sensor x s) := by
  unfold Machine.activeCount
  dsimp only
  split
  · exact of_frame (setOdo_frame _ s)
  · exact ((of_frame (setOdo_frame _ s)).trans (of_frame (degradeAtBound_frame _))).trans (takeCompares _ _)

theorem crossCheck (s : State) : LatchStands src s (crossCheck s) := by
  unfold Machine.crossCheck
  dsimp only
  repeat' split
  · exact (of_frame (setOdo_frame _ s)).trans (enterOdoFault _ _)
  · exact of_frame (setOdo_frame _ s)
  · exact refl s

theorem takeCount (sensor : Sensor) (x : Sense) (s : State) : LatchStands src s (takeCount sensor x s) := by
  have h (o : Odometry) : LatchStands src s (feedCheck sensor x (s.setOdo o)) :=
    (of_frame (setOdo_frame o s)).trans (of_frame (feedCheck_frame sensor x _))
  unfold Machine.takeCount
  dsimp only
  refine .branch (trans ?_ (crossCheck _)) ?_ <;> exact .branch ((h _).trans (activeCount _ _ _)) (h _)

theorem detectMark (s : State) : LatchStands src s (detectMark s) := by
  have h (o : Odometry) : LatchStands src s (s.setOdo o) := of_frame (setOdo_frame o s)
  have applied (m : Nat) (u : State) : LatchStands src u (applyMark m u) :=
    ((of_frame (correctPosition_frame m u)).trans (takeCompares _ _)).trans (of_frame (handleCal_frame m _))
  unfold Machine.detectMark
  dsimp only
  split
  · exact refl s
  split
  · exact ((h _).trans (of_frame (addOdoCause_frame _ _))).trans (of_frame (offerReport_frame _ _))
  · exact trans (.branch ((h _).trans (applied _ _)) (h _)) (of_frame (offerReport_frame _ _))

/-! ### The mode (R77 to R82) -/

/-- A change of mode keeps the latches of the other sources. -/
theorem changeMode {m : Mode} (h : src ≠ .supervisor) (s : State) : LatchStands src s (changeMode m s) := by
  obtain ⟨hothers, hdoors, -, -⟩ := changeMode_entriesKept m s
  refine fun x => ⟨?_, fun hs => absurd hs h⟩
  by_cases hd : src = .doors
  · subst hd; exact hdoors.trans x.latch
  · rw [hothers src h hd]; exact x.latch

theorem trip (c : TripCause) (s : State) : LatchStands src s (trip c s) := by
  by_cases h : src = .supervisor
  · subst h
    have ht := trip_tripped c s
    exact fun _ => ⟨congrArg Demand.emergency ht.entry, fun _ => ht.mode⟩
  · rw [trip_eq]
    exact trans (t := tripRecorded c s) (fun x => ⟨x.latch, fun hs => absurd hs h⟩) (changeMode h _)

theorem tripIf (b : Bool) (c : TripCause) (s : State) : LatchStands src s (tripIf b c s) := .branch (trip c s) (refl s)

/-- The supervisor's records with the mode as it was. -/
theorem setSup {x : Supervisor} (h : x.mode = s.sup.mode) : LatchStands src s (s.setSup x) := of_mode h rfl

theorem stageTrip (s : State) : LatchStands src s (stageTrip s) := by
  rw [stageTrip_eq]
  rcases tripFor_cases (stageCause s) s with ⟨e, -⟩ | ⟨c, -, -, e⟩ <;> rw [e]
  · exact refl s
  · exact trip c s

theorem stageLevel (s : State) : LatchStands src s (stageLevel s) := by
  by_cases h : levelOf s = s.sup.level
  · rw [stageLevel_same h]; exact refl s
  · rw [stageLevel_changed h]; exact of_mode rfl rfl

theorem stageAct (s : State) : LatchStands src s (stageAct s) := by
  have h : LatchStands src s (stageIntervene (Machine.stageLevel s)) :=
    ((stageLevel s).trans (tripIf _ _ _)).trans (tripIf _ _ _)
  unfold Machine.stageAct
  dsimp only
  exact .branch h (h.trans (writeSupervisor _))

theorem superviseSample (s : State) : LatchStands src s (superviseSample s) := by
  have rolled : LatchStands src s (stageRollback s) := .branch (refl s) (setSup rfl)
  have still (u : State) : LatchStands src u (stageStandstill u) := .branch (setSup rfl) (refl u)
  have evaluated (u : State) : LatchStands src u (evaluate u) := .branch (setSup rfl) (setSup rfl)
  exact (((rolled.trans (stageTrip _)).trans (still _)).trans (evaluated _)).trans (stageAct _)

theorem takeSample (s : State) : LatchStands src s (takeSample s) :=
  (((of_frame (issueSample_frame s)).trans (superviseSample _)).trans (of_frame (retirePassed_frame _))).trans
    ((retestReleases _).trans (judgeInterlock _))

theorem deficitExpired (s : State) : LatchStands src s (deficitExpired s) := by
  by_cases h : s.brakes.deficitTimer = none
  · rw [deficitExpired_stopped h]; exact refl s
  · have noticed : LatchStands src s (deficitNoticed s) := of_entries rfl fun k => by cases k <;> rfl
    rw [deficitExpired_running h]
    exact .branch (noticed.trans (trip _ _)) noticed

/-- SET_MODE leaves no TRIPPED (R77). -/
theorem setMode (code : Nat) (s : State) : LatchStands src s (setMode code s).2 := by
  unfold Machine.setMode
  repeat' split
  · exact refl s
  · exact refl s
  · exact refl s
  · exact refl s
  next m _ _ hallowed _ =>
    by_cases hs : src = .supervisor
    · intro x
      refine absurd ?_ hallowed
      unfold modeAllowed
      rw [x.mode hs]
      rfl
    · exact changeMode hs s

theorem setDirection (code : Nat) (s : State) : LatchStands src s (setDirection code s).2 := by
  unfold Machine.setDirection
  repeat' split
  · exact refl s
  · exact refl s
  · exact refl s
  · exact refl s
  · exact of_levelWritten (selectDir_levelWritten _ s) (by rw [selectDir_sup])

/-! ### The valley's demand (R106) -/

theorem receive (h : TgHeader) {body : State → State} (hb : ∀ u, LatchStands src u (body u)) (s : State) :
    LatchStands src s (receive h body s) := by
  have counted (f g : Counts → Counts) : LatchStands src s (setCounts g (setCounts f s)) := of_mode rfl rfl
  unfold Machine.receive acceptTelegram
  dsimp only
  repeat' split
  · exact counted _ _
  · exact (((counted _ _).trans (of_frame (linkHeard_frame _))).trans (of_frame (setTele_frame _ _))).trans (hb _)
  · exact counted _ _
  · exact refl s

theorem radioStop (s : State) : LatchStands src s (radioStop s).2 := by
  unfold Machine.radioStop
  split
  · exact refl s
  · exact latchDemand .radio s

theorem radioRelease (h : src ≠ .radio) (s : State) : LatchStands src s (radioRelease s).2 := by
  unfold Machine.radioRelease
  split
  · exact writeDemand fun hs => absurd hs h
  · exact refl s

theorem acked {x : Result × State} (h : LatchStands src s x.2) (k : AckKind) (n : Nat) (hd : TgHeader) :
    LatchStands src s (ackResult k n hd x) := h.trans (of_frame (ackResult_frame k n hd x))

end LatchStands

/-! ### Every command but those that clear latches -/

theorem exec_latchStands {src : BrakeSource} (c : Instr) (s : State) (h1 : c ≠ .powerOnReset) (h2 : c ≠ .reset)
    (h3 : c ≠ .releaseTrip) (h4 : src = .radio → ∀ h, c ≠ .stopRelease h) :
    ∃ t, exec c s = .next t ∧ LatchStands src s t := by
  by_cases hc : reachesBrakes c = true
  case neg =>
    obtain ⟨t, ht, k⟩ := exec_brakesStand c s hc
    exact ⟨t, ht, .of_mode (congrArg _ k.sup) k.brakes⟩
  have refused {r : Req} {res : Result} {data : List Byte} : LatchStands src s (answer r res data s) :=
    (LatchStands.refl s).answered r res data
  cases c with
  | powerOnReset => exact absurd rfl h1
  | reset => exact absurd rfl h2
  | releaseTrip => exact absurd rfl h3
  | setMode code => exact ⟨_, rfl, (LatchStands.setMode code s).answered _ _ _⟩
  | setDirection code => exact ⟨_, rfl, (LatchStands.setDirection code s).answered _ _ _⟩
  | brakeDemand level emergency =>
    refine ⟨_, rfl, (LatchStands.writeDemand fun hs x => ?_).answered _ _ _⟩
    subst hs
    cases emergency with
    | true => rfl
    | false => exact x.latch
  | readBrakes => exact ⟨_, rfl, (LatchStands.setBrakes fun k => by cases k <;> rfl).answered _ _ _⟩
  | releaseSide side auto => exact ⟨_, rfl, (LatchStands.releaseSide side auto s).answered _ _ _⟩
  | closeSide side =>
    refine ⟨_, rfl, ?_⟩
    split
    · exact refused
    · exact (LatchStands.closeSide _ s).answered _ _ _
  | closeAll =>
    exact ⟨_, rfl, ((LatchStands.closeSide .left s).trans (.closeSide .right _)).answered _ _ _⟩
  | isolateLeaf leaf =>
    refine ⟨_, rfl, ?_⟩
    split
    · exact refused
    · exact (LatchStands.isolateLeaf _ s).answered _ _ _
  | restoreLeaf leaf =>
    refine ⟨_, rfl, ?_⟩
    split
    · exact refused
    · exact (LatchStands.restoreLeaf _ s).answered _ _ _
  | quadratureCount sensor x => exact ⟨_, rfl, .takeCount sensor x s⟩
  | markDetection => exact ⟨_, rfl, .detectMark s⟩
  | clsChange leaf on | lksChange leaf on | opsChange leaf on | pbPressed leaf on =>
    exact ⟨_, rfl, .branch (.refl s) (.moveLeaf _ _ s)⟩
  | tLockExpiry leaf | tOpenExpiry leaf | tCloseExpiry leaf | tReopenExpiry leaf | tPauseExpiry leaf =>
    exact ⟨_, rfl, .moveLeaf _ _ s⟩
  | conversionComplete raw => exact ⟨_, rfl, .completeConversion raw s⟩
  | positionSample => exact ⟨_, rfl, .takeSample s⟩
  | tRelExpiry => exact ⟨_, rfl, .branch (.enterNotReleased _ _ s) (.refl s)⟩
  | tAppExpiry => exact ⟨_, rfl, .branch (.enterNotApplied s) (.refl s)⟩
  | deficitTimerExpiry => exact ⟨_, rfl, .deficitExpired s⟩
  | emergencyStop h => exact ⟨_, rfl, .receive h (fun u => (LatchStands.radioStop u).acked _ _ _) s⟩
  | stopRelease h =>
    have hs : src ≠ .radio := fun hs => h4 hs h rfl
    exact ⟨_, rfl, .receive h (fun u => (LatchStands.radioRelease hs u).acked _ _ _) s⟩
  | _ => cases hc

end Sys2Proof.Machine

namespace Sys2Proof.Proofs

set_option Elab.async false

open Machine

/-- Settles O45: four commands clear latches (`exec_latchStands`); a reset and RELEASE_TRIP while moving are refused, and
RELEASE_TRIP keeps the RADIO entry. -/
theorem latchesHeld : Obligations.LatchesHeld := by
  unfold Obligations.LatchesHeld
  intro c s t src ht hentry hl hn
  have answered {r : Req} {res : Result} {data : List Byte} : answer r res data s ≠ t := fun e => by
    subst e; exact hn hl
  by_cases h1 : c = .powerOnReset
  · exact .inl h1
  by_cases h2 : c = .reset
  · subst h2
    refine .inr (.inl ⟨rfl, by_contra fun hstill => ?_⟩)
    exact answered ((if_neg hstill).symm.trans (Host.Outcome.next.inj ht))
  by_cases h3 : c = .releaseTrip
  · subst h3
    have e := Host.Outcome.next.inj ht
    by_cases hstill : s.odo.standstill = true
    · refine .inr (.inr (.inr ⟨fun hs => ?_, rfl, hstill⟩))
      have hradio : t.brakes.radio = s.brakes.radio := by
        rw [← e, if_pos (show atStandstill s = true from hstill)]; exact (releaseTrip_latches s).1
      subst hs
      exact hn ((congrArg Demand.emergency hradio).trans hl)
    · exact absurd ((if_neg hstill).symm.trans e) answered
  by_cases h4 : src = .radio ∧ ∃ h, c = .stopRelease h
  · exact .inr (.inr (.inl h4))
  obtain ⟨u, hu, hk⟩ := exec_latchStands (src := src) c s h1 h2 h3 fun hs h hc => h4 ⟨hs, h, hc⟩
  cases hu.symm.trans ht
  exact absurd (hk (latched_of_entry hentry hl)).latch hn

end Sys2Proof.Proofs
end

section
/-! PROOFS. The transitions of a leaf row by row (R121 to R139), and what one leaf's event makes of the state. -/

namespace Sys2Proof.Machine

set_option Elab.async false

variable {e : LeafEnv} {l : Leaf}

/-! ### The states entered (R121, R122) -/

theorem enterOpening_shut (h : l.ops = false) :
    enterOpening e l = { l with state := .opening, timer := some (.tOpen, e.tOpen) } := if_neg (by simp [h])

theorem enterOpening_open (h : l.ops = true) : enterOpening e l = stoodOpen l := if_pos h

theorem boltRetracted_manual (h : e.autoOpen = false) :
    boltRetracted e l = { l with state := .unlocked, timer := none } := if_neg (by simp [h])

theorem boltRetracted_auto (h : e.autoOpen = true) : boltRetracted e l = enterOpening e l := if_pos h

theorem enterUnlocking_bolted (h : l.lks = true) : enterUnlocking e l = unboltedFrom l := if_pos h

theorem enterUnlocking_unbolted (h : l.lks = false) : enterUnlocking e l = boltRetracted e l := if_neg (by simp [h])

theorem enterLocking_unbolted (h : l.lks = false) :
    enterLocking l = { l with state := .locking, timer := some (.tLock, 500) } := if_neg (by simp [h])

theorem enterLocking_bolted (h : l.lks = true) : enterLocking l = lockedAway l := if_pos h

theorem enterClosing_open (h : l.cls = false) :
    enterClosing e l =
      { l with state := .closing, timer := some (.tClose, e.tClose), overCurrent := 0, closePending := false } :=
  if_neg (by simp [h])

theorem enterClosing_shut (h : l.cls = true) :
    enterClosing e l = enterLocking { l with overCurrent := 0, closePending := false } := if_pos h

/-! ### The switches and the push button (R123 to R132, R139) -/

theorem leafCls_disagrees (hs : l.state ∈ [LeafState.locked, .locking, .isolated]) :
    leafCls e { l with cls := false } = (faulted .switchDisagree e.clock { l with cls := false }, [.leafFault]) := by
  rw [← enterFault_faulted]
  unfold leafCls
  dsimp only
  simp only [List.mem_cons, List.not_mem_nil, or_false] at hs
  rcases hs with hs | hs | hs <;> rw [hs] <;> rfl

theorem leafCls_off (hs : l.state ∉ [LeafState.locked, .locking, .isolated]) :
    leafCls e { l with cls := false } = ({ l with cls := false }, []) := by
  unfold leafCls
  dsimp only
  split
  next h => cases h
  split
  case h_4 => rfl
  all_goals next h => exact absurd (by simp [h]) hs

theorem leafCls_shuts (hs : l.state = .closing) :
    leafCls e { l with cls := true } = (enterLocking { l with cls := true }, []) := by
  unfold leafCls
  dsimp only
  rw [hs]
  rfl

theorem leafCls_unbolted (hs : l.state = .closing) (hk : l.lks = false) :
    leafCls e { l with cls := true } =
      ({ l with cls := true, state := .locking, timer := some (.tLock, 500) }, []) := by
  rw [leafCls_shuts hs, enterLocking_unbolted (by exact hk)]

theorem leafCls_bolted (hs : l.state = .closing) (hk : l.lks = true) :
    leafCls e { l with cls := true } = (lockedAway { l with cls := true }, []) := by
  rw [leafCls_shuts hs, enterLocking_bolted (by exact hk)]

theorem leafCls_on (hs : l.state ≠ .closing) : leafCls e { l with cls := true } = ({ l with cls := true }, []) := by
  unfold leafCls
  dsimp only
  rw [if_pos rfl]
  split
  next h => exact absurd h hs
  next => rfl

theorem leafLks_disagrees (hs : l.state ∈ [LeafState.locked, .isolated]) :
    leafLks e { l with lks := false } = (faulted .switchDisagree e.clock { l with lks := false }, [.leafFault]) := by
  rw [← enterFault_faulted]
  unfold leafLks
  dsimp only
  simp only [List.mem_cons, List.not_mem_nil, or_false] at hs
  rcases hs with hs | hs <;> rw [hs] <;> rfl

theorem leafLks_retracts (hs : l.state = .unlocking) :
    leafLks e { l with lks := false } = (boltRetracted e { l with lks := false }, []) := by
  unfold leafLks
  dsimp only
  rw [hs]
  rfl

theorem leafLks_manual (hs : l.state = .unlocking) (ha : e.autoOpen = false) :
    leafLks e { l with lks := false } = ({ l with lks := false, state := .unlocked, timer := none }, []) := by
  rw [leafLks_retracts hs, boltRetracted_manual ha]

theorem leafLks_shut (hs : l.state = .unlocking) (ha : e.autoOpen = true) (ho : l.ops = false) :
    leafLks e { l with lks := false } =
      ({ l with lks := false, state := .opening, timer := some (.tOpen, e.tOpen) }, []) := by
  rw [leafLks_retracts hs, boltRetracted_auto ha, enterOpening_shut (by exact ho)]

theorem leafLks_open (hs : l.state = .unlocking) (ha : e.autoOpen = true) (ho : l.ops = true) :
    leafLks e { l with lks := false } = (stoodOpen { l with lks := false }, []) := by
  rw [leafLks_retracts hs, boltRetracted_auto ha, enterOpening_open (by exact ho)]

theorem leafLks_off (hs : l.state ∉ [LeafState.locked, .isolated, .unlocking]) :
    leafLks e { l with lks := false } = ({ l with lks := false }, []) := by
  unfold leafLks
  dsimp only
  split
  next h => cases h
  split
  case h_4 => rfl
  all_goals next h => exact absurd (by simp [h]) hs

theorem leafLks_locks (hs : l.state = .locking) :
    leafLks e { l with lks := true } = (lockedAway { l with lks := true }, []) := by
  unfold leafLks
  dsimp only
  rw [hs]
  rfl

theorem leafLks_on (hs : l.state ≠ .locking) : leafLks e { l with lks := true } = ({ l with lks := true }, []) := by
  unfold leafLks
  dsimp only
  rw [if_pos rfl]
  split
  next h => exact absurd h hs
  next => rfl

theorem leafOps_opens (hs : l.state = .opening ∨ l.state = .reopening) :
    leafOps { l with ops := true } = stoodOpen { l with ops := true } := by
  unfold leafOps
  dsimp only
  rcases hs with hs | hs <;> rw [hs] <;> rfl

theorem leafOps_other {on : Bool} (h : ¬ (on = true ∧ (l.state = .opening ∨ l.state = .reopening))) :
    leafOps { l with ops := on } = { l with ops := on } := by
  unfold leafOps
  split
  next ho =>
    split
    next hs => exact absurd ⟨ho, .inl hs⟩ h
    next hs => exact absurd ⟨ho, .inr hs⟩ h
    next => rfl
  next => rfl

theorem leafPb_opens (hs : l.state = .unlocked) :
    leafPb e { l with pb := true } = enterOpening e { l with pb := true } := by
  unfold leafPb
  dsimp only
  rw [hs]
  rfl

theorem leafPb_shut (hs : l.state = .unlocked) (ho : l.ops = false) :
    leafPb e { l with pb := true } = { l with pb := true, state := .opening, timer := some (.tOpen, e.tOpen) } := by
  rw [leafPb_opens hs, enterOpening_shut (by exact ho)]

theorem leafPb_open (hs : l.state = .unlocked) (ho : l.ops = true) :
    leafPb e { l with pb := true } = stoodOpen { l with pb := true } := by
  rw [leafPb_opens hs, enterOpening_open (by exact ho)]

theorem leafPb_other {on : Bool} (h : ¬ (on = true ∧ l.state = .unlocked)) :
    leafPb e { l with pb := on } = { l with pb := on } := by
  unfold leafPb
  split
  next hp =>
    split
    next hs => exact absurd ⟨hp, hs⟩ h
    next => rfl
  next => rfl

/-! ### The motion timer (R124 to R132) -/

/-- The states whose transition a time brings when it expires (R121). -/
def timeStates : LeafTime → List LeafState
  | .tLock => [.unlocking, .locking]
  | .tOpen => [.opening]
  | .tClose => [.closing]
  | .tReopen => [.reopening]
  | .tPause => [.opened]

theorem runsAs_iff (t : LeafTime) (l : Leaf) : runsAs t l = true ↔ ∃ n, l.timer = some (t, n) := by
  unfold runsAs
  cases l.timer <;> simp [Prod.ext_iff]

/-- A time that does not run, or that the state gives no row, expires without effect (log 13). -/
theorem leafExpiry_idle {t : LeafTime} (h : (∀ n, l.timer ≠ some (t, n)) ∨ l.state ∉ timeStates t) :
    leafExpiry e t l = (l, []) := by
  unfold leafExpiry
  split
  next hr =>
    have hs : l.state ∉ timeStates t := h.resolve_left fun hn => ((runsAs_iff t l).1 hr).elim hn
    split
    case h_7 => rfl
    all_goals next hst => exact absurd (by simp [hst, timeStates]) hs
  next => rfl

theorem leafExpiry_tLock {n : Nat} (ht : l.timer = some (.tLock, n))
    (hs : l.state = .unlocking ∨ l.state = .locking) :
    leafExpiry e .tLock l = (faulted .lockTimeout e.clock l, [.leafFault]) := by
  unfold leafExpiry
  rw [if_pos ((runsAs_iff _ _).2 ⟨n, ht⟩), ← enterFault_faulted]
  rcases hs with hs | hs <;> rw [hs]

theorem leafExpiry_tOpen {n : Nat} (ht : l.timer = some (.tOpen, n)) (hs : l.state = .opening) :
    leafExpiry e .tOpen l = (faulted .openTimeout e.clock l, [.leafFault]) := by
  unfold leafExpiry
  rw [if_pos ((runsAs_iff _ _).2 ⟨n, ht⟩), ← enterFault_faulted, hs]

theorem leafExpiry_tClose {n : Nat} (ht : l.timer = some (.tClose, n)) (hs : l.state = .closing) :
    leafExpiry e .tClose l = obstructed e l := by
  unfold leafExpiry
  rw [if_pos ((runsAs_iff _ _).2 ⟨n, ht⟩), hs]

theorem leafExpiry_tReopen {n : Nat} (ht : l.timer = some (.tReopen, n)) (hs : l.state = .reopening) :
    leafExpiry e .tReopen l = (stoodOpen l, []) := by
  unfold leafExpiry
  rw [if_pos ((runsAs_iff _ _).2 ⟨n, ht⟩), hs]
  rfl

theorem leafExpiry_tPause {n : Nat} (ht : l.timer = some (.tPause, n)) (hs : l.state = .opened) :
    leafExpiry e .tPause l = if l.closePending = true then (enterClosing e l, []) else (l, []) := by
  unfold leafExpiry
  rw [if_pos ((runsAs_iff _ _).2 ⟨n, ht⟩), hs]

theorem leafExpiry_tPause_stays (hp : l.closePending = false) : leafExpiry e .tPause l = (l, []) := by
  by_cases h : (∀ n, l.timer ≠ some (.tPause, n)) ∨ l.state ∉ timeStates .tPause
  · exact leafExpiry_idle h
  · push Not at h
    obtain ⟨⟨n, ht⟩, hs⟩ := h
    rw [leafExpiry_tPause ht (by simpa [timeStates] using hs), if_neg (by simp [hp])]

section Pause

variable {n : Nat} (ht : l.timer = some (.tPause, n)) (hs : l.state = .opened) (hp : l.closePending = true)
include ht hs hp

theorem leafExpiry_tPause_open (hc : l.cls = false) :
    leafExpiry e .tPause l =
      ({ l with state := .closing, timer := some (.tClose, e.tClose), overCurrent := 0, closePending := false },
        []) := by
  rw [leafExpiry_tPause ht hs, if_pos hp, enterClosing_open hc]

theorem leafExpiry_tPause_unbolted (hc : l.cls = true) (hk : l.lks = false) :
    leafExpiry e .tPause l =
      ({ l with state := .locking, timer := some (.tLock, 500), overCurrent := 0, closePending := false }, []) := by
  rw [leafExpiry_tPause ht hs, if_pos hp, enterClosing_shut hc, enterLocking_unbolted (by exact hk)]

theorem leafExpiry_tPause_bolted (hc : l.cls = true) (hk : l.lks = true) :
    leafExpiry e .tPause l = (lockedAway l, []) := by
  rw [leafExpiry_tPause ht hs, if_pos hp, enterClosing_shut hc, enterLocking_bolted (by exact hk)]
  rfl

end Pause

/-! ### Grants and close requests (R135, R137, R138) -/

theorem leafGrant_locked (h : l.state = .locked) : leafGrant e l = enterUnlocking e l := by
  unfold leafGrant
  rw [h]

theorem leafGrant_unlocked (h : l.state = .unlocked) :
    leafGrant e l = if e.autoOpen = true then enterOpening e l else l := by
  unfold leafGrant
  rw [h]

theorem leafGrant_opened (h : l.state = .opened) : leafGrant e l = { l with closePending := false, timer := none } := by
  unfold leafGrant
  rw [h]

theorem leafGrant_reopening (h : l.state = .reopening) : leafGrant e l = { l with closePending := false } := by
  unfold leafGrant
  rw [h]

theorem leafGrant_other
    (h : l.state ∈ [LeafState.closing, .locking, .unlocking, .opening, .halted, .fault, .isolated]) :
    leafGrant e l = l := by
  unfold leafGrant
  split
  case h_1 hs | h_2 hs | h_3 hs | h_4 hs => simp [hs] at h
  all_goals rfl

theorem leafClose_unlocked (h : l.state ∈ [LeafState.unlocking, .unlocked]) : leafClose e l = enterLocking l := by
  unfold leafClose
  simp only [List.mem_cons, List.not_mem_nil, or_false] at h
  rcases h with h | h <;> rw [h]

theorem leafClose_opened (h : l.state ∈ [LeafState.opening, .opened]) : leafClose e l = enterClosing e l := by
  unfold leafClose
  simp only [List.mem_cons, List.not_mem_nil, or_false] at h
  rcases h with h | h <;> rw [h]

theorem leafClose_halted (h : l.state ∈ [LeafState.halted, .fault]) :
    leafClose e l = enterClosing e { l with obstructions := 0 } := by
  unfold leafClose
  simp only [List.mem_cons, List.not_mem_nil, or_false] at h
  rcases h with h | h <;> rw [h]

theorem leafClose_reopening (h : l.state = .reopening) : leafClose e l = { l with closePending := true } := by
  unfold leafClose
  rw [h]

theorem leafClose_other (h : l.state ∈ [LeafState.locked, .locking, .closing, .isolated]) : leafClose e l = l := by
  unfold leafClose
  simp only [List.mem_cons, List.not_mem_nil, or_false] at h
  rcases h with h | h | h | h <;> rw [h]

/-! ### A leaf that reaches LOCKED under a release (R122) -/

theorem movesOn_iff {e : LeafEnv} {l m : Leaf} :
    movesOn e l m = true ↔ m.state = .locked ∧ l.state ≠ .locked ∧ e.released = true := by
  simp [movesOn, and_assoc]

variable {id : LeafId} {s : State} {f : LeafEnv → Leaf → Leaf × List DoorCause} {m : Leaf} {cs : List DoorCause}

/-- An event that leaves the leaf at rest: not LOCKED, or in the state it was in, or with no release to move it on. -/
theorem moveLeaf_rests (hf : f (leafEnv s (leafSide id)) (getLeaf s.doors.leaves id) = (m, cs))
    (hm : m.state ≠ .locked ∨ (getLeaf s.doors.leaves id).state = m.state
      ∨ (getRelease s.doors (leafSide id)).inForce = false) :
    LeafMoved id m (causeBits cs) s (moveLeaf id f s) := by
  have h := (moveLeaf_moved id f s).1
  rw [hf] at h
  refine h (Bool.eq_false_iff.2 fun hmoves => ?_)
  obtain ⟨hlocked, hbefore, hreleased⟩ := movesOn_iff.1 hmoves
  rcases hm with hm | hm | hm
  · exact hm hlocked
  · exact hbefore (hm.trans hlocked)
  · exact Bool.false_ne_true (hm.symm.trans hreleased)

theorem moveLeaf_quietly (hf : f (leafEnv s (leafSide id)) (getLeaf s.doors.leaves id) = (m, []))
    (hm : m.state ≠ .locked ∨ (getLeaf s.doors.leaves id).state = m.state
      ∨ (getRelease s.doors (leafSide id)).inForce = false) :
    LeafMoved id m 0#16 s (moveLeaf id f s) := moveLeaf_rests hf hm

theorem moveLeaf_faults {c : LeafCause} {clock : Option Nat} {k : Leaf}
    (hf : f (leafEnv s (leafSide id)) (getLeaf s.doors.leaves id) = (faulted c clock k, [.leafFault])) :
    LeafMoved id (faulted c clock k) 1#16 s (moveLeaf id f s) := moveLeaf_rests hf (.inl nofun)

theorem moveLeaf_obstructed (hf : f (leafEnv s (leafSide id)) (getLeaf s.doors.leaves id) = (m, [.obstruction]))
    (hm : m.state ≠ .locked) : LeafMoved id m 2#16 s (moveLeaf id f s) := moveLeaf_rests hf (.inl hm)

/-- An event that locks the leaf under its side's release, which moves it on to UNLOCKING at once. -/
theorem moveLeaf_passes {k : Leaf} (hf : f (leafEnv s (leafSide id)) (getLeaf s.doors.leaves id) = (lockedAway k, []))
    (hk : k.lks = true) (hl : (getLeaf s.doors.leaves id).state ≠ .locked)
    (hr : (getRelease s.doors (leafSide id)).inForce = true) :
    LeafPassed id (lockedAway k) (unboltedFrom (lockedAway k)) s (moveLeaf id f s) := by
  have h := (moveLeaf_moved id f s).2
  rw [hf] at h
  rw [← enterUnlocking_bolted (e := leafEnv s (leafSide id)) (l := lockedAway k) hk]
  exact h (movesOn_iff.2 ⟨rfl, hl, hr⟩)

end Sys2Proof.Machine
end

section
/-! PROOFS. A sound leaf (R121, R122, R137): its timer fits its state, it waits for no level that already holds, and it
is UNLOCKING, UNLOCKED or OPENING only under a release. Every transition lands in a sound leaf. -/

namespace Sys2Proof.Machine

set_option Elab.async false

/-! ### One leaf -/

/-- A leaf as its side's release, in force or not, wants it. -/
structure LeafSound (released : Bool) (l : Leaf) : Prop where
  timed : timerFits l = true
  settled : settled released l = true
  granted : leafReleased l = true → released = true

/-- An event lands the leaf in a sound record, or in LOCKED under a release, which moves it on at once (R122). -/
def Lands (e : LeafEnv) (l m : Leaf) : Prop := LeafSound e.released m ∨ movesOn e l m = true

variable {e : LeafEnv} {r : Bool} {l m : Leaf}

/-- A record with the state and the timer as they were is as sound as it is settled. -/
theorem LeafSound.resettled (h : LeafSound r l) (hs : m.state = l.state) (ht : m.timer = l.timer)
    (hc : m.closePending = l.closePending) (hm : Machine.settled r m = true) : LeafSound r m := by
  refine ⟨?_, hm, fun hr => h.granted ?_⟩
  · unfold timerFits; rw [hs, ht, hc]; exact h.timed
  · unfold leafReleased at hr ⊢; rwa [hs] at hr

/-! ### The states entered (R121, R122) -/

theorem leafSound_stoodOpen (r : Bool) (l : Leaf) : LeafSound r (stoodOpen l) := by
  refine ⟨?_, rfl, nofun⟩
  unfold timerFits stoodOpen
  dsimp only
  cases l.closePending <;> rfl

theorem leafSound_faulted (r : Bool) (c : LeafCause) (clock : Option Nat) (l : Leaf) :
    LeafSound r (faulted c clock l) := ⟨rfl, rfl, nofun⟩

theorem leafSound_lockedAway (l : Leaf) : LeafSound false (lockedAway l) := ⟨rfl, rfl, nofun⟩

theorem leafSound_enterIsolated (r : Bool) (l : Leaf) : LeafSound r (enterIsolated l) := ⟨rfl, rfl, nofun⟩

theorem leafSound_enterOpening (e : LeafEnv) (l : Leaf) : LeafSound true (enterOpening e l) := by
  cases h : l.ops with
  | true => rw [enterOpening_open h]; exact leafSound_stoodOpen true l
  | false => rw [enterOpening_shut h]; exact ⟨rfl, by simp [settled, h], fun _ => rfl⟩

theorem leafSound_boltRetracted (e : LeafEnv) (l : Leaf) : LeafSound true (boltRetracted e l) := by
  cases h : e.autoOpen with
  | true => rw [boltRetracted_auto h]; exact leafSound_enterOpening e l
  | false => rw [boltRetracted_manual h]; exact ⟨rfl, rfl, fun _ => rfl⟩

theorem leafSound_enterUnlocking (e : LeafEnv) (l : Leaf) : LeafSound true (enterUnlocking e l) := by
  cases h : l.lks with
  | true => rw [enterUnlocking_bolted h]; exact ⟨rfl, h, fun _ => rfl⟩
  | false => rw [enterUnlocking_unbolted h]; exact leafSound_boltRetracted e l

theorem leafSound_locking (r : Bool) (h : l.lks = false) (n : Nat) :
    LeafSound r { l with state := .locking, timer := some (.tLock, n) } := ⟨rfl, by simp [settled, h], nofun⟩

theorem leafSound_enterLocking (l : Leaf) : LeafSound false (enterLocking l) := by
  cases h : l.lks with
  | true => rw [enterLocking_bolted h]; exact leafSound_lockedAway l
  | false => rw [enterLocking_unbolted h]; exact leafSound_locking false h 500

theorem leafSound_closing (e : LeafEnv) (r : Bool) (h : l.cls = false) : LeafSound r (enterClosing e l) := by
  rw [enterClosing_open h]; exact ⟨rfl, by simp [settled, h], nofun⟩

theorem leafSound_enterClosing (e : LeafEnv) (l : Leaf) : LeafSound false (enterClosing e l) := by
  cases h : l.cls with
  | true => rw [enterClosing_shut h]; exact leafSound_enterLocking _
  | false => exact leafSound_closing e false h

theorem leafSound_obstructed (e : LeafEnv) (l : Leaf) : LeafSound r (obstructed e l).1 := by
  by_cases h : l.obstructions < e.obsLimit
  · cases ho : l.ops with
    | true => rw [obstructed_opened h ho]; exact leafSound_stoodOpen _ _
    | false => rw [obstructed_reopens h ho]; exact ⟨rfl, by simp [settled, givingWay, ho], nofun⟩
  · rw [obstructed_faulted (not_lt.1 h)]; exact leafSound_faulted _ _ _ _

/-- LOCKED from another state: at rest without a release, moved on under one. -/
theorem lands_lockedAway (k : Leaf) (h : l.state ≠ .locked) : Lands e l (lockedAway k) := by
  cases hr : e.released with
  | true => exact .inr (movesOn_iff.2 ⟨rfl, h, hr⟩)
  | false => exact .inl (hr ▸ leafSound_lockedAway k)

theorem lands_enterLocking (k : Leaf) (h : l.state ≠ .locked) : Lands e l (enterLocking k) := by
  cases hk : k.lks with
  | true => rw [enterLocking_bolted hk]; exact lands_lockedAway k h
  | false => rw [enterLocking_unbolted hk]; exact .inl (leafSound_locking _ hk 500)

theorem lands_enterClosing (k : Leaf) (h : l.state ≠ .locked) : Lands e l (enterClosing e k) := by
  cases hk : k.cls with
  | true => rw [enterClosing_shut hk]; exact lands_enterLocking _ h
  | false => exact .inl (leafSound_closing e _ hk)

/-! ### Levels that nobody waits for -/

theorem settled_cls (on : Bool) (h : l.state ≠ .closing) : settled r { l with cls := on } = settled r l := by
  unfold settled
  dsimp only
  cases hs : l.state with
  | closing => exact absurd hs h
  | _ => rfl

theorem settled_lks (on : Bool) (h1 : l.state ≠ .unlocking) (h2 : l.state ≠ .locking) :
    settled r { l with lks := on } = settled r l := by
  unfold settled
  dsimp only
  cases hs : l.state with
  | unlocking => exact absurd hs h1
  | locking => exact absurd hs h2
  | _ => rfl

theorem settled_ops (on : Bool) (h1 : l.state ≠ .opening) (h2 : l.state ≠ .reopening) :
    settled r { l with ops := on } = settled r l := by
  unfold settled
  dsimp only
  cases hs : l.state with
  | opening => exact absurd hs h1
  | reopening => exact absurd hs h2
  | _ => rfl

/-! ### The events of a leaf (R123 to R133) -/

theorem lands_leafCls (h : LeafSound e.released l) (on : Bool) : Lands e l (leafCls e { l with cls := on }).1 := by
  have same (hs : settled e.released { l with cls := on } = true) : Lands e l { l with cls := on } :=
    .inl (h.resettled rfl rfl rfl hs)
  by_cases hc : l.state = .closing
  · have hopen : l.state ≠ .locked := by rw [hc]; decide
    cases on with
    | true => rw [leafCls_shuts hc]; exact lands_enterLocking _ hopen
    | false => rw [leafCls_off (by simp [hc])]; exact same (by simp [settled, hc])
  · have hs : settled e.released { l with cls := on } = true := (settled_cls on hc).trans h.settled
    cases on with
    | true => rw [leafCls_on hc]; exact same hs
    | false =>
      by_cases hd : l.state ∈ [LeafState.locked, .locking, .isolated]
      · rw [leafCls_disagrees hd]; exact .inl (leafSound_faulted _ _ _ _)
      · rw [leafCls_off hd]; exact same hs

theorem lands_leafLks (h : LeafSound e.released l) (on : Bool) : Lands e l (leafLks e { l with lks := on }).1 := by
  have same (hs : settled e.released { l with lks := on } = true) : Lands e l { l with lks := on } :=
    .inl (h.resettled rfl rfl rfl hs)
  by_cases hu : l.state = .unlocking
  · have hr : e.released = true := h.granted (by simp [leafReleased, hu])
    cases on with
    | true => rw [leafLks_on (by simp [hu])]; exact same (by simp [settled, hu])
    | false => rw [leafLks_retracts hu]; exact .inl (hr ▸ leafSound_boltRetracted e _)
  · by_cases hk : l.state = .locking
    · have hopen : l.state ≠ .locked := by rw [hk]; decide
      cases on with
      | true => rw [leafLks_locks hk]; exact lands_lockedAway _ hopen
      | false => rw [leafLks_off (by simp [hk])]; exact same (by simp [settled, hk])
    · have hs : settled e.released { l with lks := on } = true := (settled_lks on hu hk).trans h.settled
      cases on with
      | true => rw [leafLks_on hk]; exact same hs
      | false =>
        by_cases hd : l.state ∈ [LeafState.locked, .isolated]
        · rw [leafLks_disagrees hd]; exact .inl (leafSound_faulted _ _ _ _)
        · rw [leafLks_off (by simp_all)]; exact same hs

theorem lands_leafOps (h : LeafSound e.released l) (on : Bool) : Lands e l (leafOps { l with ops := on }) := by
  by_cases hopens : on = true ∧ (l.state = .opening ∨ l.state = .reopening)
  · obtain ⟨rfl, hs⟩ := hopens
    rw [leafOps_opens hs]; exact .inl (leafSound_stoodOpen _ _)
  · rw [leafOps_other hopens]
    refine .inl (h.resettled rfl rfl rfl ?_)
    cases on with
    | true =>
      have hn : ¬ (l.state = .opening ∨ l.state = .reopening) := fun hs => hopens ⟨rfl, hs⟩
      exact (settled_ops true (fun x => hn (.inl x)) (fun x => hn (.inr x))).trans h.settled
    | false =>
      by_cases hs : l.state = .opening ∨ l.state = .reopening
      · rcases hs with hs | hs <;> simp [settled, hs]
      · exact (settled_ops false (fun x => hs (.inl x)) (fun x => hs (.inr x))).trans h.settled

theorem lands_leafPb (h : LeafSound e.released l) (on : Bool) : Lands e l (leafPb e { l with pb := on }) := by
  by_cases hopens : on = true ∧ l.state = .unlocked
  · obtain ⟨rfl, hs⟩ := hopens
    have hr : e.released = true := h.granted (by simp [leafReleased, hs])
    rw [leafPb_opens hs]
    exact .inl (hr ▸ leafSound_enterOpening e _)
  · rw [leafPb_other hopens]
    exact .inl (h.resettled rfl rfl rfl h.settled)

theorem lands_leafConversion (h : LeafSound e.released l) (w : WinState) : Lands e l (leafConversion e w l).1 := by
  by_cases hc : l.state = .closing
  · by_cases hw : w = .above
    · rcases Nat.eq_zero_or_pos l.overCurrent with hn | hn
      · rw [leafConversion_first hc hw hn]; exact .inl (h.resettled rfl rfl rfl h.settled)
      · rw [leafConversion_again hc hw hn]; exact .inl (leafSound_obstructed e _)
    · rw [leafConversion_clear hc hw]; exact .inl (h.resettled rfl rfl rfl h.settled)
  · rw [leafConversion_other hc]; exact .inl h

theorem lands_leafExpiry (h : LeafSound e.released l) (t : LeafTime) : Lands e l (leafExpiry e t l).1 := by
  by_cases hidle : (∀ n, l.timer ≠ some (t, n)) ∨ l.state ∉ timeStates t
  · rw [leafExpiry_idle hidle]; exact .inl h
  push Not at hidle
  obtain ⟨⟨n, ht⟩, hs⟩ := hidle
  cases t with
  | tLock =>
    rw [leafExpiry_tLock ht (by simpa [timeStates] using hs)]; exact .inl (leafSound_faulted _ _ _ _)
  | tOpen =>
    rw [leafExpiry_tOpen ht (by simpa [timeStates] using hs)]; exact .inl (leafSound_faulted _ _ _ _)
  | tClose =>
    rw [leafExpiry_tClose ht (by simpa [timeStates] using hs)]; exact .inl (leafSound_obstructed e l)
  | tReopen =>
    rw [leafExpiry_tReopen ht (by simpa [timeStates] using hs)]; exact .inl (leafSound_stoodOpen _ l)
  | tPause =>
    have hopened : l.state = .opened := by simpa [timeStates] using hs
    rw [leafExpiry_tPause ht hopened]
    split
    · exact lands_enterClosing l (by rw [hopened]; decide)
    · exact .inl h

/-! ### Grants and close requests (R135, R137, R138) -/

/-- In REOPENING close pending decides nothing until the leaf is open (R131). -/
theorem LeafSound.pending (h : LeafSound r l) (hs : l.state = .reopening) (x r' : Bool) :
    LeafSound r' { l with closePending := x } := by
  obtain ⟨htimed, hsettled, -⟩ := h
  unfold timerFits at htimed
  rw [hs] at htimed
  refine ⟨?_, ?_, fun hr => ?_⟩
  · unfold timerFits
    dsimp only
    rw [hs]
    exact htimed
  · simpa [Machine.settled, hs] using hsettled
  · simp [leafReleased, hs] at hr

/-- A grant puts the side's release in force: no leaf of the side is left LOCKED (R122, R137). -/
theorem leafSound_leafGrant (e : LeafEnv) (h : LeafSound r l) : LeafSound true (leafGrant e l) := by
  have same (hs : settled true l = settled r l) : LeafSound true l := ⟨h.timed, hs.trans h.settled, fun _ => rfl⟩
  cases hs : l.state with
  | locked => rw [leafGrant_locked hs]; exact leafSound_enterUnlocking e l
  | unlocked =>
    rw [leafGrant_unlocked hs]
    split
    · exact leafSound_enterOpening e l
    · exact same (by simp [settled, hs])
  | opened => rw [leafGrant_opened hs]; exact ⟨by simp [timerFits, hs], by simp [settled, hs], fun _ => rfl⟩
  | reopening => rw [leafGrant_reopening hs]; exact h.pending hs false true
  | _ => rw [leafGrant_other (by simp [hs])]; exact same (by simp [settled, hs])

/-- A close request comes with the release withdrawn: no leaf of the side needs one any more (R135, R138). -/
theorem leafSound_leafClose (e : LeafEnv) (h : LeafSound r l) : LeafSound false (leafClose e l) := by
  have same (hs : leafReleased l = false) (hsettled : settled false l = true) : LeafSound false l :=
    ⟨h.timed, hsettled, fun hr => hs.symm.trans hr⟩
  cases hs : l.state with
  | unlocking | unlocked => rw [leafClose_unlocked (by simp [hs])]; exact leafSound_enterLocking l
  | opening | opened => rw [leafClose_opened (by simp [hs])]; exact leafSound_enterClosing e l
  | halted | fault => rw [leafClose_halted (by simp [hs])]; exact leafSound_enterClosing e _
  | reopening => rw [leafClose_reopening hs]; exact h.pending hs true false
  | locked | isolated =>
    rw [leafClose_other (by simp [hs])]
    exact same (by simp [leafReleased, hs]) (by simp [settled, hs])
  | locking | closing =>
    rw [leafClose_other (by simp [hs])]
    exact same (by simp [leafReleased, hs]) (by simpa [settled, hs] using h.settled)

/-- A reset leaves every leaf LOCKED or HALTED (R120). -/
theorem leafSound_leafReset (l : Leaf) : LeafSound false (leafReset l) := by
  rw [leafReset_eq]
  split <;> exact ⟨rfl, rfl, nofun⟩

/-- A millisecond runs the motion timer down and stops none (R121). -/
theorem leafSound_lapseLeaf (h : LeafSound r l) : LeafSound r (lapseLeaf l) := by
  refine ⟨?_, h.settled, h.granted⟩
  rw [← h.timed]
  unfold timerFits lapseLeaf
  simp only [Option.any_map, Option.isNone_map]

end Sys2Proof.Machine
end

section
/-! PROOFS. The doors as one invariant (R121, R122, R137): every leaf sound under its side's release, and a release in
force only at standstill in DEPOT or LINE; the door operations keep it. -/

namespace Sys2Proof.Machine

set_option Elab.async false

/-! ### The leaves of a side moved (R135 to R138) -/

section MoveSide

variable (side : Side) (f : LeafEnv → Leaf → Leaf) (u : State)

/-- The leaves of a side moved, before car closed is derived anew. -/
def sideMoved : State := u.setDoors { u.doors with leaves := mapSide side (f (leafEnv u side)) u.doors.leaves }

theorem moveSide_leaf (id : LeafId) :
    getLeaf (moveSide side f u).doors.leaves id =
      if side = .both ∨ leafSide id = side then f (leafEnv u side) (getLeaf u.doors.leaves id)
      else getLeaf u.doors.leaves id :=
  (congrArg (getLeaf · id) (closedAnew_keeps (sideMoved side f u)).1).trans (getLeaf_mapSide side _ u.doors.leaves id)

theorem moveSide_release (other : Side) :
    getRelease (moveSide side f u).doors other = getRelease u.doors other :=
  have ⟨_, hleft, hright, _⟩ := closedAnew_keeps (sideMoved side f u)
  getRelease_congr hleft hright other

theorem moveSide_closed : (moveSide side f u).doors.closed = carClosed (moveSide side f u).doors.leaves := by
  obtain ⟨hsame, hmoves⟩ := closedAnew_spec (sideMoved side f u)
  show (closedAnew (sideMoved side f u)).doors.closed = carClosed (closedAnew (sideMoved side f u)).doors.leaves
  by_cases h : carClosed (sideMoved side f u).doors.leaves = (sideMoved side f u).doors.closed
  · rw [hsame h]; exact h.symm
  · rw [(hmoves h).1]

theorem moveSide_grows : FlagsGrow u (moveSide side f u) :=
  have ⟨_, _, _, _, hgrows⟩ := closedAnew_keeps (sideMoved side f u)
  FlagsGrow.trans (t := sideMoved side f u) (.of_link rfl) hgrows

end MoveSide

/-! ### The invariant in two parts -/

/-- Every leaf is sound under the release of its side. -/
def LeavesSound (s : State) : Prop :=
  ∀ id, LeafSound (getRelease s.doors (leafSide id)).inForce (getLeaf s.doors.leaves id)

/-- The invariant of the statement, leaf by leaf. -/
theorem leavesSound_iff (s : State) : LeavesSound s ↔ LeavesNeedRelease s ∧ LeavesTimed s ∧ LeavesSettled s := by
  unfold LeavesNeedRelease LeavesTimed LeavesSettled
  simp only [List.any_cons, List.any_nil, Bool.or_false, Bool.or_eq_true, allLeaves, List.all_cons, List.all_nil,
    Bool.and_true, Bool.and_eq_true]
  constructor
  · intro h
    obtain ⟨t1, s1, g1⟩ := h .l1
    obtain ⟨t2, s2, g2⟩ := h .l2
    obtain ⟨t3, s3, g3⟩ := h .l3
    obtain ⟨t4, s4, g4⟩ := h .r4
    obtain ⟨t5, s5, g5⟩ := h .r5
    obtain ⟨t6, s6, g6⟩ := h .r6
    exact ⟨⟨(·.elim g1 (·.elim g2 g3)), (·.elim g4 (·.elim g5 g6))⟩, ⟨t1, t2, t3, t4, t5, t6⟩, ⟨s1, s2, s3⟩,
      ⟨s4, s5, s6⟩⟩
  · rintro ⟨⟨gl, gr⟩, ⟨t1, t2, t3, t4, t5, t6⟩, ⟨s1, s2, s3⟩, ⟨s4, s5, s6⟩⟩ id
    cases id with
    | l1 => exact ⟨t1, s1, fun h => gl (.inl h)⟩
    | l2 => exact ⟨t2, s2, fun h => gl (.inr (.inl h))⟩
    | l3 => exact ⟨t3, s3, fun h => gl (.inr (.inr h))⟩
    | r4 => exact ⟨t4, s4, fun h => gr (.inl h)⟩
    | r5 => exact ⟨t5, s5, fun h => gr (.inr (.inl h))⟩
    | r6 => exact ⟨t6, s6, fun h => gr (.inr (.inr h))⟩

/-- A release is in force on one of the two sides. -/
theorem releaseNeedsStandstill_iff (s : State) : ReleaseNeedsStandstill s ↔
    ∀ side, side ≠ .both → (getRelease s.doors side).inForce = true →
      s.odo.standstill = true ∧ (s.sup.mode = .depot ∨ s.sup.mode = .line) := by
  constructor
  · rintro h side hs hf
    cases side with
    | left => exact h (.inl hf)
    | right => exact h (.inr hf)
    | both => exact absurd rfl hs
  · rintro h (hf | hf)
    · exact h .left (by decide) hf
    · exact h .right (by decide) hf

/-- The doors stay sound: the leaves on their own, and the releases on their own. -/
structure DoorsKept (s t : State) : Prop where
  leaves : LeavesSound s → LeavesSound t
  releases : ReleaseNeedsStandstill s → ReleaseNeedsStandstill t

theorem leavesSound_congr {s t : State} (h : t.doors = s.doors) (hs : LeavesSound s) : LeavesSound t := by
  unfold LeavesSound; rw [h]; exact hs

namespace DoorsKept

variable {bs : List Block} {s t u : State}

theorem refl (s : State) : DoorsKept s s := ⟨id, id⟩

theorem trans (h : DoorsKept s t) (k : DoorsKept t u) : DoorsKept s u :=
  ⟨fun x => k.leaves (h.leaves x), fun x => k.releases (h.releases x)⟩

/-- The doors, the standstill flag and the mode stand. -/
theorem of_stands (hd : t.doors = s.doors) (ho : t.odo.standstill = s.odo.standstill) (hm : t.sup.mode = s.sup.mode) :
    DoorsKept s t :=
  ⟨leavesSound_congr hd, fun h => by unfold ReleaseNeedsStandstill; rw [hd, ho, hm]; exact h⟩

theorem of_frame (h : OnlyChanges bs s t) (hb : ∀ b ∈ [Block.doors, .odo, .sup], b ∉ bs := by decide) :
    DoorsKept s t :=
  of_stands (h .doors (hb _ (by decide))) (congrArg _ (h .odo (hb _ (by decide))))
    (congrArg _ (h .sup (hb _ (by decide))))

/-- Records of the odometry other than the standstill flag. -/
theorem setOdo (o : Odometry) (h : o.standstill = s.odo.standstill := by rfl) : DoorsKept s (s.setOdo o) :=
  of_stands rfl h rfl

/-- Records of the supervisor other than the mode. -/
theorem setSup (x : Supervisor) (h : x.mode = s.sup.mode := by rfl) : DoorsKept s (s.setSup x) := of_stands rfl rfl h

theorem answered (h : DoorsKept s t) (r : Req) (res : Result) (data : List Byte) : DoorsKept s (answer r res data t) :=
  h.trans (of_frame (answer_frame r res data t))

theorem branch {p : Prop} [Decidable p] (ht : DoorsKept s t) (hu : DoorsKept s u) :
    DoorsKept s (if p then t else u) := by
  split
  · exact ht
  · exact hu

/-- Standstill and mode stand, and no release comes into force. -/
theorem of_releases (h : LeavesSound s → LeavesSound t) (ho : t.odo = s.odo) (hm : t.sup = s.sup)
    (hf : ∀ side, side ≠ .both → (getRelease t.doors side).inForce = true → (getRelease s.doors side).inForce = true) :
    DoorsKept s t := by
  refine ⟨h, fun hr => (releaseNeedsStandstill_iff t).2 fun side hs hin => ?_⟩
  rw [ho, hm]
  exact (releaseNeedsStandstill_iff s).1 hr side hs (hf side hs hin)

/-! ### One leaf's event (R122, R140) -/

theorem moveLeaf {id : LeafId} {f : LeafEnv → Leaf → Leaf × List DoorCause} {s : State}
    (h : LeafSound (getRelease s.doors (leafSide id)).inForce (getLeaf s.doors.leaves id) →
      Lands (leafEnv s (leafSide id)) (getLeaf s.doors.leaves id)
        (f (leafEnv s (leafSide id)) (getLeaf s.doors.leaves id)).1) :
    DoorsKept s (moveLeaf id f s) := by
  obtain ⟨hrests, hpasses⟩ := moveLeaf_moved id f s
  generalize hx : f (leafEnv s (leafSide id)) (getLeaf s.doors.leaves id) = x at h hrests hpasses
  have frame := moveLeaf_frame id f s
  generalize Machine.moveLeaf id f s = t at frame hrests hpasses ⊢
  have reached : ∃ m, (LeavesSound s → LeafSound (getRelease s.doors (leafSide id)).inForce m)
      ∧ getLeaf t.doors.leaves id = m ∧ (∀ j, j ≠ id → getLeaf t.doors.leaves j = getLeaf s.doors.leaves j)
      ∧ t.doors.left = s.doors.left ∧ t.doors.right = s.doors.right := by
    cases hmoves : movesOn (leafEnv s (leafSide id)) (getLeaf s.doors.leaves id) x.1 with
    | false =>
      obtain ⟨-, hl, hothers, hleft, hright, -⟩ := hrests hmoves
      exact ⟨x.1, fun hs => (h (hs id)).resolve_right (by simp [hmoves]), hl, hothers, hleft, hright⟩
    | true =>
      obtain ⟨u, ⟨-, -, uothers, uleft, uright, -⟩, ⟨-, hl, hothers, hleft, hright, -⟩⟩ := hpasses hmoves
      obtain ⟨-, -, hreleased⟩ := movesOn_iff.1 hmoves
      refine ⟨_, fun _ => ?_, hl, fun j hj => (hothers j hj).trans (uothers j hj), hleft.trans uleft,
        hright.trans uright⟩
      rw [show (getRelease s.doors (leafSide id)).inForce = true from hreleased]
      exact leafSound_enterUnlocking _ _
  obtain ⟨m, hm, hl, hothers, hleft, hright⟩ := reached
  have hrelease (side : Side) : getRelease t.doors side = getRelease s.doors side := getRelease_congr hleft hright side
  refine of_releases (fun hs j => ?_) (frame .odo (by decide)) (frame .sup (by decide)) fun side _ hf => by
    rwa [hrelease side] at hf
  rw [hrelease]
  by_cases hj : j = id
  · subst hj; rw [hl]; exact hm hs
  · rw [hothers j hj]; exact hs j

/-! ### The leaves of a side (R135 to R138) -/

/-- A side's leaves take an event under a release record that has just been written; the other side stands. -/
theorem leavesSound_moveSide {side : Side} (hb : side ≠ .both) {f : LeafEnv → Leaf → Leaf} {s u : State}
    (hl : u.doors.leaves = s.doors.leaves)
    (hr : ∀ other, other ≠ .both → side ≠ other → getRelease u.doors other = getRelease s.doors other)
    (hf : ∀ l, LeafSound (getRelease s.doors side).inForce l →
      LeafSound (getRelease u.doors side).inForce (f (leafEnv u side) l))
    (hs : LeavesSound s) : LeavesSound (moveSide side f u) := by
  intro id
  rw [moveSide_leaf, moveSide_release, hl]
  by_cases hid : leafSide id = side
  · rw [if_pos (.inr hid), hid]
    exact hf _ (hid ▸ hs id)
  · rw [if_neg (by simp [hb, hid]), hr _ (by cases id <;> decide) (Ne.symm hid)]
    exact hs id

end DoorsKept

end Sys2Proof.Machine
end

section
/-! PROOFS. Every operation keeps the doors sound: releases granted and withdrawn, the odometry, the mode, trips,
samples and resets; then every command and every step (O50). -/

namespace Sys2Proof.Machine

set_option Elab.async false

/-! ### Sides by their codes (R136) -/

theorem sideOfCode_iff {code : Nat} {side : Side} :
    sideOfCode code = some side ↔ side ≠ .both ∧ sideCode side = code := by
  constructor
  · intro h
    unfold sideOfCode at h
    split at h <;> cases h <;> exact ⟨by decide, rfl⟩
  · rintro ⟨hs, rfl⟩
    cases side with
    | left => rfl
    | right => rfl
    | both => exact absurd rfl hs

theorem sideOfCode_none {code : Nat} (h : code = 0 ∨ 2 < code) : sideOfCode code = none := by
  unfold sideOfCode
  split
  · omega
  · omega
  · rfl

/-- A release whose checks pass stands at standstill in DEPOT or LINE (R136, checks 1 and 2). -/
theorem releaseCheck_passes {side : Side} (hs : side ≠ .both) {st : OdoState} {s : State}
    (h : releaseCheck side st s = .none) : s.odo.standstill = true ∧ (s.sup.mode = .depot ∨ s.sup.mode = .line) := by
  obtain ⟨hmode, hyard⟩ := releaseCheck_spec (s := s) hs st
  have hm : s.sup.mode = .depot ∨ s.sup.mode = .line := by
    by_contra hn
    rw [not_or] at hn
    rw [hmode hn.1 hn.2] at h
    cases h
  refine ⟨?_, hm⟩
  by_contra hn
  rw [(hyard hm).1 (by simpa using hn)] at h
  cases h

/-- After the re-test of both sides no release is in force but at standstill in DEPOT or LINE (R138). -/
theorem retestReleases_needsStandstill (s : State) : ReleaseNeedsStandstill (retestReleases s) := by
  refine (releaseNeedsStandstill_iff _).2 fun side hs hf => ?_
  have fr := retestReleases_frame s
  rw [show (retestReleases s).odo = s.odo from fr .odo (by decide),
    show (retestReleases s).sup = s.sup from fr .sup (by decide)]
  obtain ⟨hun, hin⟩ := retestReleases_side hs s
  cases hforce : (getRelease s.doors side).inForce with
  | false => rw [(hun hforce).1, hforce] at hf; cases hf
  | true =>
    by_cases hc : releaseCheck side s.odo.sample.state s = .none
    · exact releaseCheck_passes hs hc
    · rw [((hin hforce).2 _ rfl hc).release] at hf; cases hf

namespace DoorsKept

variable {s t : State}

/-! ### Releases (R135 to R138) -/

/-- A side's release record written, and its leaves sent the event that goes with it. -/
theorem leaves_written {side : Side} (hs : side ≠ .both) (r : SideRelease) {f : LeafEnv → Leaf → Leaf}
    (hf : ∀ {e : LeafEnv} {was : Bool} {l : Leaf}, LeafSound was l → LeafSound r.inForce (f e l)) (u : State)
    (hu : u.doors.leaves = s.doors.leaves)
    (hr : ∀ side', getRelease u.doors side' = getRelease (putRelease side r s.doors) side') :
    LeavesSound s → LeavesSound (Machine.moveSide side f u) := by
  refine leavesSound_moveSide hs hu (fun other ho hne => ?_) fun l hl => ?_
  · rw [hr, getRelease_putRelease_ne hne hs ho]
  · rw [hr, getRelease_putRelease]; exact hf hl

/-- A release withdrawn and its leaves closed (R135, R138). -/
theorem of_withdrawal {side : Side} (hs : side ≠ .both) (w : Withdrawal) {u : State}
    (hu : u.doors.leaves = s.doors.leaves) (ho : u.odo = s.odo) (hm : u.sup = s.sup)
    (hr : ∀ side', getRelease u.doors side' = getRelease (putRelease side (withdrawnRelease w) s.doors) side') :
    DoorsKept s (Machine.moveSide side leafClose u) := by
  have fr := moveSide_frame side leafClose u
  refine of_releases (leaves_written hs (withdrawnRelease w) (fun h => leafSound_leafClose _ h) u hu hr)
    (Eq.trans (fr .odo (by decide)) ho) (Eq.trans (fr .sup (by decide)) hm) fun other hob hf => ?_
  rw [moveSide_release, hr] at hf
  by_cases hne : side = other
  · subst hne; rw [getRelease_putRelease] at hf; cases hf
  · rwa [getRelease_putRelease_ne hne hs hob] at hf

theorem closeSide {side : Side} (hs : side ≠ .both) (s : State) : DoorsKept s (closeSide side s) := by
  obtain ⟨-, hl⟩ := putRelease_closed side (withdrawnRelease .closeRequest) s.doors
  unfold Machine.closeSide
  dsimp only
  split
  · exact of_withdrawal hs .closeRequest hl rfl rfl fun _ => rfl
  · next hf =>
    have fr := moveSide_frame side leafClose s
    refine of_releases (leavesSound_moveSide hs rfl (fun _ _ _ => rfl) fun l hl => ?_) (fr .odo (by decide))
      (fr .sup (by decide)) fun other _ h => by rwa [moveSide_release] at h
    rw [Bool.not_eq_true] at hf
    rw [hf]
    exact leafSound_leafClose _ hl

theorem retestRelease {side : Side} (hs : side ≠ .both) (s : State) : DoorsKept s (retestRelease side s) := by
  rcases retestRelease_cases side s with e | ⟨w, e⟩ <;> rw [e]
  · exact refl s
  · exact of_withdrawal hs w (putRelease_closed side _ s.doors).2 rfl rfl fun _ => rfl

theorem retestReleases (s : State) : DoorsKept s (retestReleases s) :=
  (retestRelease (by decide) s).trans (retestRelease (by decide) _)

/-- A grant that has passed the checks (R136, R137). -/
theorem grantRelease {side : Side} (hs : side ≠ .both) (auto : Bool) {st : OdoState} {s : State}
    (h : releaseCheck side st s = .none) : DoorsKept s (grantRelease side auto s) := by
  let r : SideRelease := { getRelease s.doors side with
    inForce := true, autoOpen := auto, platform := if s.sup.mode = .line then qualifyingPlatform side s else none }
  let u := s.setDoors (putRelease side r s.doors)
  have fr := grantRelease_frame side auto s
  refine ⟨leaves_written hs r (fun h => leafSound_leafGrant _ h) u (putRelease_closed side r s.doors).2 fun _ => rfl,
    fun _ => (releaseNeedsStandstill_iff _).2 fun _ _ _ => ?_⟩
  rw [show (Machine.grantRelease side auto s).odo = s.odo from fr .odo (by decide),
    show (Machine.grantRelease side auto s).sup = s.sup from fr .sup (by decide)]
  exact releaseCheck_passes hs h

theorem releaseSide (code : Nat) (auto : Bool) (s : State) : DoorsKept s (releaseSide code auto s).2 := by
  unfold Machine.releaseSide
  split
  · exact refl s
  · next side hside =>
    split
    · next hc => exact grantRelease (sideOfCode_iff.1 hside).1 auto hc
    · exact refl s

/-! ### Requests on one leaf (R134, R139) -/

theorem isolateLeaf (id : LeafId) (s : State) : DoorsKept s (isolateLeaf id s).2 := by
  unfold Machine.isolateLeaf
  dsimp only
  repeat' split
  · exact refl s
  · exact refl s
  · exact moveLeaf (f := fun _ l => (enterIsolated l, [])) fun _ => .inl (leafSound_enterIsolated _ _)

theorem restoreLeaf (id : LeafId) (s : State) : DoorsKept s (restoreLeaf id s).2 := by
  unfold Machine.restoreLeaf
  dsimp only
  split
  · exact refl s
  · next h =>
    rw [not_or, not_not] at h
    exact moveLeaf (f := fun _ l => (enterLocked l, [])) fun _ => lands_lockedAway _ (by rw [h.1]; decide)

/-- A leaf's record replaced by one as sound. -/
theorem putLeaf {id : LeafId} {l : Leaf}
    (h : LeafSound (getRelease s.doors (leafSide id)).inForce (getLeaf s.doors.leaves id) →
      LeafSound (getRelease s.doors (leafSide id)).inForce l) :
    DoorsKept s (s.setDoors { s.doors with leaves := putLeaf id l s.doors.leaves }) := by
  refine of_releases (fun hs j => ?_) rfl rfl fun _ _ hf => hf
  show LeafSound (getRelease s.doors (leafSide j)).inForce (getLeaf (Machine.putLeaf id l s.doors.leaves) j)
  by_cases hj : j = id
  · subst hj; rw [getLeaf_putLeaf]; exact h (hs j)
  · rw [getLeaf_putLeaf_ne _ _ _ _ hj]; exact hs j

theorem readDoorFault (id : LeafId) (s : State) : DoorsKept s (readDoorFault id s) := by
  have taken := putLeaf (s := s) (id := id) (l := { getLeaf s.doors.leaves id with fault := none })
    fun h => h.resettled rfl rfl rfl h.settled
  unfold Machine.readDoorFault
  dsimp only
  split
  · exact (refl s).answered _ _ _
  · exact taken.answered _ _ _

/-- The door causes: no leaf and no release reads them (R142). -/
theorem setDoorCauses (x : BitVec 16) (s : State) : DoorsKept s (s.setDoors { s.doors with causes := x }) :=
  ⟨id, id⟩

theorem judgeInterlock (s : State) : DoorsKept s (judgeInterlock s) := by
  have h : DoorsKept s (writeDoorsLevel s) := of_frame (writeDemand_frame _ _ s)
  unfold Machine.judgeInterlock
  dsimp only
  repeat' split
  · exact h
  · exact ((h.trans (of_frame (latchDemand_frame _ _))).trans (setDoorCauses _ _)).trans (of_frame (setFlag_frame _ _))
  · exact h

theorem completeConversion (raw : Nat) (s : State) : DoorsKept s (completeConversion raw s) := by
  have h (a : Analog) : DoorsKept s (s.setAnalog a) := of_frame (setAnalog_frame a s)
  unfold Machine.completeConversion announce
  dsimp only
  repeat' split
  · exact (h _).trans (of_frame (takeAin0_frame _ _))
  · have fr (x : Nat) (u : State) := takeAin1_frame x u
    exact (h _).trans (of_stands (fr _ _ .doors (by decide)) (congrArg _ (fr _ _ .odo (by decide)))
      (takeAin1_brakesKept _ _).mode)
  · exact (h _).trans (moveLeaf fun hl => lands_leafConversion hl _)
  · exact h _
  · exact h _

/-! ### The odometry keeps the standstill flag but at a sample (R34) -/

theorem takeCount (sensor : Sensor) (x : Sense) (s : State) : DoorsKept s (takeCount sensor x s) := by
  have fr := takeCount_frame sensor x s
  have hd := (takeCount_decoded (sensor := sensor) (x := x) (s := s)).trans (decodeCount_decoded sensor x s.odo)
  exact of_stands (fr .doors (by decide)) (congrArg (·.2.1.2.1) hd) (congrArg _ (fr .sup (by decide)))

theorem detectMark (s : State) : DoorsKept s (detectMark s) := by
  by_cases h : s.odo.state = .unset
  · rw [detectMark_unset h]; exact refl s
  · have fr := detectMark_frame s
    obtain ⟨⟨-, -, -, -, -, hstill, -⟩, -⟩ := detectMark_outcome h
    exact of_stands (fr .doors (by decide)) hstill (congrArg _ (fr .sup (by decide)))

theorem releaseOdometry (s : State) : DoorsKept s (releaseOdometry s) := by
  unfold Machine.releaseOdometry addOdoCause
  split
  · exact (((setOdo _).trans (setOdo _)).trans (of_frame (setFlag_frame _ _))).trans
      (of_frame (judgePart_frame _ _))
  · exact refl s

theorem setPosition (p u : Nat) (s : State) : DoorsKept s (setPosition p u s).2 := by
  unfold Machine.setPosition
  repeat' split
  case h_2 =>
    exact (((setOdo _).trans (of_frame (deriveWindow_frame _))).trans (of_frame (radioCrossingCurrent_frame _))).trans
      (of_frame (judgePart_frame _ _))
  all_goals exact refl s

theorem setParameter (n v : Nat) (s : State) : DoorsKept s (setParameter n v s).2 := by
  have told (u : State) : DoorsKept u (paramTold n u) := by
    by_cases h3 : n = 3
    · subst h3; exact setOdo _
    by_cases h9 : n = 9
    · subst h9; exact .branch (setOdo _) (refl u)
    · exact of_frame (paramTold_frame n u h3 h9)
  rcases setParameter_cases n v s with e | ⟨r, -, -, -, -, e⟩ <;> rw [e]
  · exact refl s
  · exact (of_frame (setParams_frame _ s)).trans (told _)

theorem beginLineLoad (s : State) : DoorsKept s (beginLineLoad s) := by
  have h (u : State) : DoorsKept u (clearTable u) := of_frame (clearTable_frame u)
  exact ((((of_frame (setLine_frame _ s)).trans (h _)).trans (of_frame (dropStaging_frame _))).trans
    ((setOdo _).trans (of_frame (setWindow_frame _ _)))).trans (of_frame (setLink_frame _ _))

/-! ### The mode (R77 to R82): every change of it re-tests the releases -/

theorem changeMode (m : Mode) (s : State) : DoorsKept s (changeMode m s) := by
  let u := retestHeld (entered m s)
  have hu : u.doors = s.doors := Eq.trans (retestHeld_frame _ .doors (by decide)) (entered_frame m s .doors (by decide))
  have hlast : DoorsKept (Machine.retestReleases u) (Machine.changeMode m s) := of_frame (changeMode_then_frame m s)
  exact ⟨fun h => hlast.leaves ((retestReleases u).leaves (leavesSound_congr hu h)),
    fun _ => hlast.releases (retestReleases_needsStandstill u)⟩

theorem trip (c : TripCause) (s : State) : DoorsKept s (trip c s) := by
  have h : DoorsKept s (tripRecorded c s) := setSup _
  rw [trip_eq]
  exact h.trans (changeMode _ _)

theorem tripIf (b : Bool) (c : TripCause) (s : State) : DoorsKept s (tripIf b c s) := .branch (trip c s) (refl s)

theorem stageTrip (s : State) : DoorsKept s (stageTrip s) := by
  rw [stageTrip_eq]
  rcases tripFor_cases (stageCause s) s with ⟨e, -⟩ | ⟨c, -, -, e⟩ <;> rw [e]
  · exact refl s
  · exact trip c s

theorem stageLevel (s : State) : DoorsKept s (stageLevel s) := by
  by_cases h : levelOf s = s.sup.level
  · rw [stageLevel_same h]; exact refl s
  · rw [stageLevel_changed h]
    exact (setSup _).trans (of_frame (setFlag_frame _ _))

theorem stageAct (s : State) : DoorsKept s (stageAct s) := by
  have h : DoorsKept s (stageIntervene (Machine.stageLevel s)) :=
    ((stageLevel s).trans (tripIf _ _ _)).trans (tripIf _ _ _)
  unfold Machine.stageAct
  dsimp only
  exact .branch h (h.trans (of_frame (writeSupervisor_frame _)))

theorem superviseSample (s : State) : DoorsKept s (superviseSample s) := by
  have rolled : DoorsKept s (stageRollback s) := .branch (refl s) (setSup _)
  have still (u : State) : DoorsKept u (stageStandstill u) := .branch (setSup _) (refl u)
  have evaluated (u : State) : DoorsKept u (evaluate u) := .branch (setSup _) (setSup _)
  exact (((rolled.trans (stageTrip _)).trans (still _)).trans (evaluated _)).trans (stageAct _)

/-- A sample may end standstill; the re-test that follows then withdraws the releases (R138). -/
theorem takeSample (s : State) : DoorsKept s (takeSample s) := by
  have issued (h : LeavesSound s) : LeavesSound (issueSample s) := h
  let u := retirePassed (Machine.superviseSample (issueSample s))
  have hu : DoorsKept (issueSample s) u := (superviseSample _).trans (of_frame (retirePassed_frame _))
  have hlast : DoorsKept (Machine.retestReleases u) (Machine.takeSample s) := judgeInterlock _
  exact ⟨fun h => hlast.leaves ((retestReleases u).leaves (hu.leaves (issued h))),
    fun _ => hlast.releases (retestReleases_needsStandstill u)⟩

theorem deficitExpired (s : State) : DoorsKept s (deficitExpired s) := by
  by_cases h : s.brakes.deficitTimer = none
  · rw [deficitExpired_stopped h]; exact refl s
  · have noticed : DoorsKept s (deficitNoticed s) := of_stands rfl rfl rfl
    rw [deficitExpired_running h]
    exact .branch (noticed.trans (trip _ _)) noticed

theorem releaseTrip (s : State) : DoorsKept s (releaseTrip s) := by
  have released (u : State) : DoorsKept u (releaseSupervisor u) := by
    rcases releaseSupervisor_cases u with ⟨-, e⟩ | ⟨-, e⟩ <;> rw [e]
    · exact refl u
    · have h : DoorsKept u (u.setSup { u.sup with rollback := 0 }) := setSup _
      exact h.trans (changeMode _ _)
  exact (((releaseOdometry s).trans (released _)).trans (of_frame (setBrakes_frame _ _))).trans
    (of_frame (combine_frame _))

theorem setMode (code : Nat) (s : State) : DoorsKept s (setMode code s).2 := by
  unfold Machine.setMode
  repeat' split
  · exact refl s
  · exact refl s
  · exact refl s
  · exact refl s
  · exact changeMode _ s

theorem setDirection (code : Nat) (s : State) : DoorsKept s (setDirection code s).2 := by
  have fr := setDirection_frame code s
  exact of_stands (fr .doors (by decide)) (congrArg _ (fr .odo (by decide))) (setDirection_brakesKept code s).mode

/-! ### Resets (R120, R198, R199) -/

/-- Either reset leaves LOCKED and HALTED leaves and no release in force. -/
theorem of_reset (h : t.doors = doorsReset s.doors) : DoorsKept s t := by
  refine ⟨fun _ id => ?_, fun _ => (releaseNeedsStandstill_iff t).2 fun side _ hf => ?_⟩
  · rw [h, show getLeaf (doorsReset s.doors).leaves id = leafReset (getLeaf s.doors.leaves id) from
      getLeaf_leavesReset _ _]
    cases id <;> exact leafSound_leafReset _
  · rw [h] at hf
    cases side <;> cases hf

/-! ### Telegrams (R164) -/

/-- The blocks a telegram may reach: neither the doors nor the odometry nor the supervisor. -/
abbrev telegramBlocks : List Block := [.tele, .radio, .restr, .link, .line, .window, .staging, .brakes]

theorem received (h : TgHeader) {body : State → State} (hb : ∀ u, OnlyChanges telegramBlocks u (body u)) (s : State) :
    DoorsKept s (receive h body s) := of_frame (receive_frame h body s telegramBlocks (by decide) hb)

theorem passMillisecond (s : State) : DoorsKept s (passMillisecond s) := by
  refine ⟨fun h id => ?_, id⟩
  have hl : getLeaf (Machine.passMillisecond s).doors.leaves id = lapseLeaf (getLeaf s.doors.leaves id) :=
    getLeaf_mapLeaves _ _ _
  rw [hl]
  exact leafSound_lapseLeaf (h id)

theorem idle (s : State) : DoorsKept s (idle s) := by
  unfold Machine.idle
  split
  · exact passMillisecond s
  · exact of_frame (setPending_frame _ s)

end DoorsKept

/-! ### Every command and every step -/

theorem exec_doorsKept (c : Instr) (s : State) : ∃ t, exec c s = .next t ∧ DoorsKept s t := by
  obtain ⟨rParam, rSection, rWindow, rLookup, rRestr, rChannel, rFilter, rUplink, rAnalog⟩ := execRead_frame s
  have link {o : Host.Outcome State Fault Refusal} (h : ∃ t, o = .next t ∧ OnlyChanges [.link] s t) :
      ∃ t, o = .next t ∧ DoorsKept s t := h.imp fun _ ht => ⟨ht.1, .of_frame ht.2⟩
  have table {o : Host.Outcome State Fault Refusal} (h : ∃ t, o = .next t ∧ OnlyChanges [.restr, .link] s t) :
      ∃ t, o = .next t ∧ DoorsKept s t := h.imp fun _ ht => ⟨ht.1, .of_frame ht.2⟩
  have read {r : Req} {res : Result} {data : List Byte} : DoorsKept s (answer r res data s) :=
    .of_frame (answer_frame r res data s)
  have request {r : Req} {res : Result} {data : List Byte} {t : State} (h : DoorsKept s t) :
      DoorsKept s (answer r res data t) := h.answered r res data
  have acked {bs : List Block} {k : AckKind} {n : Nat} {h : TgHeader} {u : State} {x : Result × State}
      (hx : OnlyChanges bs u x.2) (hb : bs ⊆ DoorsKept.telegramBlocks := by decide) :
      OnlyChanges DoorsKept.telegramBlocks u (ackResult k n h x) := (hx.mono hb).trans (ackResult_frame k n h x).mono
  cases c with
  | powerOnReset => exact ⟨_, rfl, .of_reset rfl⟩
  | reset => exact ⟨_, rfl, .branch (.of_reset rfl) read⟩
  | hostFrameRefused why => exact link (hostFrameRefused_frame why s)
  | nop => exact ⟨_, rfl, .of_frame (respond_frame _ _ _ s)⟩
  | readPage page => exact link (readPage_frame page s)
  | ident | readEvents | readLine | readStage | readRestrictionStatus | readSupervision | readTelegrams =>
    exact ⟨_, rfl, read⟩
  | clearEvents set | setEventMask set => exact ⟨_, rfl, request (.of_frame (setLink_frame _ s))⟩
  | readParameter n => exact link (rParam n)
  | setParameter n v => exact ⟨_, rfl, request (.setParameter n v s)⟩
  | lineLoadBegin => exact ⟨_, rfl, .branch (request (.beginLineLoad s)) read⟩
  | appendSection w =>
    rcases appendSection_cases w s with e | ⟨r, -, -, -, e⟩ <;>
      refine ⟨_, rfl, request (t := (appendSection w s).2) ?_⟩ <;> rw [e]
    · exact .refl s
    · exact .of_frame (setLine_frame _ s)
  | lineLoadEnd =>
    refine ⟨_, rfl, request (t := (sealLine s).2) ?_⟩
    rcases sealLine_cases s with e | ⟨-, fr⟩
    · rw [e]; exact .refl s
    · exact (DoorsKept.of_frame (setLine_frame _ s)).trans (.of_frame fr)
  | readSection i => exact link (rSection i)
  | readSectionNext => exact link (readSectionNext_frame s)
  | setSectionCursor i => exact link (setSectionCursor_frame i s)
  | readWindow k => exact link (rWindow k)
  | stageSection b => exact ⟨_, rfl, request (.of_frame (stageBlock_frame _ b s))⟩
  | commitStage id crc => exact ⟨_, rfl, request (.of_frame (commitUpdate_frame _ id crc s))⟩
  | abortStage id => exact ⟨_, rfl, request (.of_frame (abortUpdate_frame _ id s))⟩
  | setPosition p u => exact ⟨_, rfl, request (.setPosition p u s)⟩
  | readOdometry => exact ⟨_, rfl, request (t := s.setOdo _) (.setOdo _)⟩
  | readMarkReport =>
    refine ⟨_, rfl, ?_⟩
    split
    · exact read
    · exact request (t := s.setOdo _) (.setOdo _)
  | putRestriction w => exact ⟨_, rfl, request (.of_frame (putRestriction_frame _ w s))⟩
  | retireRestriction id => exact ⟨_, rfl, request (.of_frame (withdrawEntry_frame _ _ id s))⟩
  | setTime v => exact table (setTime_frame v s)
  | lookupRestriction i id => exact link (rLookup i id)
  | readRestriction i => exact link (rRestr i)
  | nextRestriction => exact link (nextRestriction_frame s)
  | setRestrictionCursor i => exact link (setRestrictionCursor_frame i s)
  | readRestrictionLog => exact table (readRestrictionLog_frame s)
  | setMode code => exact ⟨_, rfl, request (.setMode code s)⟩
  | setDirection code => exact ⟨_, rfl, request (.setDirection code s)⟩
  | brakeDemand l e => exact ⟨_, rfl, request (.of_frame (writeDemand_frame _ _ s))⟩
  | releaseTrip => exact ⟨_, rfl, .branch (request (.releaseTrip s)) read⟩
  | readBrakes => exact ⟨_, rfl, request (.of_frame (setBrakes_frame _ s))⟩
  | releaseSide side auto => exact ⟨_, rfl, request (.releaseSide side auto s)⟩
  | closeSide code =>
    refine ⟨_, rfl, ?_⟩
    split
    · exact read
    · next side hside => exact request (.closeSide (sideOfCode_iff.1 hside).1 s)
  | closeAll =>
    exact ⟨_, rfl, request ((DoorsKept.closeSide (side := .left) (by decide) s).trans (.closeSide (by decide) _))⟩
  | isolateLeaf leaf =>
    refine ⟨_, rfl, ?_⟩
    split
    · exact read
    · exact request (.isolateLeaf _ s)
  | restoreLeaf leaf =>
    refine ⟨_, rfl, ?_⟩
    split
    · exact read
    · exact request (.restoreLeaf _ s)
  | readDoors => exact ⟨_, rfl, request (.setDoorCauses _ s)⟩
  | readDoorFault leaf =>
    refine ⟨_, rfl, ?_⟩
    split
    · exact read
    · exact .readDoorFault _ s
  | setSlot slot route => exact ⟨_, rfl, request (.of_frame (setSlot_frame slot route s))⟩
  | radioReset => exact ⟨_, rfl, request (.of_frame (radioReset_frame s))⟩
  | setChannel cell ch => exact ⟨_, rfl, request (.of_frame (setChannel_frame cell ch s))⟩
  | readRadio => exact ⟨_, rfl, request (.of_frame (setRadio_frame _ s))⟩
  | readChannel i => exact link (rChannel i)
  | setFilter i en k v m => exact ⟨_, rfl, request (.of_frame (setFilter_frame i en k v m s))⟩
  | readFilter i => exact link (rFilter i)
  | readUplink i => exact link (rUplink i)
  | setSweep m e => exact ⟨_, rfl, request (.of_frame (setSweep_frame m e s))⟩
  | setCalibration w => exact ⟨_, rfl, request (.of_frame (setCalibration_frame w s))⟩
  | setWindow ch l h => exact ⟨_, rfl, request (.of_frame (setWindowLimits_frame ch l h s))⟩
  | readAnalog i => exact link (rAnalog i)
  | quadratureCount sensor x => exact ⟨_, rfl, .takeCount sensor x s⟩
  | phaseError sensor => exact ⟨_, rfl, .of_stands rfl (by cases sensor <;> rfl) rfl⟩
  | markDetection => exact ⟨_, rfl, .detectMark s⟩
  | clsChange leaf on => exact ⟨_, rfl, .branch (.refl s) (.moveLeaf fun h => lands_leafCls h on)⟩
  | lksChange leaf on => exact ⟨_, rfl, .branch (.refl s) (.moveLeaf fun h => lands_leafLks h on)⟩
  | opsChange leaf on => exact ⟨_, rfl, .branch (.refl s) (.moveLeaf fun h => lands_leafOps h on)⟩
  | pbPressed leaf on => exact ⟨_, rfl, .branch (.refl s) (.moveLeaf fun h => lands_leafPb h on)⟩
  | tLockExpiry leaf | tOpenExpiry leaf | tCloseExpiry leaf | tReopenExpiry leaf | tPauseExpiry leaf =>
    exact ⟨_, rfl, .moveLeaf fun h => lands_leafExpiry h _⟩
  | conversionComplete raw => exact ⟨_, rfl, .completeConversion raw s⟩
  | positionSample => exact ⟨_, rfl, .takeSample s⟩
  | lineClockAdvance => exact table (lineClockAdvance_frame s)
  | holdTimerExpiry => exact ⟨_, rfl, .of_frame (holdExpired_frame s)⟩
  | tRelExpiry => exact ⟨_, rfl, .of_frame (relExpired_frame s)⟩
  | tAppExpiry => exact ⟨_, rfl, .of_frame (appExpired_frame s)⟩
  | deficitTimerExpiry => exact ⟨_, rfl, .deficitExpired s⟩
  | slotStart => exact ⟨_, rfl, .of_frame (startSlot_frame s)⟩
  | initSequenceEnd => exact ⟨_, rfl, .branch (.of_frame (finishInit_frame s)) (.refl s)⟩
  | holdoverTimerExpiry => exact ⟨_, rfl, .of_frame (holdoverExpired_frame s)⟩
  | radioLossTimerExpiry => exact ⟨_, rfl, .branch (.of_frame (linkExpired_frame s)) (.refl s)⟩
  | telegramDiscarded d => exact ⟨_, rfl, .of_frame (discardTelegram_frame d s)⟩
  | beacon f cell src => exact ⟨_, rfl, .of_frame (receiveBeacon_frame f cell src s)⟩
  | time h v => exact ⟨_, rfl, .received h (fun u => (setClock_frame v u).mono) s⟩
  | restrict h w => exact ⟨_, rfl, .received h (fun u => acked (putRestriction_frame _ w u)) s⟩
  | revoke h id => exact ⟨_, rfl, .received h (fun u => acked (withdrawEntry_frame _ _ id u)) s⟩
  | sectionBlock h b =>
    refine ⟨_, rfl, .received h (fun u => ?_) s⟩
    unfold ackBlock
    split
    · exact (stageBlock_frame _ b u).mono
    · exact acked (stageBlock_frame _ b u)
  | sectionCommit h id crc => exact ⟨_, rfl, .of_frame (sectionCommit_frame h id crc s)⟩
  | sectionAbort h id => exact ⟨_, rfl, .received h (fun u => acked (abortUpdate_frame _ id u)) s⟩
  | slotGrant h slot p ph => exact ⟨_, rfl, .received h (fun u => acked (takeGrant_frame _ u)) s⟩
  | poll h => exact ⟨_, rfl, .received h (fun u => (queueReport_frame u).mono) s⟩
  | emergencyStop h => exact ⟨_, rfl, .received h (fun u => acked (radioStop_frame u)) s⟩
  | stopRelease h => exact ⟨_, rfl, .received h (fun u => acked (radioRelease_frame u)) s⟩

theorem step_doorsKept {s t : State} (h : step s = .next t) : DoorsKept s t := by
  unfold step at h
  split at h
  · cases h
    exact .idle s
  · next c rest _ =>
    obtain ⟨u, hu, hk⟩ := exec_doorsKept c (s.setPending rest)
    cases hu.symm.trans h
    exact (DoorsKept.of_frame (setPending_frame rest s)).trans hk

end Sys2Proof.Machine

namespace Sys2Proof.Proofs

set_option Elab.async false

open Machine

/-- Settles O50: every event lands a leaf in a record sound under its side's release (`Lands`), and every change of mode
and every sample re-tests the releases (`retestReleases_needsStandstill`). -/
theorem doorsStaySound : Obligations.DoorsStaySound := by
  unfold Obligations.DoorsStaySound
  intro s t ht hdoors htimed hsettled
  have hk := step_doorsKept ht
  obtain ⟨hneed, htimed', hsettled'⟩ :=
    (leavesSound_iff t).1 (hk.leaves ((leavesSound_iff s).2 ⟨hdoors.1, htimed, hsettled⟩))
  exact ⟨⟨hneed, hk.releases hdoors.2⟩, htimed', hsettled'⟩

end Sys2Proof.Proofs
end

section
/-! PROOFS. The switches, the push button and the motion timer of a leaf (O49). -/

namespace Sys2Proof.Proofs

set_option Elab.async false

open Machine

/-- Settles O49: each row of a leaf's transition as an equation (`leafCls_disagrees` to `leafExpiry_tPause`), and what a
moved leaf makes of the state, at rest (`moveLeaf_rests`) or locked under a release (`moveLeaf_passes`). -/
theorem leafEvents : Obligations.LeafEvents := by
  unfold Obligations.LeafEvents
  intro id s
  dsimp only
  have held {b : Bool} (h : b = true) : ¬ b = false := by simp [h]
  have absent {b : Bool} (h : b = false) : ¬ b = true := by simp [h]
  refine ⟨⟨_, rfl, fun h => if_pos h, fun h hs => ?_, fun h hs => ?_⟩,
    ⟨_, rfl, fun h => if_pos h, fun h hs => ?_, fun h hs hk => ?_, fun h hs hk hr => ?_, fun h hs hk hr => ?_⟩,
    ⟨_, rfl, fun h => if_pos h, fun h hs => ?_, fun h hs ha => ?_, fun h hs ha ho => ?_, fun h hs ha ho => ?_,
      fun h hs => ?_⟩,
    ⟨_, rfl, fun h => if_pos h, fun h hs => ?_, fun h hs hr => ?_, fun h hs hr => ?_⟩,
    fun on => ⟨_, rfl, fun h => if_pos h, fun h hs => ?_, fun h hs => ?_⟩,
    fun on => ⟨_, rfl, fun h => if_pos h, fun h hon hs ho => ?_, fun h hon hs ho => ?_, fun h hs => ?_⟩,
    ⟨_, rfl, fun n ht hs => ?_, fun h => ?_⟩, ⟨_, rfl, fun n ht hs => ?_, fun h => ?_⟩,
    ⟨_, rfl, fun n ht hs hlt => ⟨fun ho => ?_, fun ho => ?_⟩, fun n ht hs hle => ?_, fun h => ?_⟩,
    ⟨_, rfl, fun n ht hs => ?_, fun h => ?_⟩,
    ⟨_, rfl, fun n ht hs hp hc => ?_, fun n ht hs hp hc hk => ?_, fun n ht hs hp hc hk => ?_, fun h => ?_⟩⟩
  -- CLS off
  · rw [if_neg (held h)]
    exact moveLeaf_faults (leafCls_disagrees hs)
  · rw [if_neg (held h)]
    exact moveLeaf_quietly (leafCls_off hs) (.inr (.inl rfl))
  -- CLS on
  · rw [if_neg (absent h)]
    exact moveLeaf_quietly (leafCls_on hs) (.inr (.inl rfl))
  · rw [if_neg (absent h)]
    exact moveLeaf_quietly (leafCls_unbolted hs hk) (.inl nofun)
  · rw [if_neg (absent h)]
    exact moveLeaf_quietly (leafCls_bolted hs hk) (.inr (.inr hr))
  · rw [if_neg (absent h)]
    exact moveLeaf_passes (leafCls_bolted hs hk) hk (by rw [hs]; decide) hr
  -- LKS off
  · rw [if_neg (held h)]
    exact moveLeaf_faults (leafLks_disagrees hs)
  · rw [if_neg (held h)]
    exact moveLeaf_quietly (leafLks_manual hs ha) (.inl nofun)
  · rw [if_neg (held h)]
    exact moveLeaf_quietly (leafLks_shut hs ha ho) (.inl nofun)
  · rw [if_neg (held h)]
    exact moveLeaf_quietly (leafLks_open hs ha ho) (.inl nofun)
  · rw [if_neg (held h)]
    exact moveLeaf_quietly (leafLks_off hs) (.inr (.inl rfl))
  -- LKS on
  · rw [if_neg (absent h)]
    exact moveLeaf_quietly (leafLks_on hs) (.inr (.inl rfl))
  · rw [if_neg (absent h)]
    exact moveLeaf_quietly (leafLks_locks hs) (.inr (.inr hr))
  · rw [if_neg (absent h)]
    exact moveLeaf_passes (leafLks_locks hs) rfl (by rw [hs]; decide) hr
  -- OPS
  · obtain ⟨rfl, hs⟩ := hs
    rw [if_neg h]
    exact moveLeaf_quietly (congrArg (·, []) (leafOps_opens hs)) (.inl nofun)
  · rw [if_neg h]
    exact moveLeaf_quietly (congrArg (·, []) (leafOps_other hs)) (.inr (.inl rfl))
  -- PB
  · subst hon
    rw [if_neg h]
    exact moveLeaf_quietly (congrArg (·, []) (leafPb_shut hs ho)) (.inl nofun)
  · subst hon
    rw [if_neg h]
    exact moveLeaf_quietly (congrArg (·, []) (leafPb_open hs ho)) (.inl nofun)
  · rw [if_neg h]
    exact moveLeaf_quietly (congrArg (·, []) (leafPb_other hs)) (.inr (.inl rfl))
  -- `t_lock`
  · exact moveLeaf_faults (leafExpiry_tLock ht hs)
  · exact moveLeaf_quietly (leafExpiry_idle (h.imp_right (by simp [timeStates]))) (.inr (.inl rfl))
  -- `t_open`
  · exact moveLeaf_faults (leafExpiry_tOpen ht hs)
  · exact moveLeaf_quietly (leafExpiry_idle (h.imp_right (by simp [timeStates]))) (.inr (.inl rfl))
  -- `t_close`
  · exact moveLeaf_obstructed ((leafExpiry_tClose ht hs).trans (obstructed_reopens hlt ho)) nofun
  · exact moveLeaf_obstructed ((leafExpiry_tClose ht hs).trans (obstructed_opened hlt ho)) nofun
  · exact moveLeaf_faults ((leafExpiry_tClose ht hs).trans (obstructed_faulted hle))
  · exact moveLeaf_quietly (leafExpiry_idle (h.imp_right (by simp [timeStates]))) (.inr (.inl rfl))
  -- `t_reopen`
  · exact moveLeaf_quietly (leafExpiry_tReopen ht hs) (.inl nofun)
  · exact moveLeaf_quietly (leafExpiry_idle (h.imp_right (by simp [timeStates]))) (.inr (.inl rfl))
  -- `t_pause`
  · exact moveLeaf_quietly (leafExpiry_tPause_open ht hs hp hc) (.inl nofun)
  · exact moveLeaf_quietly (leafExpiry_tPause_unbolted ht hs hp hc hk) (.inl nofun)
  · have hrow {e : LeafEnv} := leafExpiry_tPause_bolted (e := e) ht hs hp hc hk
    split
    · next hr => exact moveLeaf_passes hrow hk (by rw [hs]; decide) hr
    · next hr => exact moveLeaf_quietly hrow (.inr (.inr (by simpa using hr)))
  · refine moveLeaf_quietly ?_ (.inr (.inl rfl))
    rcases h with h | h | h
    · exact leafExpiry_idle (.inl h)
    · exact leafExpiry_idle (.inr (by simpa [timeStates] using h))
    · exact leafExpiry_tPause_stays h

end Sys2Proof.Proofs
end

section
/-! PROOFS. The requests on one leaf: ISOLATE_LEAF, RESTORE_LEAF and READ_DOOR_FAULT (O48). -/

namespace Sys2Proof.Machine

set_option Elab.async false

variable {id : LeafId} {s : State}

theorem leafOfCode_none {code : Nat} (h : 5 < code) : leafOfCode code = none := by
  unfold leafOfCode
  split
  case h_7 => rfl
  all_goals omega

theorem secured_iff (l : Leaf) : secured l = true ↔ l.cls = true ∧ l.lks = true :=
  Bool.and_eq_true_iff

theorem not_secured_iff (l : Leaf) : secured l = false ↔ l.cls = false ∨ l.lks = false :=
  Bool.and_eq_false_iff

/-! ### ISOLATE_LEAF and RESTORE_LEAF (R139) -/

theorem isolateLeaf_isolated (h : (getLeaf s.doors.leaves id).state = .isolated) : isolateLeaf id s = (.done, s) :=
  if_pos h

theorem isolateLeaf_insecure (h : (getLeaf s.doors.leaves id).state ≠ .isolated)
    (hs : secured (getLeaf s.doors.leaves id) = false) : isolateLeaf id s = (.badState, s) := by
  unfold isolateLeaf
  dsimp only
  rw [if_neg h, if_pos (by rw [hs]; rfl)]

theorem isolateLeaf_secured (h : (getLeaf s.doors.leaves id).state ≠ .isolated)
    (hs : secured (getLeaf s.doors.leaves id) = true) :
    isolateLeaf id s = (.done, moveLeaf id (fun _ l => (enterIsolated l, [])) s) := by
  unfold isolateLeaf
  dsimp only
  rw [if_neg h, if_neg (by rw [hs]; decide)]

theorem restoreLeaf_refused
    (h : (getLeaf s.doors.leaves id).state ≠ .isolated ∨ secured (getLeaf s.doors.leaves id) = false) :
    restoreLeaf id s = (.badState, s) := if_pos h

theorem restoreLeaf_restores (h : (getLeaf s.doors.leaves id).state = .isolated)
    (hs : secured (getLeaf s.doors.leaves id) = true) :
    restoreLeaf id s = (.done, moveLeaf id (fun _ l => (enterLocked l, [])) s) :=
  if_neg (by simp [h, hs])

/-! ### READ_DOOR_FAULT (R134) -/

theorem readDoorFault_none (h : (getLeaf s.doors.leaves id).fault = none) :
    readDoorFault id s = answer .readDoorFault .none (noRecord 6) s := by
  unfold readDoorFault
  dsimp only
  rw [h]

/-- The leaf without its fault record, which a read empties. -/
def faultTaken (id : LeafId) (s : State) : State :=
  s.setDoors { s.doors with
    leaves := putLeaf id { getLeaf s.doors.leaves id with fault := none } s.doors.leaves }

theorem readDoorFault_some {c : LeafCause} {clock : Option Nat}
    (h : (getLeaf s.doors.leaves id).fault = some (c, clock)) :
    readDoorFault id s =
      answer .readDoorFault .accepted (u8 (leafCauseCode c) ++ flagged32 clock) (faultTaken id s) := by
  unfold readDoorFault faultTaken
  dsimp only
  rw [h]

end Sys2Proof.Machine

namespace Sys2Proof.Proofs

set_option Elab.async false

open Machine

/-- Settles O48: the leaf number read by `leafOfCode`, then the checks of each request and the leaf's move. -/
theorem leafRequests : Obligations.LeafRequests := by
  unfold Obligations.LeafRequests
  refine ⟨fun code s h => ?_, fun id s => ?_⟩
  · have hcode := leafOfCode_none h
    refine ⟨⟨_, rfl, ?_⟩, ⟨_, rfl, ?_⟩, ⟨_, rfl, ?_⟩⟩ <;> rw [hcode] <;> exact answer_only _ _ _ s
  intro code l
  have hcode : leafOfCode code = some id := by cases id <;> rfl
  refine ⟨⟨_, rfl, ?_⟩, ⟨_, rfl, ?_⟩, ⟨_, rfl, ?_⟩⟩ <;> rw [hcode] <;> dsimp only
  · refine ⟨fun h => ?_, fun h hloose => ?_, fun h hc hk => ?_⟩
    · rw [isolateLeaf_isolated h]; exact answer_only _ _ _ s
    · rw [isolateLeaf_insecure h ((not_secured_iff _).2 hloose)]; exact answer_only _ _ _ s
    · rw [isolateLeaf_secured h ((secured_iff _).2 ⟨hc, hk⟩)]
      exact ⟨_, moveLeaf_quietly rfl (.inl nofun), answer_frame _ _ _ _, answer_answered _ _ _ _⟩
  · refine ⟨fun h => ?_, fun h hc hk => ?_⟩
    · rw [restoreLeaf_refused (h.imp_right (not_secured_iff _).2)]; exact answer_only _ _ _ s
    · rw [restoreLeaf_restores h ((secured_iff _).2 ⟨hc, hk⟩)]
      refine ⟨_, ?_, answer_frame _ _ _ _, answer_answered _ _ _ _⟩
      split
      · next hr => exact moveLeaf_passes rfl hk (by rw [h]; decide) hr
      · next hr => exact moveLeaf_quietly rfl (.inr (.inr (by simpa using hr)))
  · refine ⟨fun h => ?_, fun c clock h => ?_⟩
    · rw [readDoorFault_none h]; exact answer_only _ _ _ s
    · rw [readDoorFault_some h]
      exact ⟨(setDoors_frame _ s).andThen (answer_frame _ _ _ _), getLeaf_putLeaf _ _ _,
        fun j hj => getLeaf_putLeaf_ne _ _ _ _ hj, rfl, answer_answered _ _ _ _⟩

end Sys2Proof.Proofs
end

section
/-! PROOFS. CLOSE_SIDE and CLOSE_ALL (O47). -/

namespace Sys2Proof.Machine

set_option Elab.async false

/-- A side has taken a close request: its release withdrawn when in force, and each of its leaves moved (R135). -/
def SideClosed (side : Side) (s t : State) : Prop :=
  ((getRelease s.doors side).inForce = true → getRelease t.doors side = ⟨false, false, none, .closeRequest⟩)
  ∧ ((getRelease s.doors side).inForce = false → getRelease t.doors side = getRelease s.doors side)
  ∧ ∀ id, leafSide id = side → CloseTaken s.params (getLeaf s.doors.leaves id) (getLeaf t.doors.leaves id)

/-- The release record as a close request leaves it, before the leaves move. -/
def closeRequested (side : Side) (s : State) : State :=
  if (getRelease s.doors side).inForce then s.setDoors (putRelease side (withdrawnRelease .closeRequest) s.doors) else s

theorem closeSide_eq (side : Side) (s : State) :
    closeSide side s = moveSide side leafClose (closeRequested side s) := rfl

theorem closeRequested_frame (side : Side) (s : State) : OnlyChanges [.doors] s (closeRequested side s) := by
  unfold closeRequested
  split
  · exact setDoors_frame _ s
  · exact .refl _ s

theorem closeRequested_leaves (side : Side) (s : State) : (closeRequested side s).doors.leaves = s.doors.leaves := by
  unfold closeRequested
  split
  · exact (putRelease_closed side _ s.doors).2
  · rfl

theorem closeSide_sideClosed (side : Side) (s : State) : SideClosed side s (closeSide side s) := by
  rw [closeSide_eq]
  refine ⟨fun h => ?_, fun h => ?_, fun id hid => ?_⟩
  · rw [moveSide_release, closeRequested, if_pos h]
    exact getRelease_putRelease side (withdrawnRelease .closeRequest) s.doors
  · rw [moveSide_release, closeRequested, if_neg (by simp [h])]
  · rw [moveSide_leaf, if_pos (.inr hid), closeRequested_leaves]
    exact leafClose_taken (congrArg Params.tClose (closeRequested_frame side s .params (by decide))) _

theorem closeSide_other {side other : Side} (h : side ≠ other) (hs : side ≠ .both) (ho : other ≠ .both) (s : State) :
    SideStands other s (closeSide side s) := by
  rw [closeSide_eq]
  refine ⟨?_, fun id hid => ?_⟩
  · rw [moveSide_release, closeRequested]
    split
    · exact getRelease_putRelease_ne h hs ho _ s.doors
    · rfl
  · rw [moveSide_leaf, if_neg (by rintro (e | e); exacts [hs e, h (e.symm.trans hid)]), closeRequested_leaves]

theorem closeSide_closed (side : Side) (s : State) :
    (closeSide side s).doors.closed = carClosed (closeSide side s).doors.leaves := moveSide_closed _ _ _

theorem closeSide_grows (side : Side) (s : State) : FlagsGrow s (closeSide side s) :=
  FlagsGrow.trans (.of_frame (closeRequested_frame side s)) (moveSide_grows _ _ _)

/-- A side that has closed stays so while the other side closes. -/
theorem SideClosed.then_stands {side : Side} {s t u : State} (h : SideClosed side s t) (hside : SideStands side t u) :
    SideClosed side s u :=
  ⟨fun hf => hside.1.trans (h.1 hf), fun hf => hside.1.trans (h.2.1 hf),
    fun id hid => by rw [hside.2 id hid]; exact h.2.2 id hid⟩

/-- A side that stood while the other side closed. -/
theorem SideClosed.of_stands {side : Side} {s t u : State} (hside : SideStands side s t) (hp : t.params = s.params)
    (h : SideClosed side t u) : SideClosed side s u := by
  refine ⟨fun hf => h.1 (by rw [hside.1]; exact hf), fun hf => ?_, fun id hid => ?_⟩
  · exact (h.2.1 (by rw [hside.1]; exact hf)).trans hside.1
  · rw [← hside.2 id hid, ← hp]
    exact h.2.2 id hid

end Sys2Proof.Machine

namespace Sys2Proof.Proofs

set_option Elab.async false

open Machine

/-- Settles O47: a side's close request reaches its own release and leaves (`closeSide_sideClosed`) and leaves the other
side as it stands (`closeSide_other`). -/
theorem closeSides : Obligations.CloseSides := by
  unfold Obligations.CloseSides
  intro s closes
  refine ⟨fun code => ⟨_, rfl, fun h => ?_, fun side hs hcode => ?_⟩,
    ⟨answer .closeAll .done [] (closeSide .right (closeSide .left s)), rfl, ?_⟩⟩
  · rw [sideOfCode_none h]; exact answer_only _ _ _ s
  · rw [sideOfCode_iff.2 ⟨hs, hcode⟩]
    dsimp only
    have hframe := closeSide_frame side s
    have htaken := closeSide_sideClosed side s
    have hother (other : Side) (h : side ≠ other) (ho : other ≠ .both) := closeSide_other h hs ho s
    have hclosed := closeSide_closed side s
    have hanswer := answered_of_grows .closeSide (x := (.done, closeSide side s)) (closeSide_grows side s)
    generalize closeSide side s = t at *
    refine ⟨hframe.andThen (answer_frame .closeSide .done [] t), htaken, fun h => ?_, fun h => ?_, fun id hid => ?_,
      hclosed, hanswer⟩
    · subst h; exact (hother .right (by decide) (by decide)).1
    · subst h; exact (hother .left (by decide) (by decide)).1
    · exact (hother (leafSide id) (Ne.symm hid) (by cases id <;> decide)).2 id rfl
  · have fr := closeSide_frame .left s
    have hleft := (closeSide_sideClosed .left s).then_stands
      (closeSide_other (side := .right) (by decide) (by decide) (by decide) _)
    have hright := SideClosed.of_stands (closeSide_other (other := .right) (by decide) (by decide) (by decide) s)
      (fr .params (by decide)) (closeSide_sideClosed .right _)
    have hgrows := (closeSide_grows .left s).trans (closeSide_grows .right _)
    have hanswer := answered_of_grows .closeAll (x := (.done, closeSide .right (closeSide .left s))) hgrows
    have hclosed := closeSide_closed .right (closeSide .left s)
    have hframe := fr.trans (closeSide_frame .right _)
    generalize closeSide .right (closeSide .left s) = t at *
    exact ⟨hframe.andThen (answer_frame .closeAll .done [] t), hleft, hright, hclosed, hanswer⟩

end Sys2Proof.Proofs
end

section
/-! PROOFS. RELEASE_SIDE (O46): the platform a release records, the grant to each leaf, and the checks before them. -/

namespace Sys2Proof.Machine

set_option Elab.async false

variable {s : State} {side : Side} {auto : Bool}

/-! ### The platforms over the safe extent (R136, check 4) -/

/-- A section in view carries the platform, and the platform contains the whole safe extent of the last sample. -/
def StandsAt (s : State) (r : SectionRec) (q : Platform) : Prop :=
  (∃ e, some e ∈ s.window ∧ s.line.records[e.index]? = some r) ∧ r.platform = some q
    ∧ (q.lo : Int) ≤ (s.odo.sample.p : Int) - s.params.L - s.odo.sample.u
    ∧ (s.odo.sample.p : Int) + s.odo.sample.u ≤ (q.hi : Int)

theorem stands_iff_standsAt {q : Platform} : Stands s q ↔ ∃ r, StandsAt s r q := by
  constructor
  · rintro ⟨⟨e, r, he, hr, hq⟩, hlo, hhi⟩
    exact ⟨r, ⟨e, he, hr⟩, hq, hlo, hhi⟩
  · rintro ⟨r, ⟨e, he, hr⟩, hq, hlo, hhi⟩
    exact ⟨⟨e, r, he, hr, hq⟩, hlo, hhi⟩

/-- The platform a window entry puts over the safe extent, with its section's number. -/
def platformOver (s : State) (o : Option WinEntry) : Option (Platform × Nat) :=
  (o.bind (fun e => recordAt s e.index)).bind fun r =>
    r.platform.bind fun p =>
      if (p.lo : Int) ≤ extentLo s.params.L s.odo.sample.p s.odo.sample.u
          ∧ extentHi s.odo.sample.p s.odo.sample.u ≤ (p.hi : Int) then some (p, r.number) else none

theorem containingPlatforms_eq (s : State) : containingPlatforms s = s.window.filterMap (platformOver s) := rfl

theorem platformOver_iff {o : Option WinEntry} {q : Platform} {n : Nat} (ho : o ∈ s.window) :
    platformOver s o = some (q, n) ↔
      ∃ e r, o = some e ∧ s.line.records[e.index]? = some r ∧ StandsAt s r q ∧ r.number = n := by
  unfold platformOver
  simp only [Option.bind_eq_some_iff, Option.ite_none_right_eq_some, Option.some.injEq, Prod.mk.injEq]
  constructor
  · rintro ⟨r, ⟨e, rfl, hr⟩, _, hq, ⟨hlo, hhi⟩, rfl, hn⟩
    exact ⟨e, r, rfl, hr, ⟨⟨e, ho, hr⟩, hq, hlo, hhi⟩, hn⟩
  · rintro ⟨e, r, rfl, hr, ⟨-, hq, hlo, hhi⟩, hn⟩
    exact ⟨r, ⟨e, rfl, hr⟩, q, hq, ⟨hlo, hhi⟩, rfl, hn⟩

/-- Some platform over the safe extent serves the side: the one recorded is such a platform. -/
theorem qualifyingPlatform_serves (h : ∃ q, Stands s q ∧ (q.side = .both ∨ q.side = side)) :
    ∃ r q, StandsAt s r q ∧ (q.side = .both ∨ q.side = side)
      ∧ qualifyingPlatform side s = some (q.id, r.number) := by
  obtain ⟨q₀, hstands, hserves⟩ := h
  have hsome : (qualifyingPlatform side s).isNone = false :=
    Bool.eq_false_iff.2 fun hnone => wrongSide_iff.1 hnone q₀ hstands hserves
  unfold qualifyingPlatform at hsome ⊢
  cases hx : (containingPlatforms s).find? (fun x => sideIncludes x.1.side side) with
  | none => rw [hx] at hsome; cases hsome
  | some x =>
    obtain ⟨o, ho, hover⟩ := List.mem_filterMap.1 (List.mem_of_find?_eq_some hx)
    obtain ⟨_, r, -, -, hat, hn⟩ := (platformOver_iff ho).1 hover
    exact ⟨r, x.1, hat, sideIncludes_iff.1 (by simpa using List.find?_some hx), by rw [hn]; rfl⟩

/-- The platform recorded is that of the first window entry, in offset order, with one that serves the side. -/
theorem qualifyingPlatform_first {k : Nat} {e : WinEntry} {r : SectionRec} {q : Platform}
    (he : s.window[k]? = some (some e)) (hr : s.line.records[e.index]? = some r) (hat : StandsAt s r q)
    (hserves : q.side = .both ∨ q.side = side)
    (hfirst : ∀ j < k, ∀ (f : WinEntry) (r' : SectionRec) (q' : Platform), s.window[j]? = some (some f) →
      s.line.records[f.index]? = some r' → StandsAt s r' q' → ¬ (q'.side = .both ∨ q'.side = side)) :
    qualifyingPlatform side s = some (q.id, r.number) := by
  obtain ⟨hk, hget⟩ := List.getElem?_eq_some_iff.1 he
  have hover : platformOver s (some e) = some (q, r.number) :=
    (platformOver_iff (List.mem_of_getElem? he)).2 ⟨e, r, rfl, hr, hat, rfl⟩
  have hfind : s.window.find? (fun o => (platformOver s o).any (fun x => sideIncludes x.1.side side)) =
      some (some e) := by
    refine List.find?_eq_some_iff_getElem.2 ⟨?_, k, hk, hget, fun j hj => ?_⟩
    · rw [hover]; exact sideIncludes_iff.2 hserves
    · rw [Bool.not_eq_true', Bool.eq_false_iff]
      intro hany
      obtain ⟨⟨q', n⟩, hover', hincl⟩ := (Option.any_eq_true _ _).1 hany
      obtain ⟨f, r', hf, hr', hat', -⟩ := (platformOver_iff (List.getElem_mem _)).1 hover'
      exact hfirst j hj f r' q' (List.getElem?_eq_some_iff.2 ⟨hj.trans hk, hf⟩) hr' hat' (sideIncludes_iff.1 hincl)
  unfold qualifyingPlatform
  rw [containingPlatforms_eq, List.find?_filterMap, hfind]
  exact congrArg _ hover

/-! ### The grant (R137) -/

/-- What the grant makes of a leaf. -/
def GrantTaken (auto : Bool) (p : Params) (l m : Leaf) : Prop :=
  (l.state = .locked → l.lks = true → m = unboltedFrom l)
  ∧ (l.state = .locked → l.lks = false → auto = false → m = { l with state := .unlocked, timer := none })
  ∧ (l.state = .locked ∧ l.lks = false ∨ l.state = .unlocked → auto = true → l.ops = false →
      m = { l with state := .opening, timer := some (.tOpen, p.tOpen) })
  ∧ (l.state = .locked ∧ l.lks = false ∨ l.state = .unlocked → auto = true → l.ops = true → m = stoodOpen l)
  ∧ (l.state = .unlocked → auto = false → m = l)
  ∧ (l.state = .opened → m = { l with closePending := false, timer := none })
  ∧ (l.state = .reopening → m = { l with closePending := false })
  ∧ (l.state ∈ [.closing, .locking, .unlocking, .opening, .halted, .fault, .isolated] → m = l)

theorem leafGrant_unbolted {e : LeafEnv} {l : Leaf} (hs : l.state = .locked) (hk : l.lks = false) :
    leafGrant e l = boltRetracted e l := by
  rw [leafGrant_locked hs, enterUnlocking_unbolted hk]

/-- With automatic opening an unbolted leaf opens at once. -/
theorem leafGrant_opens {e : LeafEnv} {l : Leaf} (ha : e.autoOpen = true)
    (hs : l.state = .locked ∧ l.lks = false ∨ l.state = .unlocked) : leafGrant e l = enterOpening e l := by
  rcases hs with ⟨hs, hk⟩ | hs
  · rw [leafGrant_unbolted hs hk, boltRetracted_auto ha]
  · rw [leafGrant_unlocked hs, if_pos ha]

theorem leafGrant_taken {e : LeafEnv} {p : Params} (ha : e.autoOpen = auto) (ht : e.tOpen = p.tOpen) (l : Leaf) :
    GrantTaken auto p l (leafGrant e l) := by
  subst ha
  refine ⟨fun hs hk => ?_, fun hs hk ha => ?_, fun hs ha ho => ?_, fun hs ha ho => ?_, fun hs ha => ?_,
    leafGrant_opened, leafGrant_reopening, leafGrant_other⟩
  · rw [leafGrant_locked hs, enterUnlocking_bolted hk]
  · rw [leafGrant_unbolted hs hk, boltRetracted_manual ha]
  · rw [leafGrant_opens ha hs, enterOpening_shut ho, ht]
  · rw [leafGrant_opens ha hs, enterOpening_open ho]
  · rw [leafGrant_unlocked hs, if_neg (by simp [ha])]

/-- The record a release puts in force. -/
def grantedRecord (side : Side) (auto : Bool) (s : State) : SideRelease :=
  { getRelease s.doors side with
    inForce := true, autoOpen := auto, platform := if s.sup.mode = .line then qualifyingPlatform side s else none }

/-- The release in force, before the leaves move. -/
def releasePut (side : Side) (auto : Bool) (s : State) : State :=
  s.setDoors (putRelease side (grantedRecord side auto s) s.doors)

theorem grantRelease_eq (side : Side) (auto : Bool) (s : State) :
    grantRelease side auto s = moveSide side leafGrant (releasePut side auto s) := rfl

theorem releasePut_leaves : (releasePut side auto s).doors.leaves = s.doors.leaves :=
  (putRelease_closed side _ s.doors).2

theorem releasePut_release : getRelease (releasePut side auto s).doors side = grantedRecord side auto s :=
  getRelease_putRelease side _ s.doors

theorem grantRelease_release : getRelease (grantRelease side auto s).doors side = grantedRecord side auto s := by
  rw [grantRelease_eq, moveSide_release, releasePut_release]

/-- The other side stands. -/
theorem grantRelease_other {other : Side} (h : side ≠ other) (hs : side ≠ .both) (ho : other ≠ .both) :
    SideStands other s (grantRelease side auto s) := by
  rw [grantRelease_eq]
  refine ⟨?_, fun id hid => ?_⟩
  · rw [moveSide_release]
    exact getRelease_putRelease_ne h hs ho _ s.doors
  · rw [moveSide_leaf, if_neg (by rintro (e | e); exacts [hs e, h (e.symm.trans hid)]), releasePut_leaves]

theorem grantRelease_leaf {id : LeafId} (hid : leafSide id = side) :
    GrantTaken auto s.params (getLeaf s.doors.leaves id) (getLeaf (grantRelease side auto s).doors.leaves id) := by
  rw [grantRelease_eq, moveSide_leaf, if_pos (.inr hid), releasePut_leaves]
  exact leafGrant_taken (congrArg SideRelease.autoOpen releasePut_release) rfl _

theorem grantRelease_grows (side : Side) (auto : Bool) (s : State) : FlagsGrow s (grantRelease side auto s) :=
  FlagsGrow.trans (.of_frame (setDoors_frame _ s)) (moveSide_grows side leafGrant (releasePut side auto s))

/-! ### The request (R136) -/

theorem releaseSide_badValue {code : Nat} (h : sideOfCode code = none) : releaseSide code auto s = (.badValue, s) := by
  unfold releaseSide
  rw [h]

theorem releaseSide_refused {code : Nat} {w : Withdrawal} (h : sideOfCode code = some side) (hw : w ≠ .none)
    (hc : releaseCheck side s.odo.state s = w) : releaseSide code auto s = (releaseResult w, s) := by
  subst hc
  unfold releaseSide
  rw [h]
  dsimp only
  split
  next hc => exact absurd hc hw
  next => rfl

theorem releaseSide_granted {code : Nat} (h : sideOfCode code = some side)
    (hc : releaseCheck side s.odo.state s = .none) : releaseSide code auto s = (.done, grantRelease side auto s) := by
  unfold releaseSide
  rw [h]
  dsimp only
  rw [hc]

end Sys2Proof.Machine

namespace Sys2Proof.Proofs

set_option Elab.async false

open Machine

/-- A check of R136 that fails is the whole answer. -/
theorem releaseSide_answeredOnly {code : Nat} {auto : Bool} {side : Side} {s : State}
    (h : sideOfCode code = some side) (w : Withdrawal) (hc : releaseCheck side s.odo.state s = w)
    (hw : w ≠ .none := by decide) :
    AnsweredOnly .releaseSide (releaseResult w) [] s (answerResult .releaseSide (Machine.releaseSide code auto s)) := by
  rw [releaseSide_refused h hw hc]
  exact answer_only _ _ _ s

/-- Settles O46: the checks by `releaseCheck_spec`, the platform by `qualifyingPlatform_serves` and
`qualifyingPlatform_first`, and the leaves by `grantRelease_leaf`. -/
theorem releaseSide : Obligations.ReleaseSide := by
  unfold Obligations.ReleaseSide
  intro code auto s
  refine ⟨answerResult .releaseSide (Machine.releaseSide code auto s), rfl, fun h => ?_, fun side hs hcode => ?_⟩
  · rw [releaseSide_badValue (sideOfCode_none h)]; exact answer_only _ _ _ s
  intro known lo hi stands serves forbidden
  have hside := sideOfCode_iff.2 ⟨hs, hcode⟩
  subst hcode
  have hnone (h : ∀ r q, ¬ stands r q) (q : Platform) : ¬ Stands s q :=
    fun hq => (stands_iff_standsAt.1 hq).elim fun r hr => h r q hr
  have hsome : (∃ r q, stands r q ∧ serves q) → ∃ q, Stands s q ∧ serves q :=
    fun ⟨r, q, hr, hq⟩ => ⟨q, stands_iff_standsAt.2 ⟨r, hr⟩, hq⟩
  obtain ⟨hmode, hyard⟩ := releaseCheck_spec (s := s) hs s.odo.state
  refine ⟨fun h1 h2 => releaseSide_answeredOnly hside .mode (hmode h1 h2), fun hm => ?_⟩
  obtain ⟨hmoving, hstill⟩ := hyard hm
  refine ⟨fun h => releaseSide_answeredOnly hside .notStill (hmoving h), fun h => ?_⟩
  obtain ⟨hodo, hplat, hwrong, hrestr, hpass⟩ := hstill h
  refine ⟨fun h1 h2 => releaseSide_answeredOnly hside .odometry (hodo h1 h2),
    fun h1 h2 h3 => releaseSide_answeredOnly hside .noPlatform (hplat h1 h2 (hnone h3)),
    fun h1 h2 ⟨r, q, hr⟩ h4 => releaseSide_answeredOnly hside .wrongSide (hwrong h1 h2
      ⟨q, stands_iff_standsAt.2 ⟨r, hr⟩⟩ fun q hq => (stands_iff_standsAt.1 hq).elim fun r hr => h4 r q hr),
    fun h1 h2 h3 => releaseSide_answeredOnly hside .doorRestricted (hrestr (fun hl => hsome (h1 hl)) h2 h3),
    fun h1 h2 => ?_⟩
  rw [releaseSide_granted hside (hpass (fun hl => (h1 hl).imp_right hsome) h2)]
  have hrec := grantRelease_release (side := side) (auto := auto) (s := s)
  have hother := fun other => grantRelease_other (auto := auto) (s := s) (other := other) (side := side)
  have hleaf := fun id => grantRelease_leaf (id := id) (auto := auto) (s := s) (side := side)
  have hclosed : (grantRelease side auto s).doors.closed = carClosed (grantRelease side auto s).doors.leaves :=
    moveSide_closed _ _ _
  have hframe := grantRelease_frame side auto s
  have hanswer := answered_of_grows .releaseSide (x := (.done, grantRelease side auto s))
    (grantRelease_grows side auto s)
  generalize grantRelease side auto s = t at *
  have hcause : (getRelease t.doors side).cause = (getRelease s.doors side).cause := by rw [hrec]; rfl
  have hplatform : (getRelease t.doors side).platform =
      if s.sup.mode = .line then qualifyingPlatform side s else none := by rw [hrec]; rfl
  refine ⟨hframe.andThen (answer_frame .releaseSide .done [] t), congrArg SideRelease.inForce hrec,
    congrArg SideRelease.autoOpen hrec, hcause, fun hd => ?_, fun hl => ?_,
    fun k e r q hl he hr hat hq hfirst => ?_, fun id hid => ?_, fun hleft => ?_, fun hright => ?_, hleaf, hclosed,
    hanswer⟩
  · exact hplatform.trans (if_neg (by rw [hd]; decide))
  · obtain ⟨r, q, hat, hq, hqual⟩ := qualifyingPlatform_serves (side := side) (hsome (h1 hl).2)
    exact ⟨r, q, hat, hq, (hplatform.trans (if_pos hl)).trans hqual⟩
  · exact (hplatform.trans (if_pos hl)).trans (qualifyingPlatform_first he hr hat hq hfirst)
  · exact (hother (leafSide id) (Ne.symm hid) hs (by cases id <;> decide)).2 id rfl
  · subst hleft; exact (hother .right (by decide) (by decide) (by decide)).1
  · subst hright; exact (hother .left (by decide) (by decide) (by decide)).1

end Sys2Proof.Proofs
end
